-- ==== Sys2Proof/Word.lean ====
section
/-! DEFINITION. The word types of the part (R10, R11) and the type of sparse data. -/

namespace Sys2Proof

/-- A byte; multi-byte fields are little-endian (R11). -/
abbrev Byte := BitVec 8

/-- A 32-bit register of a Thrower core or of a block. -/
abbrev Word := BitVec 32

/-- An address of the 40-bit internal address space (R34). -/
abbrev Addr := BitVec 40

/-- Sparse data by number: (number, value) pairs, numbers strictly rising, no entry equal to what an
unlisted number reads as. -/
abbrev FMap (α : Type) := List (Nat × α)

end Sys2Proof
end

