-- ==== Sys2Proof/Syntax.lean ====
section
/-! DEFINITION. The commands of the part: one constructor per row of the opcode table, and the operands they carry. -/

namespace Sys2Proof

/-- A Thrower core (R100): one of the two control pairs, the 28 service cores or the 160 crucibles. -/
inductive CoreId where
  | control (pair : Fin 2)
  | service (core : Fin 28)
  | crucible (n : Fin 160)
deriving DecidableEq, Repr

/-- Where a Depepa request comes from (R162, R172): the mailbox of a host function, a queue pair (with the
submission slot of its descriptor), a sideband vendor message, or service code in a ring of a core. -/
inductive Route where
  | mailbox (fn : BitVec 6)
  | queue (qp : BitVec 12) (slot : BitVec 12)
  | sideband (vdm : Bool) (tag : BitVec 3)
  | ring (core : CoreId) (ring : BitVec 2)
deriving DecidableEq, Repr

/-- A Depepa request as it arrives (R171): header fields, payload bytes and, where the payload or the
response is carried by reference, the bytes the DMA read returned and the room at the destination. -/
structure Req where
  route    : Route
  flags    : BitVec 16
  tag      : BitVec 32
  saggar   : BitVec 16
  reserved : BitVec 16
  length   : BitVec 32
  payload  : List Byte
  /-- Bytes read through a buffer reference of the payload, where it has one. -/
  data     : List Byte
  /-- Response buffer of a command descriptor: address and room. -/
  respAddr : BitVec 64
  respRoom : BitVec 32
  dmaFails : Bool
deriving DecidableEq, Repr

/-- A 64-byte data descriptor (R237) with the bytes its source region held when it was read. -/
structure DataDesc where
  flags    : BitVec 16
  tag      : BitVec 32
  length   : BitVec 32
  saggar   : BitVec 16
  reserved : BitVec 16
  session  : BitVec 64
  srcAddr  : BitVec 64
  dstAddr  : BitVec 64
  aadLen   : BitVec 32
  capacity : BitVec 32
  seq      : BitVec 64
  rsvd64   : BitVec 64
  source   : List Byte
deriving DecidableEq, Repr

/-- What a fetch of the next submission entry of a queue pair brought (R223, R226). -/
inductive FetchResult where
  | failed
  | command (opcode : BitVec 16) (rq : Req)
  | data (d : DataDesc)
deriving DecidableEq, Repr

/-- What burning the pattern of a life-cycle state left in the fuses (R474, R477): every fuse of the pattern took, or the
fuses of the two copies that took at the margin level and those that took at the normal level alone. -/
inductive FuseOutcome where
  | burnt
  | weak (copyA copyB normalA normalB : BitVec 192)
deriving DecidableEq, Repr

/-- A card's answer to reset as the port received it (R491, R492). -/
structure CardAtr where
  present  : Bool
  answered : Bool
  atr      : List Byte
  fidi     : BitVec 8
deriving DecidableEq, Repr

/-- A card's answer to one APDU (R493, R494). -/
inductive CardReply where
  | removed
  | timeout
  | failed
  | answer (bytes : List Byte)
deriving DecidableEq, Repr

/-- What the archive port finds when a card is mounted (R498, R499). -/
inductive ArchiveCard where
  | absent
  | unusable
  /-- Its CID, C_SIZE of its CSD, SDXC, and the fastest bus mode it allows. -/
  | usable (cid : BitVec 128) (csize : BitVec 22) (xc : Bool) (top : BitVec 2)
deriving DecidableEq, Repr

/-- How the write of a kiln block ended (R500): at the first attempt, at the second one after a CRC status error, with a CRC
status error on both, or without an answer within the limits. -/
inductive BlockWrite where
  | written | repeated | crcFailed | noAnswer
deriving DecidableEq, Repr

/-- How a module call ended (R589): RETG with its module status, its output length and the output; a synchronous fault;
the loss of its core; or the call still runs. -/
inductive ModuleOutcome where
  | returned (status : BitVec 32) (length : Nat) (output : List Byte)
  | faulted
  | coreLost
  | runs
deriving DecidableEq, Repr

/-- How the PCIe link was lost (R229, R230). -/
inductive LinkLossKind where
  | perst
  | hotReset
  | dataLinkDown
deriving DecidableEq, Repr

/-- The fields of a function's configuration space that the part reads (R79, R208, R226, R227). -/
inductive ConfigField where
  | memoryEnable | busMaster | msixEnable | dState | vfEnable | ltrEnable | ltrSnoop | ltrNoSnoop
deriving DecidableEq, Repr

/-- What reading a key-cache line brought (R416, R419). -/
inductive LineRead where
  | good
  | repaired
  | lost
deriving DecidableEq, Repr

/-- What a failed check of a memory line led to, where an event of the sources 256 to 261 tells of one (R416, R417, R419,
R424): a failed check on a channel, and whether the line was rewritten from its other copy; or the loss of a line: a record
of the tally backlog, an entry of the session table, an entry or slot of the handshake state, or a line of the service data
pool that a core read, with the notice's INFO
and the module call it ran, if any. -/
inductive LineFault where
  | none
  | check (channel : BitVec 4) (rewritten : Bool)
  | backlog (seq : BitVec 64)
  | session (index : BitVec 24)
  | handshake (index : BitVec 24)
  | pool (core : CoreId) (info : BitVec 4) (call : Option Nat)
deriving DecidableEq, Repr

/-- A health test of the entropy source (R393). -/
inductive HealthTest where
  | repetition | proportion | alive | lock
deriving DecidableEq, Repr

/-- The units that hold roles (R18). -/
inductive UnitClass where
  | lane | crucible | service
deriving DecidableEq, Repr

/-- Why a cone is left (R77). -/
inductive WakeSource where
  | host | doorbell | sideband | reader | card | tamper | timer
deriving DecidableEq, Repr

/-- A session flag of the tag (R518). -/
inductive TagFlag where
  | s0 | s1 | s2 | s3 | sl
deriving DecidableEq, Repr

/-- A failing row or column that a march test found: the macro within the unit and the row or column within the macro
(R541). -/
structure BadLine where
  column  : Bool
  macro_  : BitVec 16
  address : BitVec 16
deriving DecidableEq, Repr

/-- How a self-test slice ended (R531, R536): a failure with bits 15 to 0 of its signature and, for a march test, the rows
and columns that fail; where it names none, the row of the signature alone fails. -/
inductive SliceResult where
  | passed
  | failed (detail : BitVec 32) (lines : List BadLine)
deriving DecidableEq, Repr

/-- One MCTP packet as a sideband binding received it (R557). -/
structure MctpPacket where
  version : BitVec 4
  dest    : BitVec 8
  source  : BitVec 8
  som     : Bool
  eom     : Bool
  seq     : BitVec 2
  tag     : BitVec 3
  owner   : Bool
  /-- The integrity-check bit beside the message type, of a packet with SOM. -/
  check   : Bool
  msgType : BitVec 7
  pecGood : Bool
  /-- The message bytes it carries; of a packet with SOM, those after the type byte. -/
  body    : List Byte
deriving DecidableEq, Repr

/-- The transports that carry SPDM (R560). -/
inductive SpdmTransport where
  | wire | vdm | doe
deriving DecidableEq, Repr

/-- Who writes which register (R34, R207): a core at an internal address, or a host function through a BAR. -/
inductive RegTarget where
  | internal (core : CoreId) (addr : BitVec 40)
  | host (fn : BitVec 6) (bar2 : Bool) (offset : BitVec 32)
deriving DecidableEq, Repr

/-- What the part finds when it boots (R93). -/
structure BootEnv where
  /-- Backup cell present, VDD_HOLD in its range, a VDD_CORE regulator that answers as R67 requires. -/
  vbat      : Bool
  vddHold   : Bool
  regulator : Bool
  /-- The pairing secrets of the dies match. -/
  pairs     : Bool
  /-- The patch bank selected, and the other one, fail to read or to verify. -/
  bankFails  : Bool
  otherFails : Bool
  /-- Channels that trained. -/
  trained   : BitVec 16
  /-- First failure of a full BIST, where one runs: class, unit and signature. -/
  bistFails : Option (BitVec 8 × BitVec 16 × BitVec 32)
deriving DecidableEq, Repr

/-- The commands the block takes: one constructor per row of spec/opcode_table.json, in its order. -/
inductive Instr where
  /-- ADD (R110). -/
  | add (c : CoreId) (rd rs1 rs2 : BitVec 5)
  /-- SUB (R110). -/
  | sub (c : CoreId) (rd rs1 rs2 : BitVec 5)
  /-- AND (R110). -/
  | andW (c : CoreId) (rd rs1 rs2 : BitVec 5)
  /-- OR (R110). -/
  | orW (c : CoreId) (rd rs1 rs2 : BitVec 5)
  /-- XOR (R110). -/
  | xorW (c : CoreId) (rd rs1 rs2 : BitVec 5)
  /-- SLL (R110). -/
  | sll (c : CoreId) (rd rs1 rs2 : BitVec 5)
  /-- SRL (R110). -/
  | srl (c : CoreId) (rd rs1 rs2 : BitVec 5)
  /-- SRA (R110). -/
  | sra (c : CoreId) (rd rs1 rs2 : BitVec 5)
  /-- SLT (R110). -/
  | slt (c : CoreId) (rd rs1 rs2 : BitVec 5)
  /-- SLTU (R110). -/
  | sltu (c : CoreId) (rd rs1 rs2 : BitVec 5)
  /-- MUL (R110). -/
  | mul (c : CoreId) (rd rs1 rs2 : BitVec 5)
  /-- MULHU (R110). -/
  | mulhu (c : CoreId) (rd rs1 rs2 : BitVec 5)
  /-- MULH (R110). -/
  | mulh (c : CoreId) (rd rs1 rs2 : BitVec 5)
  /-- ADDV (R132). -/
  | addv (c : CoreId) (rd rs1 rs2 : BitVec 5)
  /-- SUBV (R132). -/
  | subv (c : CoreId) (rd rs1 rs2 : BitVec 5)
  /-- MULV (R132). -/
  | mulv (c : CoreId) (rd rs1 rs2 : BitVec 5)
  /-- DIV (R132). -/
  | div (c : CoreId) (rd rs1 rs2 : BitVec 5)
  /-- DIVU (R132). -/
  | divu (c : CoreId) (rd rs1 rs2 : BitVec 5)
  /-- REM (R132). -/
  | rem (c : CoreId) (rd rs1 rs2 : BitVec 5)
  /-- REMU (R132). -/
  | remu (c : CoreId) (rd rs1 rs2 : BitVec 5)
  /-- ADDI (R109). -/
  | addi (c : CoreId) (rd rs1 : BitVec 5) (imm : BitVec 14)
  /-- ANDI (R109). -/
  | andi (c : CoreId) (rd rs1 : BitVec 5) (imm : BitVec 14)
  /-- ORI (R109). -/
  | ori (c : CoreId) (rd rs1 : BitVec 5) (imm : BitVec 14)
  /-- XORI (R109). -/
  | xori (c : CoreId) (rd rs1 : BitVec 5) (imm : BitVec 14)
  /-- SLLI (R109). -/
  | slli (c : CoreId) (rd rs1 : BitVec 5) (imm : BitVec 14)
  /-- SRLI (R109). -/
  | srli (c : CoreId) (rd rs1 : BitVec 5) (imm : BitVec 14)
  /-- SRAI (R109). -/
  | srai (c : CoreId) (rd rs1 : BitVec 5) (imm : BitVec 14)
  /-- SLTI (R109). -/
  | slti (c : CoreId) (rd rs1 : BitVec 5) (imm : BitVec 14)
  /-- SLTIU (R109). -/
  | sltiu (c : CoreId) (rd rs1 : BitVec 5) (imm : BitVec 14)
  /-- ADDVI (R132). -/
  | addvi (c : CoreId) (rd rs1 : BitVec 5) (imm : BitVec 14)
  /-- LUI (R109). -/
  | lui (c : CoreId) (rd : BitVec 5) (imm : BitVec 19)
  /-- MOVI (R112). -/
  | movi (c : CoreId) (rd : BitVec 4) (imm : BitVec 6)
  /-- MOV (R112). -/
  | mov (c : CoreId) (rd rs : BitVec 4)
  /-- LDW (R128). -/
  | ldw (c : CoreId) (rd : BitVec 5) (p mode : BitVec 3) (disp : BitVec 13)
  /-- LDH (R128). -/
  | ldh (c : CoreId) (rd : BitVec 5) (p mode : BitVec 3) (disp : BitVec 13)
  /-- LDHU (R128). -/
  | ldhu (c : CoreId) (rd : BitVec 5) (p mode : BitVec 3) (disp : BitVec 13)
  /-- LDB (R128). -/
  | ldb (c : CoreId) (rd : BitVec 5) (p mode : BitVec 3) (disp : BitVec 13)
  /-- LDBU (R128). -/
  | ldbu (c : CoreId) (rd : BitVec 5) (p mode : BitVec 3) (disp : BitVec 13)
  /-- STW (R128). -/
  | stw (c : CoreId) (rd : BitVec 5) (p mode : BitVec 3) (disp : BitVec 13)
  /-- STH (R128). -/
  | sth (c : CoreId) (rd : BitVec 5) (p mode : BitVec 3) (disp : BitVec 13)
  /-- STB (R128). -/
  | stb (c : CoreId) (rd : BitVec 5) (p mode : BitVec 3) (disp : BitVec 13)
  /-- LDGW (R128). -/
  | ldgw (c : CoreId) (rd rs1 : BitVec 5) (imm : BitVec 14)
  /-- STGW (R128). -/
  | stgw (c : CoreId) (rd rs1 : BitVec 5) (imm : BitVec 14)
  /-- BEQ (R116). -/
  | beq (c : CoreId) (rs1 rs2 : BitVec 5) (off : BitVec 14)
  /-- BNE (R116). -/
  | bne (c : CoreId) (rs1 rs2 : BitVec 5) (off : BitVec 14)
  /-- BLT (R116). -/
  | blt (c : CoreId) (rs1 rs2 : BitVec 5) (off : BitVec 14)
  /-- BGE (R116). -/
  | bge (c : CoreId) (rs1 rs2 : BitVec 5) (off : BitVec 14)
  /-- BLTU (R116). -/
  | bltu (c : CoreId) (rs1 rs2 : BitVec 5) (off : BitVec 14)
  /-- BGEU (R116). -/
  | bgeu (c : CoreId) (rs1 rs2 : BitVec 5) (off : BitVec 14)
  /-- BEQZ (R116). -/
  | beqz (c : CoreId) (rs1 rs2 : BitVec 5) (off : BitVec 14)
  /-- BNEZ (R116). -/
  | bnez (c : CoreId) (rs1 rs2 : BitVec 5) (off : BitVec 14)
  /-- JMP (R116). -/
  | jmp (c : CoreId) (off : BitVec 24)
  /-- CALL (R117). -/
  | call (c : CoreId) (off : BitVec 24)
  /-- JR (R109). -/
  | jr (c : CoreId) (rs1 : BitVec 5)
  /-- CALLR (R109). -/
  | callr (c : CoreId) (rd rs1 : BitVec 5)
  /-- RET (R109). -/
  | ret (c : CoreId) (fields : BitVec 24)
  /-- CALLG (R146). -/
  | callg (c : CoreId) (rd rs1 : BitVec 5) (imm : BitVec 14)
  /-- RETG (R147). -/
  | retg (c : CoreId) (fields : BitVec 24)
  /-- ERET (R154). -/
  | eret (c : CoreId) (fields : BitVec 24)
  /-- BRK (R149). -/
  | brk (c : CoreId)
  /-- FENCE (R129). -/
  | fence (c : CoreId)
  /-- WAIT (R129). -/
  | wait (c : CoreId)
  /-- MFS (R106). -/
  | mfs (c : CoreId) (rd : BitVec 5) (imm : BitVec 14)
  /-- MTS (R106). -/
  | mts (c : CoreId) (rs1 : BitVec 5) (imm : BitVec 14)
  /-- LOOPI (R120). -/
  | loopi (c : CoreId) (k : BitVec 2) (count : BitVec 10) (off : BitVec 12)
  /-- LOOP (R120). -/
  | loop (c : CoreId) (k : BitVec 2) (rs zero : BitVec 5) (off : BitVec 12)
  /-- LCLR (R120). -/
  | lclr (c : CoreId) (k : BitVec 2) (zero : BitVec 22)
  /-- PSETL (R109). -/
  | psetl (c : CoreId) (pd rs1 : BitVec 5)
  /-- PSETH (R109). -/
  | pseth (c : CoreId) (pd : BitVec 5) (imm : BitVec 14)
  /-- PGET (R109). -/
  | pget (c : CoreId) (rd ps : BitVec 5)
  /-- PGETH (R109). -/
  | pgeth (c : CoreId) (rd ps : BitVec 5)
  /-- PADDI (R103). -/
  | paddi (c : CoreId) (pd : BitVec 5) (imm : BitVec 14)
  /-- PADD (R103). -/
  | padd (c : CoreId) (pd rs1 : BitVec 5)
  /-- PADDS (R112). -/
  | padds (c : CoreId) (p : BitVec 3) (imm : BitVec 6)
  /-- PMOV (R109). -/
  | pmov (c : CoreId) (pd ps : BitVec 5)
  /-- MACD (R124). -/
  | macd (c : CoreId) (a : BitVec 1) (px py mx my : BitVec 3) (sgn neg : BitVec 1) (zero : BitVec 9)
  /-- ACCCLR (R110). -/
  | accclr (c : CoreId) (a : BitVec 1)
  /-- ACCLO (R110). -/
  | acclo (c : CoreId) (a : BitVec 1) (rd : BitVec 5)
  /-- ACCHI (R110). -/
  | acchi (c : CoreId) (a : BitVec 1) (rd : BitVec 5)
  /-- ACCTOP (R110). -/
  | acctop (c : CoreId) (a : BitVec 1) (rd : BitVec 5)
  /-- ACCSHR (R110). -/
  | accshr (c : CoreId) (a : BitVec 1)
  /-- ACCSET (R110). -/
  | accset (c : CoreId) (a : BitVec 1) (rd rs1 rs2 : BitVec 5)
  /-- ACCADD (R110). -/
  | accadd (c : CoreId) (a : BitVec 1) (rs1 : BitVec 5)
  /-- MAC (R110). -/
  | mac (c : CoreId) (a : BitVec 1) (rs1 rs2 : BitVec 5)
  /-- WMACD (R126). -/
  | wmacd (c : CoreId) (a : BitVec 1) (px py mx my : BitVec 3) (sgn neg : BitVec 1) (zero : BitVec 9)
  /-- WMULACC (R126). -/
  | wmulacc (c : CoreId) (a : BitVec 1) (rs1 rs2 : BitVec 5)
  /-- WSQRACC (R126). -/
  | wsqracc (c : CoreId) (a : BitVec 1) (rs1 rs2 : BitVec 5)
  /-- WLOAD (R126). -/
  | wload (c : CoreId) (a : BitVec 1) (rs1 : BitVec 5)
  /-- WSTORE (R126). -/
  | wstore (c : CoreId) (a : BitVec 1) (rs1 : BitVec 5)
  /-- WSLOT (R126). -/
  | wslot (c : CoreId) (rs1 rs2 : BitVec 5)
  /-- WCLR (R110). -/
  | wclr (c : CoreId) (a : BitVec 1)
  /-- WSHR (R110). -/
  | wshr (c : CoreId) (a : BitVec 1)
  /-- WGET (R110). -/
  | wget (c : CoreId) (a : BitVec 1) (rs1 rs2 : BitVec 5)
  /-- WPUT (R110). -/
  | wput (c : CoreId) (a : BitVec 1) (rs1 rs2 : BitVec 5)
  /-- PAIRED_WORD (R114). -/
  | pairedWord (c : CoreId) (w : BitVec 31)
  /-- IMPRECISE_EXCEPTION (R132). -/
  | impreciseException (c : CoreId)
  /-- INTERRUPT (R149). -/
  | interrupt (c : CoreId) (lines : BitVec 32)
  /-- WATCHDOG_NOTICE (R149). -/
  | watchdogNotice (c : CoreId)
  /-- MACHINE_CHECK_NOTICE (R149). -/
  | machineCheckNotice (c : CoreId) (info : BitVec 4)
  /-- CORE_RESET (R140). -/
  | coreReset (c : CoreId)
  /-- HEARTBEAT_LAPSE (R159). -/
  | heartbeatLapse (c : CoreId)
  /-- SUPERVISOR_RESTART (R160). -/
  | supervisorRestart (c : CoreId) (ieBound : Bool)
  /-- SYS_IDENTIFY (R191). -/
  | sysIdentify (rq : Req)
  /-- SYS_GET_CAPS (R191). -/
  | sysGetCaps (rq : Req)
  /-- SYS_SET_TIME (R364). -/
  | sysSetTime (rq : Req)
  /-- SYS_RESET_FUNCTION (R228). -/
  | sysResetFunction (rq : Req)
  /-- SYS_GET_HEALTH (R192). -/
  | sysGetHealth (rq : Req)
  /-- SAG_CREATE (R354). -/
  | sagCreate (rq : Req)
  /-- SAG_DESTROY (R356). -/
  | sagDestroy (rq : Req)
  /-- SAG_SET_POLICY (R345). -/
  | sagSetPolicy (rq : Req)
  /-- SAG_BIND_QUEUE (R355). -/
  | sagBindQueue (rq : Req)
  /-- SAG_QUERY (R191). -/
  | sagQuery (rq : Req)
  /-- SAG_SET_LATENCY (R80). -/
  | sagSetLatency (rq : Req)
  /-- KEY_GENERATE (R349). -/
  | keyGenerate (rq : Req)
  /-- KEY_IMPORT_WRAPPED (R348). -/
  | keyImportWrapped (rq : Req)
  /-- KEY_EXPORT_WRAPPED (R347). -/
  | keyExportWrapped (rq : Req)
  /-- KEY_DERIVE (R350). -/
  | keyDerive (rq : Req)
  /-- KEY_DESTROY (R352). -/
  | keyDestroy (rq : Req)
  /-- KEY_QUERY (R337). -/
  | keyQuery (rq : Req)
  /-- KEY_ROTATE (R351). -/
  | keyRotate (rq : Req)
  /-- KEY_SET_CHAIN (R353). -/
  | keySetChain (rq : Req)
  /-- SES_OPEN (R235). -/
  | sesOpen (rq : Req)
  /-- SES_CLOSE (R185). -/
  | sesClose (rq : Req)
  /-- SES_SAVE_CONTEXT (R251). -/
  | sesSaveContext (rq : Req)
  /-- SES_RESTORE_CONTEXT (R254). -/
  | sesRestoreContext (rq : Req)
  /-- SES_QUERY_USAGE (R193). -/
  | sesQueryUsage (rq : Req)
  /-- PK_SIGN (R274). -/
  | pkSign (rq : Req)
  /-- PK_VERIFY (R195). -/
  | pkVerify (rq : Req)
  /-- PK_KEYPAIR (R195). -/
  | pkKeypair (rq : Req)
  /-- PK_AGREE (R341). -/
  | pkAgree (rq : Req)
  /-- PK_ENCAPS (R273). -/
  | pkEncaps (rq : Req)
  /-- PK_DECAPS (R195). -/
  | pkDecaps (rq : Req)
  /-- PK_LEASE_RAW (R287). -/
  | pkLeaseRaw (rq : Req)
  /-- PK_RELEASE_RAW (R291). -/
  | pkReleaseRaw (rq : Req)
  /-- HS_SERVER_BEGIN (R309). -/
  | hsServerBegin (rq : Req)
  /-- HS_SERVER_CONTINUE (R312). -/
  | hsServerContinue (rq : Req)
  /-- HS_CLIENT_BEGIN (R311). -/
  | hsClientBegin (rq : Req)
  /-- HS_KEY_UPDATE (R319). -/
  | hsKeyUpdate (rq : Req)
  /-- HS_EXPORT_SECRET (R322). -/
  | hsExportSecret (rq : Req)
  /-- HS_ABORT (R323). -/
  | hsAbort (rq : Req)
  /-- TAL_READ (R378). -/
  | talRead (rq : Req)
  /-- TAL_ACK (R378). -/
  | talAck (rq : Req)
  /-- TAL_GET_SEAL (R201). -/
  | talGetSeal (rq : Req)
  /-- ENT_GET_BYTES (R401). -/
  | entGetBytes (rq : Req)
  /-- ENT_RESEED (R398). -/
  | entReseed (rq : Req)
  /-- ENT_STATUS (R196). -/
  | entStatus (rq : Req)
  /-- CFG_READ (R197). -/
  | cfgRead (rq : Req)
  /-- CFG_WRITE (R199). -/
  | cfgWrite (rq : Req)
  /-- FLS_PROTECT (R443). -/
  | flsProtect (rq : Req)
  /-- FLS_UNLOCK_GROUP (R443). -/
  | flsUnlockGroup (rq : Req)
  /-- LC_GET_STATE (R196). -/
  | lcGetState (rq : Req)
  /-- LC_TRANSITION (R477). -/
  | lcTransition (rq : Req) (fuses : FuseOutcome)
  /-- DBG_PRESENT_CERT (R482). -/
  | dbgPresentCert (rq : Req)
  /-- DBG_CLOSE (R484). -/
  | dbgClose (rq : Req)
  /-- CCP_ACTIVATE (R493). -/
  | ccpActivate (rq : Req) (card : CardAtr)
  /-- CCP_APDU (R494). -/
  | ccpApdu (rq : Req) (card : CardReply)
  /-- CCP_DEACTIVATE (R491). -/
  | ccpDeactivate (rq : Req)
  /-- ARC_MOUNT (R499). -/
  | arcMount (rq : Req) (card : ArchiveCard)
  /-- ARC_EXPORT (R504). -/
  | arcExport (rq : Req)
  /-- ARC_IMPORT (R506). -/
  | arcImport (rq : Req) (blocks : List (List Byte)) (removed : Bool)
  /-- ARC_UNMOUNT (R500). -/
  | arcUnmount (rq : Req)
  /-- TAG_READ (R517). -/
  | tagRead (rq : Req)
  /-- TAG_WRITE (R521). -/
  | tagWrite (rq : Req) (worn : List (BitVec 7))
  /-- TAG_SET_PASSWORD (R526). -/
  | tagSetPassword (rq : Req) (worn : List (BitVec 7))
  /-- BST_RUN_SLICE (R537). -/
  | bstRunSlice (rq : Req)
  /-- BST_STATUS (R537). -/
  | bstStatus (rq : Req)
  /-- EVR_OPEN_WINDOW (R549). -/
  | evrOpenWindow (rq : Req)
  /-- EVR_READ (R550). -/
  | evrRead (rq : Req)
  /-- EVR_CLEAR (R551). -/
  | evrClear (rq : Req)
  /-- PWR_SET_FLOOR (R79). -/
  | pwrSetFloor (rq : Req)
  /-- PWR_STATUS (R202). -/
  | pwrStatus (rq : Req) (powerMilliwatt : BitVec 32)
  /-- UPD_STAGE (R578). -/
  | updStage (rq : Req)
  /-- UPD_ACTIVATE (R579). -/
  | updActivate (rq : Req)
  /-- UPD_ROLLBACK (R580). -/
  | updRollback (rq : Req)
  /-- UNIT_RETIRE (R582). -/
  | unitRetire (rq : Req)
  /-- UNIT_RECALIBRATE (R584). -/
  | unitRecalibrate (rq : Req) (passes : Bool)
  /-- MOD_LOAD (R588). -/
  | modLoad (rq : Req)
  /-- MOD_UNLOAD (R590). -/
  | modUnload (rq : Req)
  /-- MOD_CALL (R589). -/
  | modCall (rq : Req) (outcome : ModuleOutcome)
  /-- MODULE_CALL_TIMEOUT (R589). -/
  | moduleCallTimeout (call : Nat)
  /-- TMP_STATUS (R469). -/
  | tmpStatus (rq : Req)
  /-- TMP_UNLOCK (R467). -/
  | tmpUnlock (rq : Req)
  /-- TMP_SET_RESPONSE (R459). -/
  | tmpSetResponse (rq : Req)
  /-- DATA_DESCRIPTOR (R237). -/
  | dataDescriptor (qp : BitVec 12) (d : DataDesc)
  /-- MAILBOX_REQUEST_WRITE (R165). -/
  | mailboxRequestWrite (fn : BitVec 6) (offset : BitVec 11) (bytes : List Byte)
  /-- DMB_CTRL (R164). -/
  | dmbCtrl (fn : BitVec 6) (value : BitVec 32)
  /-- HIF_QP_OWNER (R211). -/
  | hifQpOwner (qp : BitVec 12) (value : BitVec 32)
  /-- QUEUE_ENABLE (R214). -/
  | queueEnable (fn : BitVec 6)
  /-- QUEUE_DISABLE (R215). -/
  | queueDisable (fn : BitVec 6)
  /-- QUEUE_DRAIN_COMPLETE (R215). -/
  | queueDrainComplete (qp : BitVec 12)
  /-- SQ_TAIL (R220). -/
  | sqTail (fn : BitVec 6) (qp : BitVec 12) (value : BitVec 32)
  /-- CQ_HEAD (R221). -/
  | cqHead (fn : BitVec 6) (qp : BitVec 12) (value : BitVec 32)
  /-- DESCRIPTOR_FETCH (R222). -/
  | descriptorFetch (qp : BitVec 12) (fetch : FetchResult)
  /-- TOKEN_GRANT (R224). -/
  | tokenGrant
  /-- MSIX_COALESCE_TIMEOUT (R227). -/
  | msixCoalesceTimeout (qp : BitVec 12)
  /-- MSIX_UNMASK (R227). -/
  | msixUnmask (fn : BitVec 6) (vector : BitVec 5)
  /-- BAR_UNSUPPORTED_REQUEST (R208). -/
  | barUnsupportedRequest (fn : BitVec 6) (bar2 : Bool) (offset : BitVec 32) (size : Nat)
  /-- BUS_MASTER_TIMEOUT (R226). -/
  | busMasterTimeout (fn : BitVec 6)
  /-- FUNCTION_LEVEL_RESET (R228). -/
  | functionLevelReset (fn : BitVec 6)
  /-- PCIE_PERST_N_ASSERT (R229). -/
  | pciePerstNAssert
  /-- PCIE_PERST_N_RELEASE (R94). -/
  | pciePerstNRelease
  /-- LINK_LOSS (R206). -/
  | linkLoss (kind : LinkLossKind)
  /-- CONFIG_WRITE (R77). -/
  | configWrite (fn : BitVec 6) (field : ConfigField) (value : BitVec 32)
  /-- LANE_JOB_START (R232). -/
  | laneJobStart (job : Nat)
  /-- CONTEXT_MOVE (R232). -/
  | contextMove (job : Nat)
  /-- LANE_JOB_COMPLETE (R261). -/
  | laneJobComplete (job : Nat) (dmaFails : Bool)
  /-- RELEASE_COMPLETE (R240). -/
  | releaseComplete (job : Nat) (spillFailures : Nat)
  /-- GRANULE_ZEROED (R244). -/
  | granuleZeroed (spill : Bool)
  /-- LANE_FAULT_DETECTED (R259). -/
  | laneFaultDetected (lane : BitVec 4) (detector : BitVec 2) (addedMicros : BitVec 16)
  /-- CL_KEYLOAD (R257). -/
  | clKeyload (c : CoreId) (value : BitVec 32)
  /-- KEYLOAD_DONE (R257). -/
  | keyloadDone
  /-- CRUCIBLE_JOB_START (R282). -/
  | crucibleJobStart
  /-- CRUCIBLE_JOB_COMPLETE (R281). -/
  | crucibleJobComplete (crucible : BitVec 8) (attempts : Nat)
  /-- CRUCIBLE_FAULT_DETECTED (R285). -/
  | crucibleFaultDetected (crucible : BitVec 8) (detector : BitVec 2) (ranCycles : Nat) (addedMicros : BitVec 16)
  /-- RAWCMD_WMULACC (R289). -/
  | rawcmdWmulacc (c : CoreId) (crucible : BitVec 8) (wacc : BitVec 1)
  /-- RAWCMD_WSQRACC (R289). -/
  | rawcmdWsqracc (c : CoreId) (crucible : BitVec 8) (wacc : BitVec 1)
  /-- RAWCMD_WLOAD (R289). -/
  | rawcmdWload (c : CoreId) (crucible : BitVec 8) (wacc : BitVec 1)
  /-- RAWCMD_WSTORE (R289). -/
  | rawcmdWstore (c : CoreId) (crucible : BitVec 8) (wacc : BitVec 1)
  /-- RAWCMD_END (R290). -/
  | rawcmdEnd (c : CoreId) (crucible : BitVec 8) (wacc : BitVec 1)
  /-- RAW_OPERATION (R289). -/
  | rawOperation (crucible : BitVec 8)
  /-- RAW_FAULT (R292). -/
  | rawFault (crucible : BitVec 8)
  /-- LEASE_LIMIT_EXPIRY (R291). -/
  | leaseLimitExpiry (lease : Nat)
  /-- KEY_LOAD_COMPLETE (R337). -/
  | keyLoadComplete (job : Nat) (line : LineRead)
  /-- CHANNEL_FAILING (R424). -/
  | channelFailing (channel : BitVec 4)
  /-- DRIFT_CHECK (R422). -/
  | driftCheck (channel : BitVec 4) (driftPercent : Nat)
  /-- RETRAIN_STEP (R423). -/
  | retrainStep (passes last : Bool)
  /-- ZQ_CALIBRATION (R422). -/
  | zqCalibration (channel : BitVec 4)
  /-- SETTINGS_RECORD_WRITE (R332). -/
  | settingsRecordWrite (saggar : BitVec 12)
  /-- LOG_RECLAIM (R331). -/
  | logReclaim
  /-- HANDSHAKE_EXPIRY (R305). -/
  | handshakeExpiry (handshake : BitVec 24)
  /-- KEYUPDATE_PREPARE (R318). -/
  | keyupdatePrepare (handshake : BitVec 24)
  /-- SPAN_CLOSE (R363). -/
  | spanClose
  /-- RECORDS_READABLE (R371). -/
  | recordsReadable
  /-- ACK_STATE_JOURNAL (R380). -/
  | ackStateJournal
  /-- BYTE_SECOND_TICK (R372). -/
  | byteSecondTick
  /-- SOURCE_BLOCK (R389). -/
  | sourceBlock
  /-- STARTUP_TEST_COMPLETE (R391). -/
  | startupTestComplete (failing : BitVec 8)
  /-- HEALTH_FAILURE (R394). -/
  | healthFailure (pair : BitVec 3) (test : HealthTest)
  /-- DRBG_REQUEST_START (R400). -/
  | drbgRequestStart
  /-- DRBG_GENERATE_COMPLETE (R401). -/
  | drbgGenerateComplete (inst : BitVec 6)
  /-- ENT_TESTCTL (R408). -/
  | entTestctl (c : CoreId) (value : BitVec 32)
  /-- FLC_PROGRAM (R433). -/
  | flcProgram (c : CoreId)
  /-- FLC_ERASE (R435). -/
  | flcErase (c : CoreId)
  /-- PROGRAM_COMPLETE (R434). -/
  | programComplete (verifies : Bool)
  /-- ERASE_COMPLETE (R437). -/
  | eraseComplete (pulses : BitVec 8) (verifies : Bool)
  /-- FLASH_WINDOW_READ (R436). -/
  | flashWindowRead (c : CoreId) (offset : BitVec 25)
  /-- ERASE_RESUME (R436). -/
  | eraseResume
  /-- BACKGROUND_REERASE (R440). -/
  | backgroundReerase (sector : BitVec 13)
  /-- UNLOCK_LOCKOUT_EXPIRY (R443). -/
  | unlockLockoutExpiry (group : BitVec 6)
  /-- TAMPER_ALARM (R452). -/
  | tamperAlarm (d : BitVec 4) (designs : BitVec 2) (under : Bool)
  /-- DETECTOR_STIMULUS (R448). -/
  | detectorStimulus (d : BitVec 4) (designs : BitVec 2)
  /-- TAMPER_LOG_ENTRY (R463). -/
  | tamperLogEntry
  /-- BACKUP_DOMAIN_START (R461). -/
  | backupDomainStart
  /-- TMP_CLASS (R459). -/
  | tmpClass (c : CoreId) (value : BitVec 32)
  /-- POR_N_ASSERT (R92). -/
  | porNAssert
  /-- BOOT (R93). -/
  | boot (env : BootEnv)
  /-- COMPUTE_DIE_RELEASE (R53). -/
  | computeDieRelease
  /-- LIFECYCLE_RESET (R200). -/
  | lifecycleReset
  /-- PWRFAIL_N_ASSERT (R56). -/
  | pwrfailNAssert
  /-- RAIL_UNDERVOLTAGE (R56). -/
  | railUndervoltage (vault : Bool)
  /-- POWER_GOOD_FALL (R45). -/
  | powerGoodFall (input : BitVec 2)
  /-- COMMIT_COMPLETE (R61). -/
  | commitComplete
  /-- COMMIT_STOPPED (R60). -/
  | commitStopped
  /-- THERMAL_ALERT (R49). -/
  | thermalAlert (junction : BitVec 16)
  /-- THROTTLE_STEP (R91). -/
  | throttleStep (junction : BitVec 16)
  /-- THERMAL_TRIP (R50). -/
  | thermalTrip (junction : BitVec 16)
  /-- PM_ALERT (R70). -/
  | pmAlert (status : List (BitVec 16)) (coreCollapsed : Bool)
  /-- PMBUS_RETRY (R69). -/
  | pmbusRetry (answers : Bool) (millivolt : BitVec 10)
  /-- AVS_WINDOW (R90). -/
  | avsWindow (slackPercent : Nat) (minMillivolt : BitVec 10) (acknowledged : Bool)
  /-- PLL_LOSS_OF_LOCK (R86). -/
  | pllLossOfLock (pll : BitVec 4)
  /-- PLL_RELOCK (R86). -/
  | pllRelock (pll : BitVec 4)
  /-- CRYSTAL_LOSS (R89). -/
  | crystalLoss
  /-- CRYSTAL_RETURN (R89). -/
  | crystalReturn
  /-- RATIO_MEASUREMENT (R89). -/
  | ratioMeasurement (ratio : BitVec 32)
  /-- CONE_ENTRY (R79). -/
  | coneEntry
  /-- CONE_ENTRY_COMPLETE (R593). -/
  | coneEntryComplete
  /-- WAKE (R77). -/
  | wake (source : WakeSource)
  /-- CONE_EXIT_COMPLETE (R72). -/
  | coneExitComplete
  /-- MESH_FLIT_ERROR (R26). -/
  | meshFlitError (a b : BitVec 5)
  /-- MESH_LINK_REROUTE (R26). -/
  | meshLinkReroute (a b : BitVec 5)
  /-- D2D_FLIT_ERROR (R29). -/
  | d2dFlitError
  /-- D2D_RETRAIN (R29). -/
  | d2dRetrain
  /-- D2D_LINK_START (R27). -/
  | d2dLinkStart (pairingMatches : Bool)
  /-- LCS_HOURS_TICK (R479). -/
  | lcsHoursTick
  /-- DEBUG_SESSION_EXPIRY (R484). -/
  | debugSessionExpiry
  /-- CUSTODIAN_PRESENCE_CHANGE (R490). -/
  | custodianPresenceChange (port : BitVec 1) (present : Bool)
  /-- CARD_TIMEOUT (R492). -/
  | cardTimeout (port : BitVec 1)
  /-- QUORUM_SESSION_TIMEOUT (R495). -/
  | quorumSessionTimeout
  /-- ARCHIVE_PRESENCE_CHANGE (R500). -/
  | archivePresenceChange (present : Bool)
  /-- KILN_BLOCK_WRITTEN (R504). -/
  | kilnBlockWritten (write : BlockWrite)
  /-- FIELD_PRESENT (R512). -/
  | fieldPresent
  /-- FIELD_LOST (R518). -/
  | fieldLost
  /-- SELECT (R511). -/
  | select (flag : TagFlag) (action : BitVec 3) (matching : Bool)
  /-- QUERY (R511). -/
  | query (sel session : BitVec 2) (target : Bool) (q : BitVec 4) (slot : BitVec 15)
  /-- QUERYADJUST (R511). -/
  | queryadjust (session : BitVec 2) (updn : BitVec 3) (slot : BitVec 15)
  /-- QUERYREP (R511). -/
  | queryrep (session : BitVec 2)
  /-- ACK (R511). -/
  | ack (rn : BitVec 16)
  /-- NAK (R511). -/
  | nak
  /-- REQ_RN (R511). -/
  | reqRn (rn : BitVec 16)
  /-- READ (R520). -/
  | read (bank : BitVec 2) (ptr : Nat) (count : BitVec 8) (handle : BitVec 16)
  /-- WRITE (R521). -/
  | write (bank : BitVec 2) (ptr : Nat) (data : BitVec 16) (handle : BitVec 16) (weakField : Bool) (worn : List (BitVec 7))
  /-- BLOCKWRITE (R521). -/
  | blockwrite (bank : BitVec 2) (ptr : Nat) (data : List (BitVec 16)) (handle : BitVec 16) (weakField : Bool) (worn : List (BitVec 7))
  /-- ACCESS (R516). -/
  | access (password : BitVec 32) (handle : BitVec 16)
  /-- INVALID_COMMAND (R511). -/
  | invalidCommand
  /-- ACCESS_LOCKOUT_EXPIRY (R516). -/
  | accessLockoutExpiry
  /-- SESSION_FLAG_EXPIRY (R518). -/
  | sessionFlagExpiry (flag : TagFlag)
  /-- TAG_POWER_UP (R523). -/
  | tagPowerUp (partly : List (BitVec 7)) (slot : Bool)
  /-- ROW_ERASE (R521). -/
  | rowErase (row : BitVec 7)
  /-- MIRROR_SNAPSHOT (R528). -/
  | mirrorSnapshot
  /-- BACKUP_NO_ANSWER (R529). -/
  | backupNoAnswer
  /-- SPARE_ROTATION (R22). -/
  | spareRotation (cls : UnitClass) (incoming outgoing : BitVec 8)
  /-- SLICE_START (R532). -/
  | sliceStart
  /-- SLICE_COMPLETE (R531). -/
  | sliceComplete (run : Nat) (result : SliceResult)
  /-- SLICE_REQUEST_EXPIRY (R533). -/
  | sliceRequestExpiry (request : BitVec 32)
  /-- BST_LINKCTL (R553). -/
  | bstLinkctl (c : CoreId) (value : BitVec 32)
  /-- LINK_CHECK_DONE (R544). -/
  | linkCheckDone (locked : Bool) (errors : BitVec 32)
  /-- EVENT_RECORD (R546). -/
  | eventRecord (source : BitVec 16) (detail : BitVec 64) (fault : LineFault)
  /-- RECORDER_SNAPSHOT (R552). -/
  | recorderSnapshot
  /-- WINDOW_EXPIRY (R549). -/
  | windowExpiry (window : BitVec 32)
  /-- HISTOGRAM_SAMPLE (R547). -/
  | histogramSample (metric : BitVec 8) (value : BitVec 32)
  /-- MCTP_PACKET (R557). -/
  | mctpPacket (vdm : Bool) (packet : MctpPacket)
  /-- SET_ENDPOINT_ID (R556). -/
  | setEndpointId (vdm : Bool) (eid : BitVec 8)
  /-- GET_ENDPOINT_ID (R556). -/
  | getEndpointId (vdm : Bool)
  /-- GET_ENDPOINT_UUID (R556). -/
  | getEndpointUuid (vdm : Bool)
  /-- GET_MCTP_VERSION_SUPPORT (R556). -/
  | getMctpVersionSupport (vdm : Bool)
  /-- GET_MESSAGE_TYPE_SUPPORT (R556). -/
  | getMessageTypeSupport (vdm : Bool)
  /-- ENTDAA (R555). -/
  | entdaa (addr : BitVec 7)
  /-- SETDASA (R555). -/
  | setdasa (addr : BitVec 7)
  /-- SETNEWDA (R555). -/
  | setnewda (addr : BitVec 7)
  /-- RSTDAA (R555). -/
  | rstdaa
  /-- GETPID (R555). -/
  | getpid
  /-- GETBCR (R555). -/
  | getbcr
  /-- GETDCR (R555). -/
  | getdcr
  /-- GETSTATUS (R555). -/
  | getstatus
  /-- GETMXDS (R555). -/
  | getmxds
  /-- ENEC (R555). -/
  | enec (events : BitVec 8)
  /-- DISEC (R555). -/
  | disec (events : BitVec 8)
  /-- GET_VERSION (R560). -/
  | getVersion (t : SpdmTransport) (request : List Byte)
  /-- GET_CAPABILITIES (R562). -/
  | getCapabilities (t : SpdmTransport) (request : List Byte)
  /-- NEGOTIATE_ALGORITHMS (R560). -/
  | negotiateAlgorithms (t : SpdmTransport) (p384 sha384 : Bool) (request : List Byte)
  /-- GET_DIGESTS (R560). -/
  | getDigests (t : SpdmTransport) (request : List Byte)
  /-- GET_CERTIFICATE (R566). -/
  | getCertificate (t : SpdmTransport) (slot : BitVec 8) (offset length : BitVec 16) (request : List Byte)
  /-- CHALLENGE (R560). -/
  | challenge (t : SpdmTransport) (slot summary : BitVec 8) (nonce : List Byte) (request : List Byte)
  /-- GET_MEASUREMENTS (R564). -/
  | getMeasurements (t : SpdmTransport) (index : BitVec 8) (signed : Bool) (nonce : List Byte) (request : List Byte)
  /-- RESPOND_IF_READY (R563). -/
  | respondIfReady (t : SpdmTransport) (token : BitVec 8)
  /-- DOE_OBJECT (R567). -/
  | doeObject (vendor : BitVec 16) (type : BitVec 8) (body : List Byte)
  /-- DOE_ABORT (R567). -/
  | doeAbort
  /-- EXTEST (R569). -/
  | extest
  /-- SAMPLE_PRELOAD (R568). -/
  | samplePreload
  /-- IDCODE (R568). -/
  | idcode
  /-- CLAMP (R569). -/
  | clamp
  /-- HIGHZ (R569). -/
  | highz
  /-- COMPUTE_TAP (R486). -/
  | computeTap
  /-- VAULT_TAP (R486). -/
  | vaultTap
  /-- BYPASS (R568). -/
  | bypass
  /-- TRST_N (R92). -/
  | trstN
  /-- DRAIN_COMPLETE (R185). -/
  | drainComplete (id : Nat)
  /-- CONE_AON_LO (R96). -/
  | coneAonLo (c : CoreId)
  /-- CL_ACT_BYTES_LO (R263). -/
  | clActBytesLo (c : CoreId) (lane : BitVec 4)
  /-- CRU_ACT_CYC_LO (R294). -/
  | cruActCycLo (c : CoreId) (crucible : BitVec 8)
  /-- TAL_SEQ_LO (R386). -/
  | talSeqLo (c : CoreId)
  /-- TAL_ACKED_LO (R386). -/
  | talAckedLo (c : CoreId)
  /-- TAL_MIN_LO (R386). -/
  | talMinLo (c : CoreId)
  /-- ENT_OUT_LO (R410). -/
  | entOutLo (c : CoreId)
  /-- ENT_HOST_LO (R410). -/
  | entHostLo (c : CoreId)
  /-- ARC_NEXT_LO (R509). -/
  | arcNextLo (c : CoreId)
  /-- BST_LINKBITS_LO (R553). -/
  | bstLinkbitsLo (c : CoreId)
  /-- SBI_DROPS (R570). -/
  | sbiDrops (c : CoreId)
  /-- CONE_RESERVE (R97). -/
  | coneReserve (c : CoreId) (value : BitVec 32)
  /-- CONE_VLIMIT (R97). -/
  | coneVlimit (c : CoreId) (value : BitVec 32)
  /-- REGISTER_WRITE (R6). -/
  | registerWrite (target : RegTarget) (value : BitVec 32)
  /-- DMB_DOORBELL (R165). -/
  | dmbDoorbell (fn : BitVec 6) (value : BitVec 32)
  /-- PME_TURN_OFF (R593). -/
  | pmeTurnOff
  /-- LINK_UP (R230). -/
  | linkUp (rate width : BitVec 8)
  /-- TAMPER_ALARM_END (R449). -/
  | tamperAlarmEnd (d : BitVec 4)
  /-- THERMAL_ALERT_CLEAR (R49). -/
  | thermalAlertClear (junction : BitVec 16)
  /-- TIMING_MARGIN_LOW (R90). -/
  | timingMarginLow (domain : BitVec 6)
  /-- LOCKSEQ_COPY_WRITE (R461). -/
  | lockseqCopyWrite
  /-- LOCKSTEP_MISMATCH (R425). -/
  | lockstepMismatch
  /-- MAIN_POWER_LOSS (R71). -/
  | mainPowerLoss
  /-- VDD_HOLD_IN_RANGE (R591). -/
  | vddHoldInRange
  /-- DEBUG_HALT_REQUEST (R483). -/
  | debugHaltRequest (cls : UnitClass) (unit : BitVec 8)
deriving DecidableEq, Repr

end Sys2Proof
end

