-- ==== Sys2Proof/Config.lean ====
section
/-! DEFINITION. What the spec leaves open and what a part is made with: constants without a body, so that no
proof can see a value of them. Log entry 1 names the free values; log entry 6 the functions of external standards. -/

namespace Sys2Proof.Config

/-- A fresh bit string of any length: the n-th value the spec does not fix (R8, R387). -/
opaque freeNat : Nat → Nat

/-- The byte of the control ROM at an offset (R34); the ROM's content is not in the spec. -/
opaque romByte : Nat → Byte

/-- Functions of external standards by number: byte strings to a byte string, a decision, a number (log entry 6). -/
opaque standard : Nat → List (List Byte) → List Byte
opaque standardBit : Nat → List (List Byte) → Bool
opaque standardNat : Nat → List (List Byte) → Nat

/-- The part is revision B1, else B0 (R2); the version of the control ROM (R191). -/
opaque revisionB1 : Bool
opaque romVersion : BitVec 32

/-- Semixia's JEP106 identity in the IDCODE (R568), and the PCI vendor ID of the physical function (R558). -/
opaque jep106 : BitVec 11
opaque vendorId : BitVec 16

/-- The ratio fuses of R89. -/
opaque fusedRatio : BitVec 32

/-- The state format of the control ROM without a patch (R577, R579). -/
opaque romFormat : Word

/-- The alert threshold in whole degrees Celsius: it lies within the bounds of R47. -/
opaque alertCelsius : Nat

end Sys2Proof.Config
end

