-- ==== Sys2Proof/Machine/Map.lean ====
section
/-! DEFINITION. Sparse maps and little-endian byte strings: the plain operations every family uses. -/

namespace Sys2Proof.Machine

/-- The value a map gives a number; `d` is what an unlisted number reads as. -/
def mapGet {α : Type} (d : α) : FMap α → Nat → α
  | [], _ => d
  | (j, v) :: rest, k => if j = k then v else mapGet d rest k

/-- Removes every entry of a number. -/
def mapDel {α : Type} : FMap α → Nat → FMap α
  | [], _ => []
  | (j, v) :: rest, k => if j = k then mapDel rest k else (j, v) :: mapDel rest k

/-- Inserts an entry before the first larger number, replacing an entry of the same number. -/
def mapPut {α : Type} : FMap α → Nat → α → FMap α
  | [], k, v => [(k, v)]
  | (j, w) :: rest, k, v =>
    if k < j then (k, v) :: (j, w) :: rest
    else if k = j then (k, v) :: rest
    else (j, w) :: mapPut rest k v

/-- Writes a number, keeping the canonical form: the value an unlisted number reads as is not listed. -/
def mapSet {α : Type} [DecidableEq α] (d : α) (m : FMap α) (k : Nat) (v : α) : FMap α :=
  if v = d then mapDel m k else mapPut m k v

/-- Changes the value of a number. -/
def mapMod {α : Type} [DecidableEq α] (d : α) (m : FMap α) (k : Nat) (f : α → α) : FMap α :=
  mapSet d m k (f (mapGet d m k))

/-- Every listed number is above `lo`, rising, and no entry holds the default. -/
def mapWfFrom {α : Type} [DecidableEq α] (d : α) : Option Nat → FMap α → Bool
  | _, [] => true
  | lo, (j, v) :: rest =>
    (match lo with | none => true | some b => decide (b < j)) && decide (v ≠ d) && mapWfFrom d (some j) rest

/-- The canonical form of a map with default `d`. -/
def mapWf {α : Type} [DecidableEq α] (d : α) (m : FMap α) : Bool := mapWfFrom d none m

/-- Applies a function to every listed value, keeping the canonical form; the default must be a fixed point. -/
def mapAll {α : Type} [DecidableEq α] (d : α) (f : Nat → α → α) : FMap α → FMap α
  | [] => []
  | (j, v) :: rest => if f j v = d then mapDel (mapAll d f rest) j else (j, f j v) :: mapAll d f rest

/-- How many listed entries satisfy a test. -/
def mapCount {α : Type} (p : Nat → α → Bool) (m : FMap α) : Nat := (m.filter fun e => p e.1 e.2).length

/-- The least number below `bound`, counted from `start` in `fuel` trials, that satisfies a test. -/
def firstFrom (p : Nat → Bool) : Nat → Nat → Option Nat
  | 0, _ => none
  | fuel + 1, i => if p i then some i else firstFrom p fuel (i + 1)

/-- The least number below `n` that satisfies a test. -/
def firstBelow (n : Nat) (p : Nat → Bool) : Option Nat := firstFrom p n 0

/-- How many numbers below `n` satisfy a test. -/
def countBelow (n : Nat) (p : Nat → Bool) : Nat := ((List.range n).filter p).length

/-! ### Bytes (R11) -/

/-- The low `n` bytes of a number, least significant first. -/
def leBytes : Nat → Nat → List Byte
  | 0, _ => []
  | n + 1, v => BitVec.ofNat 8 v :: leBytes n (v / 256)

/-- The number a little-endian byte string stands for. -/
def leNat : List Byte → Nat
  | [] => 0
  | b :: rest => b.toNat + 256 * leNat rest

/-- The low `n` bytes of a number, most significant first. -/
def beBytes (n v : Nat) : List Byte := (leBytes n v).reverse

/-- The number a big-endian byte string stands for. -/
def beNat (bs : List Byte) : Nat := leNat bs.reverse

/-- `n` bytes of a string from an offset; bytes beyond its end read as 0. -/
def sliceBytes (bs : List Byte) (off n : Nat) : List Byte :=
  let t := (bs.drop off).take n
  t ++ List.replicate (n - t.length) 0

/-- The little-endian field of `n` bytes at an offset. -/
def leField (bs : List Byte) (off n : Nat) : Nat := leNat ((bs.drop off).take n)

/-- A string cut or filled with zeros to `n` bytes. -/
def padTo (n : Nat) (bs : List Byte) : List Byte := sliceBytes bs 0 n

/-- Every byte of a string is zero. -/
def allZero (bs : List Byte) : Bool := bs.all (· == 0)

/-! ### Memory: bytes by number, an unlisted byte reading as `d` -/

/-- `n` bytes from an address. -/
def memRead (d : Byte) (m : FMap Byte) (a : Nat) : Nat → List Byte
  | 0 => []
  | n + 1 => mapGet d m a :: memRead d m (a + 1) n

/-- Stores a byte string from an address on. -/
def memWrite (d : Byte) (m : FMap Byte) (a : Nat) : List Byte → FMap Byte
  | [] => m
  | b :: rest => memWrite d (mapSet d m a b) (a + 1) rest

/-- Removes every listed byte from `lo` to `hi - 1`: they read as an unlisted byte does. -/
def memClear (m : FMap Byte) (lo hi : Nat) : FMap Byte := m.filter fun e => !(decide (lo ≤ e.1) && decide (e.1 < hi))

/-! ### Bits of a mask -/

/-- Sets or clears bit `i` of a mask. -/
def setBit {w : Nat} (m : BitVec w) (i : Nat) (b : Bool) : BitVec w :=
  if b then m ||| BitVec.twoPow w i else m &&& ~~~(BitVec.twoPow w i)

/-- How many bits of a mask are set. -/
def popCount {w : Nat} (m : BitVec w) : Nat := countBelow w fun i => m.getLsbD i

/-- One bit as a word of width `w`. -/
def bit {w : Nat} (b : Bool) : BitVec w := if b then 1 else 0

end Sys2Proof.Machine
end

