-- ==== Sys2Proof/Machine/StCards.lean ====
section
/-! DEFINITION. The state of the custodian ports and of the archive port (R489-R509). -/

namespace Sys2Proof.Machine

/-- One custodian port. -/
structure CardPort where
  present : Bool := false
  isOn    : Bool := false
  classC  : Bool := false
  t1      : Bool := false
  fidi    : BitVec 8 := 0x11
  failed  : Bool := false
  removed : Bool := false
  /-- The card is out of service: it counts as removed until an activation succeeds (R492). -/
  out     : Bool := false
  /-- The port is in the quorum session (R495). -/
  quorum  : Bool := false
deriving DecidableEq, Repr

/-- An export under way or suspended (R503-R505). -/
structure Export_ where
  source : Nat
  /-- Export id, the first number, the next number to write, the last number. -/
  id     : Nat
  first  : Nat
  next   : Nat
  last   : Nat
  /-- One more than the highest number written (R505). -/
  top    : Nat
  /-- Record list of source 2, as bytes of 256 per record, fixed at the effect point. -/
  records : List Byte := []
  cid    : BitVec 128
  /-- The command that waits for it, and the first number that command writes. -/
  task   : Nat
  from_  : Nat
deriving DecidableEq, Repr

/-- The card ports. -/
structure Cards where
  ports     : FMap CardPort := []
  /-- The quorum session, and the custodians whose signature was verified in it (R497). -/
  isOpen    : Bool := false
  collected : BitVec 8 := 0
  /-- The archive card: presence, mount, capacity in 512-byte blocks, bus mode, CID. -/
  present   : Bool := false
  mounted   : Bool := false
  capacity  : Nat := 0
  xc        : Bool := false
  mode      : BitVec 2 := 0
  cid       : BitVec 128 := 0
  removed   : Bool := false
  crcErr    : Bool := false
  running   : Option Export_ := none
  suspended : Option Export_ := none
  /-- Exports since the last reset. -/
  exports   : BitVec 16 := 0
  next      : BitVec 64 := 0
  nextHi    : Word := 0
deriving DecidableEq, Repr

end Sys2Proof.Machine
end

