-- ==== Sys2Proof/Machine/StCore.lean ====
section
/-! DEFINITION. The state of one Thrower core (R101, R137-R142, R156-R160). -/

namespace Sys2Proof.Machine

/-- One region of the protection unit (R142). -/
structure MpuRegion where
  base  : Word := 0
  limit : Word := 0
  /-- EN, X, W, RD in bits 3 to 0. -/
  attr  : BitVec 4 := 0
deriving DecidableEq, Repr

/-- What happens when the delay slot of a transfer completes (R117, R148). -/
inductive SlotKind where
  /-- A branch, jump, call or return: continue at `next`. -/
  | branch (next : Addr)
  /-- A CALLG whose checks passed: the stack word, the status and the stack pointer it read. -/
  | gate (target : Addr) (tring : BitVec 2) (sp st : Word)
  /-- A RETG or ERET whose checks passed: the return address, the new status, the ring whose stack
  pointer takes `sp`, and the status it read. -/
  | ret (target : Addr) (newSt : Word) (spRing : BitVec 2) (sp st : Word)
  /-- An ERET of ring 0 while XSTATE.DF is 1 (R157). -/
  | dfret (target : Addr) (newSt st : Word)
deriving DecidableEq, Repr

/-- A transfer that waits for its delay slot. -/
structure PendingSlot where
  /-- Address of the branch. -/
  from_ : Addr
  kind  : SlotKind
deriving DecidableEq, Repr

/-- An imprecise arithmetic exception that has not been taken (R132, R151). -/
structure Imprecise where
  cause : BitVec 8
  pc    : Addr
  ring  : BitVec 2
  multi : Bool
  /-- Words issued since the faulting one. -/
  age   : Nat
deriving DecidableEq, Repr

/-- One Thrower core. -/
structure Thrower where
  /-- The core has been released from reset and executes (R140). -/
  running : Bool := false
  /-- Ring 0 has written VBASE0 since reset (R141). -/
  armed   : Bool := false
  /-- A fault while XSTATE.DF was 1, or any exception while unarmed (R141, R156). -/
  halted  : Bool := false
  /-- WAIT stopped issue (R129). -/
  waiting : Bool := false
  g    : FMap Word := []
  p    : FMap Addr := []
  pm   : FMap Word := []
  acc  : FMap (BitVec 72) := []
  wacc : FMap (BitVec 288) := []
  ls   : FMap Word := []
  le   : FMap Word := []
  lc   : FMap Word := []
  /-- LTAG.TAGS (R137). -/
  ltag : BitVec 6 := 0
  pc   : Addr := 0
  st   : Word := 0
  sp   : FMap Word := []
  vbase : FMap Word := []
  xcause : FMap Word := []
  xpc    : FMap Word := []
  xaddr  : FMap Word := []
  xaddrh : FMap Word := []
  /-- xsave0 and xsave1 (R155). -/
  xsave  : FMap Word := []
  /-- XSTATE.DF and XSTATE.DFRING. -/
  df     : Bool := false
  dfring : BitVec 2 := 0
  gtbase : Word := 0
  gtlen  : BitVec 14 := 0
  erring : Word := 0
  erkind : BitVec 16 := 0
  erdepth : BitVec 5 := 0
  mpusel : BitVec 6 := 0
  /-- Regions by 16 * ring + region. -/
  mpu    : FMap MpuRegion := []
  ipend  : Word := 0
  imask  : Word := 0
  /-- Core cycle count and the latched CYCHI (R106). -/
  cyc    : BitVec 64 := 0
  cychi  : Word := 0
  slot   : Option PendingSlot := none
  imprecise : Option Imprecise := none
  /-- A machine-check notice that waits, with its INFO (R149). -/
  machineCheck : Option (BitVec 4) := none
  /-- A watchdog notice that waits (R149, R159). -/
  watchdog : Bool := false
  /-- The heartbeat lapsed once and no HBEAT has been written since (R159). -/
  lapsed   : Bool := false
  /-- Timebase counts of the supervisor restarts in the last 24 h, newest first (R160). -/
  restarts : List (BitVec 48) := []
  /-- The saggar of the request a service core works on (R15, R288). -/
  serving  : Option (BitVec 12) := none
deriving DecidableEq, Repr

end Sys2Proof.Machine
end

