-- ==== Sys2Proof/Machine/StCru.lean ====
section
/-! DEFINITION. The state of the crucibles and of the raw leases (R265-R295), and the roles of units (R18-R24). -/

namespace Sys2Proof.Machine

/-- The role of a lane, a crucible or a service core (R18-R24, the ROLE fields of R263 and R294). -/
inductive Role where
  | active | spare | retired
  /-- Takes no new job and enters the spare role, or retires, once it has none (R22, R582). -/
  | leaving | retiring
  | debug
deriving DecidableEq, Repr

/-- One queued raw operation (R289). -/
structure RawOp where
  op   : BitVec 3
  wacc : Bool
  selA : BitVec 16
  selB : BitVec 16
deriving DecidableEq, Repr

/-- One crucible, beside its Thrower core and its operand memory (R271, R283-R295). -/
structure Crucible where
  saggar   : BitVec 12 := 0
  sealRead : Bool := false
  /-- A job, a raw operation or a wipe is running. -/
  busy     : Bool := false
  fault    : BitVec 3 := 0
  /-- CRU_SLOTCFG.LEN. -/
  slotLen  : BitVec 8 := 0x80
  /-- Sealed marks; bit 128 * bank + slot. -/
  sealed   : BitVec 256 := 0
  /-- Open slots that END keeps; same numbering. -/
  retain   : BitVec 256 := 0
  rawSel   : Word := 0
  rawQueue : List RawOp := []
  expired  : Bool := false
  rawFault : Bool := false
  badOp    : Bool := false
  overflow : Bool := false
  actOps   : Word := 0
  actCyc   : BitVec 64 := 0
  actCycHi : Word := 0
  actRaw   : Word := 0
  /-- Operations by the types of R369 (R295). -/
  byType   : FMap Nat := []
  /-- The lease that holds this crucible. -/
  lease    : Option Nat := none
  /-- The job that runs on it. -/
  job      : Option Nat := none
deriving DecidableEq, Repr

/-- One raw lease (R287-R293). -/
structure Lease where
  saggar    : BitVec 12 := 0
  crucibles : List Nat := []
  slotLen   : BitVec 8 := 0
  /-- The handle PK_LEASE_RAW returned. -/
  handle    : BitVec 64 := 0
  /-- Microseconds of the lease limit, and the time it was granted (timebase count). -/
  limit     : BitVec 32 := 0
  granted   : BitVec 48 := 0
  /-- Cycles of each of its crucibles charged so far (R293). -/
  cycles    : Nat := 0
  live      : Bool := false
deriving DecidableEq, Repr

/-- The crucible array as a whole. -/
structure Array_ where
  /-- CRU_GROUP.RAW. -/
  raw     : BitVec 20 := 0
  /-- Clusters that join the raw group and drain (R266). -/
  joining : BitVec 20 := 0
  /-- Whole-operation jobs that hold tokens and wait, in token order; reruns first (R282). -/
  queue   : List Nat := []
deriving DecidableEq, Repr

end Sys2Proof.Machine
end

