-- ==== Sys2Proof/Machine/StEnt.lean ====
section
/-! DEFINITION. The state of the entropy subsystem (R387-R410). -/

namespace Sys2Proof.Machine

/-- A request that is parked or in generation. -/
structure DrawReq where
  /-- The command in progress that waits for it; none for a draw of the part itself. -/
  task     : Option Nat := none
  internal : Bool := true
  saggar   : Option (BitVec 12) := none
  bytes    : Nat := 0
deriving DecidableEq, Repr

/-- The entropy subsystem. -/
structure Entropy where
  /-- 0 start-up, 1 service, 2 recovery, 3 failed. -/
  state   : BitVec 2 := 0
  /-- The start-up test has passed since the state was entered. -/
  tested  : Bool := false
  failed  : BitVec 8 := 0
  /-- Instances instantiated: the first `inst` of 64. -/
  inst    : Nat := 0
  pool    : Nat := 0
  /-- Conditioned blocks the vault die buffers until the link is up (R404). -/
  buffered : Nat := 0
  /-- Requests in generation by instance, and parked ones in arrival order. -/
  gen     : FMap DrawReq := []
  parked  : List DrawReq := []
  /-- Requests of each instance since its last instantiation or reseed; additional input not yet applied to it. -/
  counter : FMap Nat := []
  addDue  : BitVec 64 := 0
  /-- Additional input of the last ENT_RESEED completed with OK since reset. -/
  input   : List Byte := []
  current : FMap Int := []
  recal   : Bool := false
  mode    : BitVec 2 := 0
  pattern : FMap Word := []
  pair    : BitVec 3 := 0
  tests   : BitVec 4 := 0
  fails   : Word := 0
  out     : BitVec 64 := 0
  outHi   : Word := 0
  host    : BitVec 64 := 0
  hostHi  : Word := 0
deriving DecidableEq, Repr

end Sys2Proof.Machine
end

