-- ==== Sys2Proof/Machine/StEvr.lean ====
section
/-! DEFINITION. The state of the self-test controller and of the event recorder (R531-R554). -/

namespace Sys2Proof.Machine

/-- One event log record (R545). -/
structure EvrRecord where
  seq    : Word
  slot   : Nat
  gen    : BitVec 16
  repeats : BitVec 16
  source : BitVec 16
  flags  : BitVec 16
  detail : BitVec 64
  first  : BitVec 64
  last   : BitVec 64
  hours  : Word
  cycles : Word
deriving DecidableEq, Repr

/-- One histogram channel (R547). -/
structure Histogram where
  gen    : BitVec 16 := 0
  metric : BitVec 8 := 0
  log2   : Bool := false
  width  : BitVec 8 := 0
  base   : Word := 0
  bins   : FMap Word := []
deriving DecidableEq, Repr

/-- One extreme pair (R548). -/
structure Extreme where
  gen    : BitVec 16 := 0
  metric : BitVec 8 := 0
  empty  : Bool := true
  min    : Word := 0
  max    : Word := 0
  minAt  : BitVec 64 := 0
  maxAt  : BitVec 64 := 0
deriving DecidableEq, Repr

/-- One window (R549): the kind, 0 log, 1 histograms, 2 extremes, and the caller class that opened it. -/
structure EvrWindow where
  isOpen   : Bool := false
  sideband : Bool := false
  kind     : BitVec 8 := 0
  cursor   : Word := 0
deriving DecidableEq, Repr

/-- What a snapshot in flash holds (R552). -/
structure EvrSnapshot where
  log      : List EvrRecord := []
  next     : Word := 0
  hist     : FMap Histogram := []
  extremes : FMap Extreme := []
deriving DecidableEq, Repr

/-- The event recorder. -/
structure Recorder where
  /-- Records held, oldest first. -/
  log        : List EvrRecord := []
  next       : Word := 0
  /-- Generation of each of the 512 slots, and the slot the next record takes. -/
  gens       : FMap (BitVec 16) := []
  wr         : Nat := 0
  lost       : Word := 0
  /-- The staging buffer of the vault die, oldest first, and the events beyond its 32. -/
  staged     : List EvrRecord := []
  stagedLost : Nat := 0
  hist       : FMap Histogram := []
  extremes   : FMap Extreme := []
  windows    : FMap EvrWindow := []
  /-- Windows opened since reset; the next id is one more. -/
  windowIds  : Nat := 0
  snapshot   : EvrSnapshot := {}
  /-- Records the last power-fail commit programmed (R552). -/
  commitLog  : List EvrRecord := []
deriving DecidableEq, Repr

/-- One self-test request (R532, R537). State: 0 waiting, 1 running, 2 passed, 3 failed, 4 displaced, 5 expired. -/
structure BstRequest where
  cls       : BitVec 8 := 0
  index     : BitVec 16 := 0
  slice     : BitVec 16 := 0
  state     : BitVec 8 := 0
  unit      : BitVec 16 := 0xFFFF
  signature : Word := 0
  hours     : Word := 0
  /-- A qualification run of R536. -/
  qualify   : Bool := false
  /-- A run of the schedule (R532), which does not expire. -/
  scheduled : Bool := false
  /-- The slice that runs, or runs next. -/
  at_       : BitVec 16 := 0
  /-- The march test of the qualification was repaired and is rerun (R536). -/
  rerun     : Bool := false
  /-- The unit was active and returns to that role (R532, R538). -/
  borrowed  : Bool := false
deriving DecidableEq, Repr

/-- One entry of the soft-repair map (R541). -/
structure RepairEntry where
  macro_ : Word
  column : Bool
  spare  : BitVec 8
  address : BitVec 16
deriving DecidableEq, Repr

/-- The self-test controller. -/
structure SelfTest where
  requests  : FMap BstRequest := []
  /-- Ids that wait, in acceptance order; ids that run; the last completed ids, newest first. -/
  waiting   : List Nat := []
  running   : List Nat := []
  done      : List Nat := []
  /-- Ids given since reset. -/
  ids       : Nat := 0
  unqualLane : BitVec 16 := 0
  unqualSvc  : BitVec 28 := 0
  unqualCru  : BitVec 160 := 0
  full      : Bool := false
  /-- Result of the full BIST (R539), read as request id 0. -/
  fullResult : Option BstRequest := none
  linkLine  : BitVec 5 := 0
  linkLink  : BitVec 6 := 0
  pattern   : BitVec 2 := 3
  linkBusy  : Bool := false
  locked    : Bool := false
  linkDone  : Bool := false
  linkBits  : BitVec 64 := 0
  linkBitsHi : Word := 0
  linkErr   : Word := 0
  repairs   : List RepairEntry := []
  /-- Entries blown into the repair fuses (R543). -/
  fused     : List RepairEntry := []
deriving DecidableEq, Repr

end Sys2Proof.Machine
end

