-- ==== Sys2Proof/Machine/StFlash.lean ====
section
/-! DEFINITION. The state of the embedded flash and its controller (R430-R446), and the configuration items (R199). -/

namespace Sys2Proof.Machine

/-- A program of a page or an erase of a sector, queued or in progress. -/
structure FlashOp where
  erase : Bool := false
  /-- Logical offset of the page or sector. -/
  addr  : Nat := 0
  bytes : List Byte := []
  /-- The command that waits for it; none for the register interface and for background work. -/
  task  : Option Nat := none
  /-- It was given by FLC_CMD. -/
  byReg : Bool := false
  /-- A page of the saggar log (R329). -/
  log   : Bool := false
deriving DecidableEq, Repr

/-- One protection group (R443). -/
structure FlashGroup where
  first  : BitVec 12 := 0
  count  : BitVec 12 := 0
  hash   : List Byte := []
  /-- 0 unassigned, 1 open, 2 locked, 3 locked and opened by password. -/
  state  : BitVec 2 := 0
  /-- Consecutive wrong passwords, held in the backup domain, and the lockout they brought. -/
  fails  : Nat := 0
  lockout : Bool := false
  /-- First sector, count and state of the group table, where FLC_GRPRANGE or FLC_GRPSTATE was written since the boot (R445). -/
  table  : Option (BitVec 12 × BitVec 12 × BitVec 2) := none
deriving DecidableEq, Repr

/-- The flash. -/
structure Flash where
  /-- Content by logical offset; an erased byte reads 0xFF. -/
  mem     : FMap Byte := []
  prog    : Option FlashOp := none
  era     : Option FlashOp := none
  queue   : List FlashOp := []
  suspended : Bool := false
  /-- Remapped logical sectors with their spare, erase counts by physical sector, pulses of the last erase. -/
  remap   : FMap Nat := []
  counts  : FMap Nat := []
  pulses  : FMap Nat := []
  /-- Spares taken or worn, of 256. -/
  used    : Nat := 0
  /-- Erase-pending and worn-pending sectors. -/
  erasePending : List Nat := []
  wornPending  : List Nat := []
  wp      : FMap Word := []
  groups  : FMap FlashGroup := []
  /-- FLC_GRPRANGE and FLC_GRPSTATE stand in `groups`. -/
  grpSel  : BitVec 6 := 0
  wearSel : BitVec 13 := 0
  addr    : BitVec 17 := 0
  buf     : FMap Word := []
  result  : BitVec 4 := 0
  lastPulses : BitVec 8 := 0
  err     : Bool := false
  retired : Bool := false
  warn    : Bool := false
  /-- Pages of the saggar log programmed so far, modulo its ring. -/
  logHead : Nat := 0
  /-- Class 0 configuration items by number, as written (R199). -/
  items   : FMap (List Byte) := []
  /-- The items at the last reset that keeps only what POR_N keeps, for those that apply from it on. -/
  applied : FMap (List Byte) := []
  /-- Signature sequence (R198). -/
  signSeq : Word := 0
deriving DecidableEq, Repr

end Sys2Proof.Machine
end

