-- ==== Sys2Proof/Machine/StHif.lean ====
section
/-! DEFINITION. The state of the host interface: functions with their mailboxes and MSI-X tables, queue pairs, tokens
(R163-R169, R205-R230). -/

namespace Sys2Proof.Machine

/-- The mailbox of a function (R163). -/
structure Mailbox where
  /-- Bytes of the request area and of the response area, 2 KiB each. -/
  req  : FMap Byte := []
  resp : FMap Byte := []
  lastStatus : BitVec 16 := 0
  seq     : BitVec 8 := 0
  overrun : Bool := false
  pageErr : Bool := false
  /-- 0 IDLE, 1 BUSY, 2 DONE. -/
  state   : BitVec 2 := 0
  vector  : BitVec 11 := 0
  ie      : Bool := false
  /-- The command in progress; none while BUSY: GO was written and the request has not been taken up. -/
  task    : Option Nat := none
deriving DecidableEq, Repr

/-- One MSI-X table entry (R227). -/
structure MsixEntry where
  address : BitVec 64 := 0
  data    : Word := 0
  masked  : Bool := true
deriving DecidableEq, Repr

/-- One PCIe function. -/
structure HostFn where
  /-- Memory Space Enable, Bus Master Enable, MSI-X Enable of its configuration space. -/
  memEnable  : Bool := false
  busMaster  : Bool := false
  msixEnable : Bool := false
  /-- Device power state: 0 D0, 3 D3hot. -/
  dState     : BitVec 2 := 0
  qsel       : BitVec 12 := 0
  mailbox    : Mailbox := {}
  msix       : FMap MsixEntry := []
  pba        : BitVec 32 := 0
deriving DecidableEq, Repr

/-- One queue pair (R210-R227). -/
structure QueuePair where
  assigned : Bool := false
  owner    : BitVec 6 := 0
  sqBase   : BitVec 64 := 0
  cqBase   : BitVec 64 := 0
  credits  : BitVec 12 := 0
  size     : BitVec 4 := 4
  time     : BitVec 10 := 0
  count    : BitVec 8 := 0
  ie       : Bool := false
  vector   : BitVec 5 := 0
  en       : Bool := false
  /-- 0 DISABLED, 1 ENABLED, 2 DRAINING, 3 ERROR. -/
  state    : BitVec 2 := 0
  /-- The queue pair was in ERROR when it began to drain (R215). -/
  errored  : Bool := false
  cause    : BitVec 4 := 0
  /-- The saggar it is bound to (SAG_BIND_QUEUE). -/
  bound    : Option (BitVec 12) := none
  sqTail   : BitVec 12 := 0
  cqHead   : BitVec 12 := 0
  sqHead   : BitVec 12 := 0
  issued   : BitVec 12 := 0
  consumed : BitVec 12 := 0
  returned : BitVec 12 := 0
  /-- Where the next completion entry goes, and the phase it carries (R218). -/
  cqTail   : BitVec 12 := 0
  phase    : Bool := true
  /-- Completions counted towards the next message (R227). -/
  counted  : Nat := 0
  /-- Job tokens reserved for descriptors not yet fetched (R222, R224). -/
  reserved : Nat := 0
  /-- Descriptors fetched and not yet taken up, oldest first: submission slot and content. -/
  fetched  : List (BitVec 12 × FetchResult) := []
  /-- Completion entries held back while a draining queue pair's ring is full (R215). -/
  held     : List (List Byte) := []
deriving DecidableEq, Repr

/-- The host interface. -/
structure HostIf where
  fns       : FMap HostFn := []
  qps       : FMap QueuePair := []
  /-- VF Enable: functions 1 to 63 exist. -/
  vfEnable  : Bool := false
  gevecIe   : Bool := false
  gevecVec  : BitVec 5 := 0
  /-- Job tokens issued or reserved; HIF_TOKENS.FREE is 65,536 less this. -/
  tokensOut : Nat := 0
  /-- Tokens issued and returned since the span opened (R376). -/
  issuedSum   : Nat := 0
  returnedSum : Nat := 0
  /-- Current values of the smooth weighted round robin, by saggar (R224). -/
  current   : FMap Int := []
  /-- The queue pair that got the last token of each saggar (round robin of R224). -/
  lastQp    : FMap Nat := []
  /-- Fetch stopped for want of tokens (events 17 and 18). -/
  exhausted : Bool := false
  /-- The data link layer is up; rate code and width; L1.2; L2 after PME_Turn_Off. -/
  linkUp    : Bool := false
  rate      : BitVec 8 := 0
  width     : BitVec 8 := 0
  l12       : Bool := false
  l2        : Bool := false
  /-- LTR Mechanism Enable, Max Snoop Latency, Max No-Snoop Latency of the physical function (R79). -/
  ltrEnable : Bool := false
  ltrSnoop  : BitVec 13 := 0
  ltrNoSnoop : BitVec 13 := 0
deriving DecidableEq, Repr

/-- One step of work that a command waits for. -/
inductive Work where
  /-- A generator output of so many bytes (R399). -/
  | draw (bytes : Nat)
  /-- An internal lane job: algorithm, bytes, and the key it runs on (R274, R350). -/
  | hash (alg : BitVec 16) (bytes : Nat) (key : Option Nat)
  /-- A crucible operation: algorithm, operation type of R369, operand length in 64-bit words, sealed key; `overhead`
  work serves no saggar (R16). -/
  | op (alg : BitVec 16) (type w : Nat) (key : Option Nat) (overhead : Bool)
  /-- The lane job of a data descriptor. -/
  | lane
  /-- Jobs of these commands complete and the object is scrubbed (R185). -/
  | drain (tasks : List Nat)
  /-- A program or an erase of the embedded flash (R433-R438): page or sector address, and the bytes of a program. -/
  | program (addr : Nat) (bytes : List Byte)
  | erase (sector : Nat)
  /-- A program of the next page of the saggar log (R329). -/
  | logPage
  /-- The part stands in a cone that the new value permits (R80). -/
  | cone
  /-- The units of the clusters or classes named have no job left (R266, R581). -/
  | idle (units : List Nat)
  /-- The retraining of a channel (R423). -/
  | retrain
  /-- Tokens for the crucibles of a lease (R187, R287). -/
  | lease (n : Nat)
  /-- Blocks that a reseed of every instance still needs (R398). -/
  | reseed (left : Nat)
  /-- A module call (R589). -/
  | call
  /-- The blocks of an export (R504). -/
  | card
deriving DecidableEq, Repr

/-- A Depepa command or data descriptor in progress. -/
structure Task where
  opcode   : BitVec 16 := 0
  rq       : Req := { route := .mailbox 0, flags := 0, tag := 0, saggar := 0, reserved := 0, length := 0, payload := [],
                      data := [], respAddr := 0, respRoom := 0, dmaFails := false }
  desc     : Option DataDesc := none
  /-- The effect point has been reached (R168). -/
  effected : Bool := false
  /-- What it still waits for, in order. -/
  work     : List Work := []
  /-- The job that runs for the front of `work`. -/
  job      : Option Nat := none
  /-- A token reservation of its descriptor that no job has taken over yet (R222). -/
  reserved : Bool := false
  /-- Phase of a command of several phases. -/
  phase    : Nat := 0
  /-- Randomness drawn so far. -/
  drawn    : List Byte := []
  /-- Attempts the last crucible operation ran. -/
  attempts : Nat := 0
  /-- Values the command needs again at its end. -/
  note     : List Nat := []
  /-- Bytes the command needs again at its end. -/
  store    : List Byte := []
  /-- Microseconds added by recomputation or takeover (R173). -/
  added    : Nat := 0
  recomputed : Bool := false
  /-- No response is delivered (R169). -/
  silent   : Bool := false
  /-- The status it completes with when its running job ends (R315, R359). -/
  fate     : Option Nat := none
deriving DecidableEq, Repr

/-- A job in flight on a lane or a crucible, holding one token (R187). -/
structure Job where
  /-- The command it serves; none for work of the part itself. -/
  task     : Option Nat := none
  saggar   : BitVec 12 := 0
  /-- It serves no saggar (R16). -/
  overhead : Bool := false
  /-- It holds its token, or the reservation that becomes it (R222). -/
  token    : Bool := false
  /-- The token has been counted as issued. -/
  issued   : Bool := false
  key      : Option Nat := none
  onLane   : Bool := false
  alg      : BitVec 16 := 0
  type     : Nat := 0
  w        : Nat := 0
  bytes    : Nat := 0
  session  : Option Nat := none
  /-- The unit that runs it. -/
  unit     : Option Nat := none
  /-- It is the rerun of a recomputation (R20, R285). -/
  rerun    : Bool := false
  /-- It waits until the vault has loaded its key (R337). -/
  keyWait  : Bool := false
  /-- Microseconds the recomputation added. -/
  added    : Nat := 0
  live     : Bool := false
deriving DecidableEq, Repr

end Sys2Proof.Machine
end

