-- ==== Sys2Proof/Machine/StLanes.lean ====
section
/-! DEFINITION. The state of the glaze lanes (R231-R264). -/

namespace Sys2Proof.Machine

/-- One key slot of a lane: the saggar it is tagged with and the key it holds; `window` is material that CL_KEYLOAD
brought (R257). -/
structure KeySlot where
  valid  : Bool := false
  saggar : BitVec 12 := 0
  key    : Option Nat := none
  window : List Byte := []
deriving DecidableEq, Repr

/-- One lane. -/
structure Lane where
  busy     : Bool := false
  saggar   : BitVec 12 := 0
  slots    : FMap KeySlot := []
  fault    : BitVec 3 := 0
  /-- Sessions whose messages its context store holds, most recently used first (R232). -/
  contexts : List Nat := []
  actBytes : BitVec 64 := 0
  actHi    : Word := 0
  actJobs  : Word := 0
  /-- Bytes by the classes of R369 (R372). -/
  byClass  : FMap Nat := []
  job      : Option Nat := none
deriving DecidableEq, Repr

/-- The lanes and the verify buffer. -/
structure Lanes where
  lane     : FMap Lane := []
  spillEn  : Bool := true
  /-- Zeroed granules not allocated, and granules that wait for their zeroing (R242, R244). -/
  dieFree   : Nat := 12288
  dieDirty  : Nat := 0
  spillFree : Nat := 131072
  spillDirty : Nat := 0
  /-- Granules each saggar holds. -/
  facet    : FMap Nat := []
  spill    : FMap Nat := []
  keyWin   : FMap Word := []
  /-- SAGGAR, LANE, SLOT, LEN of CL_KEYLOAD as last written, DONE, and a load that runs. -/
  keyLoad  : Word := 0
  done     : Bool := false
  loading  : Bool := false
  /-- The word whose GO started that load. -/
  loadOf   : Word := 0
  /-- Lane jobs that hold a token and wait for a lane, in token order; reruns first. -/
  queue    : List Nat := []
deriving DecidableEq, Repr

end Sys2Proof.Machine
end

