-- ==== Sys2Proof/Machine/StLcs.lean ====
section
/-! DEFINITION. The state of life cycle and debug authorisation (R471-R488). -/

namespace Sys2Proof.Machine

/-- Life cycle and debug session. -/
structure LifeCycle where
  /-- Margined read of the life-cycle fuses, groups 0 to 2 from bit 0 up, in copies A and B (R472, R474). -/
  otpA    : BitVec 192 := 0
  otpB    : BitVec 192 := 0
  /-- The normal read of the same fuses. -/
  normA   : BitVec 192 := 0
  normB   : BitVec 192 := 0
  rootDis : Bool := false
  /-- The state as decoded at the last fuse read: 0 to 3, 0xFF invalid (R473, R487). -/
  state   : BitVec 8 := 0
  marginErr : Bool := false
  /-- Debug session (R482, R484); in Greenware it is open with every right from reset. -/
  isOpen  : Bool := true
  rights  : BitVec 8 := 0xFF
  signer  : Bool := false
  lastHour : Word := 0
  nonce   : BitVec 128 := 0
  hours   : Word := 0
  cycles  : Word := 0
  /-- An LC_TRANSITION succeeded or failed after programming: the whole part resets (R200, R477). -/
  resetDue : Bool := false
deriving DecidableEq, Repr

end Sys2Proof.Machine
end

