-- ==== Sys2Proof/Machine/StMem.lean ====
section
/-! DEFINITION. The state of the memory subsystem (R411-R429). -/

namespace Sys2Proof.Machine

/-- A retraining that runs (R423): its channel, whether a step failed, and the UNIT_RECALIBRATE that waits for it. -/
structure Retrain where
  channel : Nat
  failed  : Bool := false
  task    : Option Nat := none
deriving DecidableEq, Repr

/-- The LPDDR6 channels and their controllers. -/
structure MemSub where
  trained  : BitVec 16 := 0
  failing  : BitVec 16 := 0
  /-- Fewer than nine channels trained (R421). -/
  degraded : Bool := false
  retrain  : Option Retrain := none
  /-- Channels whose drift retraining waits (R423). -/
  waiting  : List Nat := []
  /-- MEM_CHERR_c and MEM_CHTRAIN_c; all of them saturate. -/
  checks   : FMap Nat := []
  repaired : FMap Nat := []
  retrains : FMap Nat := []
  failSteps : FMap Nat := []
  /-- Channels recorded as failing in the repair-map area of the flash (R424). -/
  recorded : BitVec 16 := 0
deriving DecidableEq, Repr

end Sys2Proof.Machine
end

