-- ==== Sys2Proof/Machine/StPower.lean ====
section
/-! DEFINITION. The state of the power and clock manager, the supplies and pins it reads and drives, the mesh and the
die-to-die link (R14-R99, R591-R593). -/

namespace Sys2Proof.Machine

/-- Supplies and input pins as the part sees them. -/
structure Supplies where
  /-- POR_N is high. -/
  porN     : Bool := false
  /-- PWRFAIL_N is high. -/
  pwrfailN : Bool := true
  /-- PG_CORE, PG_SRAM, PG_PCIE, PG_DRAM in bits 0 to 3 (R192). -/
  pg       : BitVec 4 := 0
  perstN   : Bool := false
  /-- Main rails and VDD_VAULT in range, VDD_HOLD in range, VBAT present. -/
  railsUp  : Bool := false
  vddVault : Bool := false
  vddHold  : Bool := false
  vbat     : Bool := false
deriving DecidableEq, Repr

/-- Output pins: true is asserted (R49, R50, R458, R555, R591, R592). -/
structure OutPins where
  holdDone   : Bool := false
  thermAlert : Bool := false
  thermTrip  : Bool := false
  tamper     : Bool := false
  pcieWake   : Bool := false
  sbAlert    : Bool := false
deriving DecidableEq, Repr

/-- The power and clock manager. -/
structure PowerMgr where
  /-- The compute die is out of reset and its mailbox is ready (R53, R93). -/
  up       : Bool := false
  /-- The compute die has been released from reset (R53). -/
  released : Bool := false
  cone     : BitVec 3 := 0
  target   : BitVec 3 := 0
  moving   : Bool := false
  /-- The transition that runs is an exit, or an entry that a wake source reversed (R81). -/
  leaving  : Bool := false
  throttle : BitVec 4 := 0
  floor    : BitVec 20 := 0x28
  clusters : BitVec 5 := 2
  lanes    : BitVec 4 := 2
  avsOn    : Bool := false
  avsFault : Bool := false
  /-- A VDD_CORE regulator answers with the format of R67. -/
  regulator : Bool := false
  setpoint : BitVec 10 := 0x2EE
  high     : BitVec 10 := 0x352
  low      : BitVec 10 := 0x2A8
  /-- A setpoint write that was not acknowledged (R69). -/
  unacked  : Option (BitVec 10) := none
  /-- Failures in a row to the VDD_CORE regulator. -/
  pmFails  : Nat := 0
  /-- Consecutive windows with slack of 12 % or more (R90). -/
  goodWindows : Nat := 0
  /-- Monitors in whose domain the lane or crucible clocks are halved (R90). -/
  halved   : BitVec 64 := 0
  /-- PLLs by the index of R584: out of lock, and domains moved to the twin (R86). -/
  unlocked : BitVec 16 := 0
  onTwin   : BitVec 16 := 0
  /-- The always-on timebase (R88) and the latched COUNT_HI. -/
  aon      : BitVec 48 := 0
  aonHi    : Word := 0
  crystalOk : Bool := false
  scaled   : Bool := false
  /-- Ratio of crystal to ember oscillator in force (R89); held in the backup domain. -/
  ratio    : Word := 0
  rstCause : BitVec 7 := 1
  /-- The power-fail commit in progress, with its trigger (R56, R99). -/
  commit   : Option (BitVec 8) := none
  /-- A commit was stopped (R60): its trigger, until the next boot records it (R99). -/
  stopped  : Option (BitVec 8) := none
  /-- The reset that holds the part has set its bit of CONE_RST_CAUSE (R98). -/
  caused   : Bool := false
  /-- A thermal trip holds the compute die gated (R50). -/
  tripped  : Bool := false
  /-- VDD_HOLD was out of range at compute-die release (R62). -/
  holdAbsent : Bool := false
  /-- Hottest junction in degrees Celsius, as last read. -/
  junction : BitVec 16 := 0
  /-- The part has requested an exit from cone 4 (R592). -/
  wakeAsked : Bool := false
  /-- What the save of R75 holds is valid and its key is in the BBKR. -/
  saved    : Bool := false
deriving DecidableEq, Repr

/-- The mesh and the die-to-die link. -/
structure Fabric where
  /-- Links out of use, as pairs of vertices, lower first (R26). -/
  broken   : List (BitVec 5 × BitVec 5) := []
  /-- Failed retransmissions in a row on a link, by 32 * a + b. -/
  retries  : FMap Nat := []
  linkUp   : Bool := false
  /-- Link starts; each has a fresh key (R27). -/
  starts   : Nat := 0
  /-- The pairing secrets differ (R28). -/
  unpaired : Bool := false
  /-- Failed replays in a row (R29). -/
  replays  : Nat := 0
deriving DecidableEq, Repr

end Sys2Proof.Machine
end

