-- ==== Sys2Proof/Machine/StSideband.lean ====
section
/-! DEFINITION. The state of the sideband: the two-wire port, MCTP, SPDM, DOE and the test access port (R555-R570). -/

namespace Sys2Proof.Machine

/-- A message under assembly (R557). -/
structure Assembly where
  next    : BitVec 2
  msgType : BitVec 7
  check   : Bool
  bytes   : List Byte
deriving DecidableEq, Repr

/-- Phases of an SPDM connection (R560). -/
inductive SpdmPhase where
  | fresh | versioned | capable | negotiated
deriving DecidableEq, Repr

/-- An SPDM request that waits for the exit of the cone, by kind (R563). -/
inductive SpdmAsk where
  | digests (request : List Byte)
  | certificate (slot : BitVec 8) (offset length : BitVec 16) (request : List Byte)
  | challenge (slot summary : BitVec 8) (nonce request : List Byte)
  | measurements (index : BitVec 8) (signed : Bool) (nonce request : List Byte)
deriving DecidableEq, Repr

/-- SPDM error responses the part gives (R560-R564). -/
inductive SpdmError where
  | invalidRequest | busy | unexpectedRequest | unsupportedRequest
  /-- ResponseNotReady: RDTExponent, RDTM and the token. -/
  | notReady (exponent rdtm : Nat) (token : BitVec 8)
deriving DecidableEq, Repr

/-- SPDM responses, by what they carry; their bytes are the SPDM standard's (log entry 6). -/
inductive SpdmReply where
  | version (versions : List Nat)
  /-- CTExponent, CERT_CAP and CHAL_CAP, MEAS_CAP, MEAS_FRESH_CAP, DataTransferSize and MaxSPDMmsgSize. -/
  | capabilities (exponent : Nat) (certs : Bool) (meas : BitVec 2) (fresh : Bool) (size : Nat)
  /-- DMTF measurements, ECDSA P-384, SHA-384 for messages and measurements. -/
  | algorithms
  | digests (slots : Nat) (digest : List Byte)
  | certificate (slot : Nat) (portion : List Byte) (remainder : Nat)
  | challengeAuth (chain nonce summary signature : List Byte)
  /-- Blocks as (index, value type, value). -/
  | measurements (blocks : List (Nat × Nat × List Byte)) (nonce signature : List Byte)
  | error (e : SpdmError)
deriving DecidableEq, Repr

/-- One SPDM connection (R561). -/
structure SpdmConn where
  phase    : SpdmPhase := .fresh
  /-- What signatures cover: the messages up to ALGORITHMS, the digests and certificates, the measurements since the last
  signature. -/
  opening  : List Byte := []
  certs    : List Byte := []
  measured : List Byte := []
  /-- The request that waits for a cone exit, with its token. -/
  deferred : Option (BitVec 8 × SpdmAsk) := none
  /-- The request whose signature is being made. -/
  serving  : Option SpdmAsk := none
  tokens   : BitVec 8 := 0
deriving DecidableEq, Repr

/-- The sideband. -/
structure Sideband where
  /-- The two-wire port is in I3C mode, with its dynamic address. -/
  i3c      : Bool := false
  dynAddr  : BitVec 7 := 0
  /-- Events the controller enabled (ENEC, DISEC): in-band interrupts are bit 0. -/
  events   : BitVec 8 := 1
  eidWire  : BitVec 8 := 0
  eidVdm   : BitVec 8 := 0
  /-- Messages under assembly on each binding, by 8 * source EID + tag. -/
  wire     : FMap Assembly := []
  vdm      : FMap Assembly := []
  drops    : Word := 0
  /-- Depepa requests that arrived in cone 3 or 4 and run after the exit (R559). -/
  waiting  : List (BitVec 16 × Req) := []
  /-- Connections: 0 two-wire, 1 VDM, 2 DOE. -/
  conns    : FMap SpdmConn := []
  /-- An unread DOE response, and the DOE Error bit (R567). -/
  doeReady : Bool := false
  doeError : Bool := false
  /-- The instruction register of the test access port (R568): IDCODE after Test-Logic-Reset. -/
  ir       : BitVec 8 := 2
deriving DecidableEq, Repr

end Sys2Proof.Machine
end

