-- ==== Sys2Proof/Machine/StTag.lean ====
section
/-! DEFINITION. The state of the rack tag (R510-R530). -/

namespace Sys2Proof.Machine

/-- States of the tag (R511). -/
inductive TagState where
  | ready | arbitrate | reply | acknowledged | opened | secured
deriving DecidableEq, Repr

/-- The rack tag. -/
structure Tag where
  field   : Bool := false
  phase   : TagState := .ready
  /-- Inventoried flags of sessions 0 to 3 (true is B), and SL. -/
  flags   : BitVec 4 := 0
  sl      : Bool := false
  session : BitVec 2 := 0
  q       : BitVec 4 := 0
  slot    : BitVec 15 := 0
  /-- The RN16 or handle in force. -/
  rn      : BitVec 16 := 0
  /-- Words of tag memory by 256 * bank + word: password words 2 and 3, EPC words 1 to 9, user words from 0x10. -/
  mem     : FMap (BitVec 16) := [(0x101, 0x4400)]
  /-- Physical row of each logical row that differs from its number, released rows, retired rows (R521, R522). -/
  rows    : FMap Nat := []
  released : List Nat := []
  retired : List Nat := []
  commits : BitVec 16 := 0
  /-- A wrong password: the 200 ms, and the loss and return of supply, that must still pass (R516). -/
  timed   : Bool := false
  cycled  : Bool := false
  pwdFails : BitVec 16 := 0
  recovered : Bool := false
  pwdFail : Bool := false
  fieldWrite : Bool := false
  /-- The snapshot of the backup domain, words 0x00 to 0x0E. -/
  mirror  : List (BitVec 16) := []
deriving DecidableEq, Repr

end Sys2Proof.Machine
end

