-- ==== Sys2Proof/Machine/StTal.lean ====
section
/-! DEFINITION. The state of the tally block (R362-R386, R595). -/

namespace Sys2Proof.Machine

/-- Counts of the resource fields of a record (R367), exact: cycles and byte-milliseconds (R373). -/
structure Charge where
  lane    : FMap Int := []
  ops     : FMap Int := []
  cycles  : Int := 0
  rawCycles : Int := 0
  handshakes : Int := 0
  recomputed : Int := 0
  entropy : Int := 0
  byteMs  : Int := 0
  abandoned : Int := 0
deriving DecidableEq, Repr

/-- One tally record, with the amounts that it reports (R367, R368). -/
structure TallyRecord where
  kind    : BitVec 8
  flags   : BitVec 8
  saggar  : BitVec 16
  span    : BitVec 16
  seq     : BitVec 64
  first   : BitVec 64
  charge  : Charge
  /-- Offsets 132 and 156. -/
  field132 : Word
  field156 : Word
  /-- The attestation key could be derived when it was issued (R565). -/
  signed  : Bool
deriving DecidableEq, Repr

/-- A closed span in the journal (R380): its saggar charges, its last sequence number, its first minute and the number of
its records. A broken-seal pair of R383 that closed an open span stands here like that span, with what its upper bound adds
(R383, R384). -/
structure JournalSpan where
  /-- The saggar records of the span by sequence number, with their exact charges; their sum is the seal less overhead
  and in-flight change. -/
  items : List (Nat × Charge)
  last  : BitVec 64
  first : BitVec 64
  count : Nat
  excess  : Charge := {}
deriving DecidableEq, Repr

/-- The commit page of R382. -/
structure CommitPage where
  first  : BitVec 64
  seq    : BitVec 64
  acked  : Option (BitVec 64)
  sum    : Charge
deriving DecidableEq, Repr

/-- Records of the backlog lost with their line since the last close (R419): how many, the span of the first of them, and
the sum of their charges. -/
structure LostRecords where
  count : Nat
  first : BitVec 64
  span  : BitVec 16
  sum   : Charge
deriving DecidableEq, Repr

/-- The tally block. -/
structure Tally where
  timeSet  : Bool := false
  /-- UTC seconds that SYS_SET_TIME gave less the timebase seconds then (R362); in the backup domain. -/
  offset   : Int := 0
  /-- Charges of the open span by saggar, overhead, and remainders carried (R373). -/
  saggars  : FMap Charge := []
  overhead : Charge := {}
  carried  : FMap (Int × Int × Int) := []
  /-- Engine counters since the span opened, less what the records hold: the seal (R372). -/
  engine   : Charge := {}
  inflight : Charge := {}
  /-- Records awaiting TAL_ACK, oldest first, and the highest TAL_READ has returned. -/
  records  : List TallyRecord := []
  returned : Option (BitVec 64) := none
  next     : BitVec 64 := 0
  acked    : Option (BitVec 64) := none
  /-- Records released by TAL_ACK since the last start, and the first number issued since then: every number before it is
  released or lost under R383 (R376). -/
  released : Nat := 0
  base     : Nat := 0
  /-- Records lost with their line that no pair has told of yet, and the number of those lost since the last start (R419). -/
  lost     : Option LostRecords := none
  lostSum  : Nat := 0
  /-- In-flight activity at the close of the last span. -/
  before   : Charge := {}
  /-- The open span: whether one is open, its first minute, flags gathered, the target length. -/
  isOpen   : Bool := false
  first    : BitVec 64 := 0
  flags    : BitVec 8 := 0
  target   : Nat := 1
  hold     : Bool := false
  checkFail : Bool := false
  /-- The last minute checked, and whether an identity failed there (TAL_GET_SEAL). -/
  checkMinute : BitVec 64 := 0
  checkBroken : Bool := false
  /-- The minute at which a cone of depth 3 or more was entered (R365, R385). -/
  entryMinute : Option (BitVec 64) := none
  /-- The minute of a power fail in cone 3 or 4 (R385). -/
  failMinute : Option (BitVec 64) := none
  /-- The minute in which a reset of the whole part came (R383). -/
  resetMinute : Option (BitVec 64) := none
  /-- The journal: spans, the acknowledgement state as last journalled, the commit page (R380-R382). -/
  journal  : List JournalSpan := []
  ackJournal : Option (BitVec 64) := none
  ackDue   : Bool := false
  commitPage : Option CommitPage := none
  /-- Target length in force at the last journalled close (R384). -/
  closeTarget : Nat := 1
  /-- A record of the last close is not readable yet (R371). -/
  unreadable : Nat := 0
  seqHi    : Word := 0
  ackedHi  : Word := 0
  minHi    : Word := 0
deriving DecidableEq, Repr

end Sys2Proof.Machine
end

