-- ==== Sys2Proof/Machine/StTamper.lean ====
section
/-! DEFINITION. The state of the tamper detectors and of the backup domain (R447-R470). -/

namespace Sys2Proof.Machine

/-- One entry of the backup tamper log (R463). -/
structure TamperEntry where
  seq     : Word := 0
  mask    : BitVec 16 := 0
  cls     : BitVec 8 := 0
  repeats : BitVec 8 := 0
  time    : Word := 0
  lockseq : BitVec 16 := 0
  supply  : BitVec 8 := 0
  design  : BitVec 8 := 0
deriving DecidableEq, Repr

/-- The backup domain and the detectors. -/
structure Backup where
  /-- The validity pattern is there (R461). -/
  valid  : Bool := false
  /-- 0 unlocked, 1 locked, 2 locked and scrubbed. A factory-fresh part starts at 2 (R461). -/
  lock   : BitVec 2 := 2
  lost   : Bool := true
  lockseq : BitVec 16 := 0
  /-- TMP_CLASS: class of detector d in bits 2d + 1 to 2d; the defaults of R447. -/
  classes : BitVec 28 := 0x1AAA455
  latch  : BitVec 14 := 0
  active : BitVec 14 := 0
  designA : BitVec 14 := 0
  designB : BitVec 14 := 0
  /-- Fuses of R451. -/
  fuseDis : BitVec 14 := 0
  /-- Under-voltage comparison is disarmed (R450). -/
  disarmed : Bool := false
  /-- Entries, oldest first, at most 16, and the next entry sequence number. -/
  log    : List TamperEntry := []
  next   : Word := 0
  /-- Entries of the ember cycle under way, in order (R463). -/
  due    : List TamperEntry := []
  /-- Operating hours of the newest entry (R469). -/
  hours  : Word := 0
  /-- Copies in the configuration area of the flash: LOCKSEQ (R461) and TMP_CLASS (R459). -/
  seqCopy : Option (BitVec 16) := none
  classCopy : Option (BitVec 28) := none
  /-- LOCKSEQ advanced, and the copy of it is due (R461); the first boot after a loss sets LOCKSEQ anew. -/
  copyDue : Bool := false
  freshSeq : Bool := true
  /-- KEK seed of the BBKR (R327); empty where the check value fails, and the cone-save key (R75). -/
  seed   : List Byte := []
  saveKey : List Byte := []
deriving DecidableEq, Repr

end Sys2Proof.Machine
end

