-- ==== Sys2Proof/Machine/StUpd.lean ====
section
/-! DEFINITION. The state of firmware patch banks, their staging and activation (R577-R580). -/

namespace Sys2Proof.Machine

/-- One patch bank. -/
structure PatchBank where
  /-- It holds an image whose signature was verified. -/
  verified : Bool := false
  /-- Fields of the image (R577), and its length. -/
  version  : Word := 0
  format   : Word := 0
  length   : Nat := 0
deriving DecidableEq, Repr

/-- The patch images. -/
structure Update where
  bankA  : PatchBank := {}
  bankB  : PatchBank := {}
  /-- The bank-select record names bank B (R579). -/
  select : Bool := false
  /-- The image that runs: none is ROM alone, else whether it is bank B's. -/
  running : Option Bool := none
  /-- Bytes staged in the bank that is not active; none staged since its mark as empty is 0. -/
  staged : Nat := 0
  /-- The active control pair is pair 1. -/
  pair   : Bool := false
  /-- Units of service and crucible class that still run the image before the last activation. -/
  reload : List Nat := []
deriving DecidableEq, Repr

end Sys2Proof.Machine
end

