-- ==== Sys2Proof/Machine/StVault.lean ====
section
/-! DEFINITION. The state of the key vault: saggars, keys, sessions, handshakes, service modules, the saggar log
(R296-R361, R586-R590). -/

namespace Sys2Proof.Machine

/-- One saggar (R344, R354). -/
structure Saggar where
  live      : Bool := false
  owner     : BitVec 6 := 0
  weight    : BitVec 16 := 1
  quota     : Word := 0
  policy    : BitVec 64 := 0
  /-- Declared tolerance in microseconds; 0xFFFFF is unbounded (R79). -/
  tolerance : BitVec 20 := 40
  /-- SAG_DESTROY passed its effect point and drains. -/
  destroying : Bool := false
  /-- Destroyed in the span that is open: the id stays absent until the span closes (R354). -/
  spent     : Bool := false
  /-- The root, unwrapped in KV SRAM (R325). -/
  root      : List Byte := []
  /-- A change of settings waits for its record (R332). -/
  unsaved   : Bool := false
  /-- Created, or destroyed or scrubbed, in the open span (flags 4 and 5 of R369). -/
  created   : Bool := false
  ended     : Bool := false
deriving DecidableEq, Repr

/-- One key (R336, R594). -/
structure Key where
  live      : Bool := false
  saggar    : BitVec 12 := 0
  alg       : BitVec 16 := 0
  bits      : BitVec 16 := 0
  /-- A public key (VERIFY only). -/
  isPublic  : Bool := false
  material  : List Byte := []
  /-- The public part of a key pair, in the encoding of R273. -/
  pubKey    : List Byte := []
  policy    : BitVec 64 := 0
  /-- Usage limit in force; 0 is none. -/
  limit     : BitVec 64 := 0
  uses      : BitVec 64 := 0
  /-- Minute index of creation. -/
  created   : BitVec 64 := 0
  retired   : Bool := false
  destroying : Bool := false
  /-- Lives only in the hot store (R195). -/
  ephemeral : Bool := false
  /-- Certificate chain (R353); empty where none is attached. -/
  chain     : List Byte := []
  /-- The key is in the hot store (R337). -/
  hot       : Bool := false
  /-- When it was last used, for the choice of R338. -/
  used      : Nat := 0
  /-- The handshake whose connection alone may use it (R316). -/
  conn      : Option Nat := none
deriving DecidableEq, Repr

/-- A message in progress on a session (R237, R242, R252). -/
structure Msg where
  /-- The queue pair it started on; none after a restore (R254). -/
  qp     : Option (BitVec 12) := none
  seq    : BitVec 64 := 0
  aad    : Nat := 0
  text   : Nat := 0
  /-- The chaining state after the chunks so far, as the state area of R252 holds it beyond its counters. -/
  chain  : List Byte := []
  /-- Staged plaintext with the destinations, oldest chunk first (R240). -/
  staged : List (BitVec 64 × List Byte) := []
  /-- Bytes and granules staged on-die and in spill (R242). -/
  dieBytes   : Nat := 0
  dieGran    : Nat := 0
  spillBytes : Nat := 0
  spillGran  : Nat := 0
  /-- The lane whose context store holds it. -/
  lane   : Option Nat := none
deriving DecidableEq, Repr

/-- One lane session (R235-R238). -/
structure Session where
  live     : Bool := false
  saggar   : BitVec 12 := 0
  /-- Key handle; 0 for hashes. -/
  key      : BitVec 64 := 0
  alg      : BitVec 16 := 0
  decrypt  : Bool := false
  tagLen   : BitVec 8 := 0
  nonce    : List Byte := []
  messages : BitVec 64 := 0
  bytes    : BitVec 64 := 0
  /-- Highest sequence number (or data unit number) used, if any. -/
  high     : Option (BitVec 64) := none
  /-- Messages that still have jobs or staged bytes, by number; the one that the next chunk continues; numbers given. -/
  msgs     : FMap Msg := []
  cur      : Option Nat := none
  msgIds   : Nat := 0
  destroying : Bool := false
  /-- The handshake of the connection it belongs to (R316). -/
  conn     : Option Nat := none
  /-- Frozen by a lock (R456). -/
  frozen   : Bool := false
  /-- What its key's record held when the key was destroyed: SES_QUERY_USAGE works as before (R352). -/
  keyUses    : BitVec 64 := 0
  keyLimit   : BitVec 64 := 0
  keyRetired : Bool := false
deriving DecidableEq, Repr

/-- One handshake or connection (R296-R323). -/
structure Handshake where
  live    : Bool := false
  saggar  : BitVec 12 := 0
  /-- State field of R307. -/
  state   : BitVec 16 := 0
  server  : Bool := false
  cred    : BitVec 64 := 0
  suites  : BitVec 16 := 0
  groups  : BitVec 16 := 0
  suite   : Nat := 0
  group   : Nat := 0
  /-- CertificateRequest sent; a client certificate is mandatory (R310). -/
  request : Bool := false
  mandatory : Bool := false
  /-- Certificate-verify scheme chosen for the own signature, 0 for none (R299). -/
  scheme  : Nat := 0
  /-- The client's group by the HelloRetryRequest: one has been answered (R312). -/
  retried : Bool := false
  /-- Server name of the client role (R311). -/
  name    : List Byte := []
  /-- Randomness drawn at BEGIN (R313), what both sides have sent so far, and after completion the application traffic
  secrets (send, receive) and the exporter secret. -/
  random  : List Byte := []
  script  : List Byte := []
  secrets : List Byte := []
  /-- Handshake messages of the peer's flight received and decrypted so far. -/
  flight  : List Byte := []
  /-- The client offered early data: records that fail to decrypt are discarded, so many bytes so far (R296). -/
  offered : Bool := false
  early   : Nat := 0
  sendSes : BitVec 64 := 0
  recvSes : BitVec 64 := 0
  /-- A prepared KeyUpdate record and the key of the next generation (R318). -/
  prepared : Option (List Byte × Nat) := none
  /-- The spare entry is held by the key of the previous generation until its jobs end (R319). -/
  oldKey  : Option Nat := none
  destroying : Bool := false
deriving DecidableEq, Repr

/-- One record of the saggar log (R329): type 1 root, 2 settings, 3 tombstone, and the KEK seed it was sealed under. -/
structure LogRecord where
  type   : BitVec 8
  saggar : BitVec 12
  seq    : Nat
  minute : BitVec 64
  owner  : BitVec 6
  weight : BitVec 16
  quota  : Word
  policy : BitVec 64
  root   : List Byte
  seed   : List Byte
  /-- The 12 bytes drawn for it. -/
  nonce  : List Byte := []
deriving DecidableEq, Repr

/-- One service module (R586-R590). -/
structure Module where
  live    : Bool := false
  /-- 2, or 3 with the saggar it is bound to. -/
  ring    : BitVec 2 := 2
  saggar  : BitVec 16 := 0xFFFF
  gates   : Nat := 0
  limit   : Word := 0
  image   : List Byte := []
  /-- Place in the load order, and the code and data bytes. -/
  order   : Nat := 0
  size    : Nat := 0
deriving DecidableEq, Repr

/-- The key vault. -/
structure Vault where
  saggars  : FMap Saggar := []
  keys     : FMap Key := []
  sessions : FMap Session := []
  shakes   : FMap Handshake := []
  modules  : FMap Module := []
  /-- Reuse generation of each index, by type: keys, sessions, handshakes, leases, modules (R334). -/
  keyGens  : FMap Nat := []
  sesGens  : FMap Nat := []
  hsGens   : FMap Nat := []
  leaseGens : FMap Nat := []
  modGens  : FMap Nat := []
  leases   : FMap Lease := []
  /-- KV_EPOCH (R334), held in the configuration area of the flash. -/
  epoch    : BitVec 24 := 0
  /-- KEK_VALID and ROOTS of KV_STATUS. -/
  kekValid : Bool := false
  roots    : Bool := false
  /-- Reclaim of R331 runs. -/
  reclaim  : Bool := false
  /-- The saggar log, oldest first, the next sequence number, and erased sectors ahead of its head. -/
  log      : List LogRecord := []
  logErased : Nat := 1023
  /-- The seed of R326 waits for the source's start-up test or for the unlock. -/
  seedDue  : Bool := false
  sagSel   : BitVec 12 := 0
  /-- The lock state the compute die last acted on (R455, R462). -/
  lockSeen : BitVec 2 := 0
  /-- Clock of key uses, for the order of R338. -/
  useClock : Nat := 0
deriving DecidableEq, Repr

end Sys2Proof.Machine
end

