-- ==== Sys2Proof/Machine/State.lean ====
section
/-! DEFINITION. The state of the part as plain data, the reasons a step can stop, and the state after reset. -/

namespace Sys2Proof.Machine

/-- What the part sends outside (beside the registers a reader sees), newest first in State.out. -/
inductive Out where
  /-- An MSI-X message of a function (R227). -/
  | msix (fn : Nat) (address : BitVec 64) (data : Word)
  /-- A DMA write to host memory. -/
  | dmaWrite (fn : Nat) (address : BitVec 64) (bytes : List Byte)
  /-- A response handed to code in a ring of a core, to a sideband binding (R162, R180). -/
  | ringReply (core : CoreId) (header payload : List Byte)
  | sidebandReply (vdm : Bool) (tag : BitVec 3) (header payload : List Byte)
  /-- A reply of the rack tag to the reader: words, or an error code (R511). -/
  | tagReply (words : List (BitVec 16))
  | tagError (code : BitVec 8)
  /-- 4,096 bytes written to the archive card from a card block on (R501). -/
  | kiln (cardBlock : Nat) (bytes : List Byte)
  /-- The reply to an MCTP control command: completion code and fields; to an I3C command; a reading of a TAP register. -/
  | mctpControl (vdm : Bool) (code : Nat) (fields : List Byte)
  | i3cReply (bytes : List Byte)
  | tapValue (bits value : Nat)
  | spdm (t : SpdmTransport) (reply : SpdmReply)
  /-- A DOE Discovery response: vendor, type, next index. -/
  | doeDiscovery (vendor type next : Nat)
  /-- The active control pair is told that a core halted or was restarted (R141, R156, R160). -/
  | coreNotice (core : CoreId)
  /-- A command of the part to the regulator of a rail over PMBus; VOUT_COMMAND carries a setpoint in mV (R66, R67). -/
  | pmbus (rail : Nat) (command : Byte) (millivolt : Option (BitVec 10))
deriving DecidableEq, Repr

/-- The flags of SYS_GET_HEALTH that no other state holds (R192). -/
structure Health where
  /-- The patch bank that was active failed and another was taken; the part runs on ROM alone (R95). -/
  fallback   : Bool := false
  romAlone   : Bool := false
  /-- The die-to-die link was retrained (R29). -/
  retrained  : Bool := false
  /-- A control-pair takeover since the last read; a broken-seal record written since the last read. -/
  takeover   : Bool := false
  brokenSeal : Bool := false
  /-- Regulator telemetry lost (R69). -/
  telemetry  : Bool := false
deriving DecidableEq, Repr

/-- The state of the part. -/
structure State where
  /-- Commands that wait, first in, first out. -/
  pending : List Instr := []
  /-- How many free values have been used (the model's own field, log entry 1). -/
  freeCtr : Nat := 0
  out     : List Out := []
  /-- Bytes of the internal address space (R34); an unlisted byte reads as 0 (log entry 7). -/
  mem     : FMap Byte := []
  /-- Thrower cores by CoreId.key. -/
  cores   : FMap Thrower := []
  cru     : FMap Crucible := []
  /-- Roles of lanes (0 +), service cores (100 +) and crucibles (1000 +); an unlisted unit is active. -/
  roles   : FMap Role := []
  arr     : Array_ := {}
  lanes   : Lanes := {}
  ent     : Entropy := {}
  flash   : Flash := {}
  health  : Health := {}
  /-- Jobs that wait for a token, oldest first (R187). -/
  tokenWait : List Nat := []
  hif     : HostIf := {}
  /-- Commands in progress and jobs in flight, by number, and the next numbers. -/
  tasks   : FMap Task := []
  jobs    : FMap Job := []
  taskIds : Nat := 0
  jobIds  : Nat := 0
  vault   : Vault := {}
  bk      : Backup := {}
  cards   : Cards := {}
  tag     : Tag := {}
  sup     : Supplies := {}
  pins    : OutPins := {}
  pwr     : PowerMgr := {}
  fabric  : Fabric := {}
  lcs     : LifeCycle := {}
  tal     : Tally := {}
  msub    : MemSub := {}
  evr     : Recorder := {}
  bst     : SelfTest := {}
  upd     : Update := {}
  side    : Sideband := {}
deriving DecidableEq, Repr

/-- Why a step stops with a fault. No command of this part ends in one: what a core may not reach is an exception of the
core (R36, R143), what a host may not reach is answered on the link (R208). -/
inductive Fault where
deriving DecidableEq, Repr

/-- Why a command is refused. -/
inductive Refusal where
  /-- The command has no meaning in this model yet; raised by its arm of exec. Safe: the run stops. -/
  | notModelled (mnemonic : String)
deriving DecidableEq, Repr

/-- What a command answers. -/
abbrev Answer := Host.Outcome State Fault Refusal

/-- The units in the spare role of a part with no retired unit (R18, R583): of each class those above the rated count. -/
def spareRoles : FMap Role :=
  ([14, 15] ++ (List.range 4).map (124 + ·) ++ (List.range 8).map (1152 + ·)).map fun u => (u, .spare)

/-- The part right after reset: every field at its reset value, the memory with nothing listed. -/
def State.reset : State := { roles := spareRoles }

end Sys2Proof.Machine
end

