-- ==== Sys2Proof/Machine/Ops.lean ====
section
/-! DEFINITION. The shared operations of a Thrower core: its registers, the address map and the protection unit,
taking an exception and returning from one, the end of a word. -/

namespace Sys2Proof.Machine

/-! ### Cores -/

/-- The number a core has in State.cores. -/
def coreKey : CoreId → Nat
  | .control k => k.val
  | .service c => 100 + c.val
  | .crucible n => 1000 + n.val

/-- The core of an identity. -/
def State.core (s : State) (c : CoreId) : Thrower := mapGet {} s.cores (coreKey c)

/-- Puts a core back. -/
def State.setCore (s : State) (c : CoreId) (k : Thrower) : State :=
  { s with cores := mapSet {} s.cores (coreKey c) k }

/-- The crucible of a number. -/
def State.crucible (s : State) (n : Nat) : Crucible := mapGet {} s.cru n

/-- Puts a crucible back. -/
def State.setCrucible (s : State) (n : Nat) (x : Crucible) : State := { s with cru := mapSet {} s.cru n x }

/-- Rings a core class implements (R100). -/
def hasRing : CoreId → BitVec 2 → Bool
  | .service _, _ => true
  | _, r => decide (r.toNat ≤ 1)

/-- CID of R106: class in bits 9 to 8, index in bits 7 to 0. -/
def coreCid : CoreId → Word
  | .control k => BitVec.ofNat 32 k.val
  | .service c => BitVec.ofNat 32 (256 + c.val)
  | .crucible n => BitVec.ofNat 32 (512 + n.val)

/-- The address a core starts at after reset (R140). -/
def startAddress : CoreId → Addr
  | .service c => BitVec.ofNat 40 (0x20000000 + c.val * 0x40000)
  | _ => 0

/-! ### Status (R105) -/

def Thrower.ring (k : Thrower) : BitVec 2 := k.st.extractLsb' 6 2
def Thrower.ie (k : Thrower) : Bool := k.st.getLsbD 5
def Thrower.px (k : Thrower) : Bool := k.st.getLsbD 4

/-- A status word of its three fields; every other bit reads 0. -/
def mkSt (ring : BitVec 2) (ie px : Bool) : Word :=
  BitVec.ofNat 32 (ring.toNat * 64 + (if ie then 32 else 0) + (if px then 16 else 0))

/-- Bit 5, the IE field of a status word. -/
def stIe (w : Word) : Bool := w.getLsbD 5

/-- Bit 4, the PX field of a status word. -/
def stPx (w : Word) : Bool := w.getLsbD 4

/-- Bits 7 to 6, the RING field of a status word. -/
def stRing (w : Word) : BitVec 2 := w.extractLsb' 6 2

/-! ### General registers and pointers (R102, R103) -/

/-- A general register; g0 reads as zero. -/
def Thrower.greg (k : Thrower) (r : BitVec 5) : Word := if r = 0 then 0 else mapGet 0 k.g r.toNat

/-- Writes a general register; a write to g0 is discarded. -/
def Thrower.setG (k : Thrower) (r : BitVec 5) (v : Word) : Thrower :=
  if r = 0 then k else { k with g := mapSet 0 k.g r.toNat v }

def Thrower.ptr (k : Thrower) (p : BitVec 3) : Addr := mapGet 0 k.p p.toNat
def Thrower.setP (k : Thrower) (p : BitVec 3) (v : Addr) : Thrower := { k with p := mapSet 0 k.p p.toNat v }
def Thrower.pmod (k : Thrower) (p : BitVec 3) : Word := mapGet 0 k.pm p.toNat

/-- The smallest power of two at or above `n`, for 1 ≤ n ≤ 2^16. -/
def powerAtLeast (n : Nat) : Nat :=
  match (List.range 17).find? fun e => decide (n ≤ 2 ^ e) with
  | some e => 2 ^ e
  | none => 2 ^ 16

/-- The pointer after a post-update by `inc`, with the single modulo correction of R103. -/
def postUpdate (pm : Word) (p : Addr) (inc : Int) : Addr :=
  let len := pm.toNat / 65536
  let q := (p.toNat : Int) + inc
  if len = 0 then BitVec.ofInt 40 q
  else
    let base : Int := (p.toNat - p.toNat % powerAtLeast len : Nat)
    if 0 ≤ inc ∧ (len : Int) ≤ q - base then BitVec.ofInt 40 (q - len)
    else if inc < 0 ∧ q < base then BitVec.ofInt 40 (q + len)
    else BitVec.ofInt 40 q

/-- Updates pointer p by `inc`. -/
def Thrower.bump (k : Thrower) (p : BitVec 3) (inc : Int) : Thrower :=
  k.setP p (postUpdate (k.pmod p) (k.ptr p) inc)

/-- The signed STRIDE of a pointer (R104). -/
def Thrower.stride (k : Thrower) (p : BitVec 3) : Int := ((k.pmod p).setWidth 16).toInt

def Thrower.accOf (k : Thrower) (a : BitVec 1) : BitVec 72 := mapGet 0 k.acc a.toNat
def Thrower.setAcc (k : Thrower) (a : BitVec 1) (v : BitVec 72) : Thrower := { k with acc := mapSet 0 k.acc a.toNat v }
def Thrower.waccOf (k : Thrower) (a : BitVec 1) : BitVec 288 := mapGet 0 k.wacc a.toNat
def Thrower.setWacc (k : Thrower) (a : BitVec 1) (v : BitVec 288) : Thrower :=
  { k with wacc := mapSet 0 k.wacc a.toNat v }

/-! ### Free values -/

/-- The next free value of width `w`; the counter of State moves past it. -/
def State.free (s : State) (w : Nat) : BitVec w := BitVec.ofNat w (Config.freeNat s.freeCtr)

/-- The state after `n` free values have been used. -/
def State.used (s : State) (n : Nat) : State := { s with freeCtr := s.freeCtr + n }

/-! ### The protection unit (R142, R143) -/

/-- Region `i` of a ring grants permission bit `bit` (0 RD, 1 W, 2 X) for the byte at `a`. -/
def regionGrants (k : Thrower) (ring : BitVec 2) (bit a i : Nat) : Bool :=
  let r := mapGet {} k.mpu (16 * ring.toNat + i)
  r.attr.getLsbD 3 && r.attr.getLsbD bit && decide (r.base.toNat * 256 ≤ a) && decide (a ≤ r.limit.toNat * 256 + 255)

/-- A ring has a permission for a byte: the union over its 16 regions. -/
def byteGrant (k : Thrower) (ring : BitVec 2) (bit a : Nat) : Bool :=
  (List.range 16).any (regionGrants k ring bit a)

/-- A ring has a permission for `n` bytes from `a`; ring 0 of an unarmed core has every one (R141). -/
def mpuGrant (k : Thrower) (ring : BitVec 2) (bit a n : Nat) : Bool :=
  (!k.armed && decide (ring = 0)) || (List.range n).all fun j => byteGrant k ring bit (a + j)

/-! ### The address map (R34, R36) -/

/-- What an internal address names. -/
inductive MapTarget where
  | rom | computeReg | vaultReg | flash | ram | operand (n off : Nat) | nothing
deriving DecidableEq, Repr

/-- The store an internal address lies in. The two key-cache regions (R413) are decoded for no core; `ddrTop` is the
first address beyond the service data pool, which exists where nine channels or more trained; else no region of R413 is
mapped (R421). -/
def mapTarget (c : CoreId) (ring : BitVec 2) (ddrTop a : Nat) : MapTarget :=
  let inside (lo hi : Nat) : Bool := decide (lo ≤ a) && decide (a < hi)
  let isControl := match c with | .control _ => true | _ => false
  if inside 0 0x80000 then (if isControl then .rom else .nothing)
  else if inside 0x1000000 0x1D00000 then (if ring.toNat ≤ 1 then .computeReg else .nothing)
  else if inside 0x2000000 0x2700000 then (if ring = 0 then .vaultReg else .nothing)
  else if inside 0x4000000 0x6000000 then (if ring.toNat ≤ 1 then .flash else .nothing)
  else if inside 0x20000000 0x20700000 then
    (match c with
      | .service n => if (a - 0x20000000) / 0x40000 = n.val then .ram else .nothing
      | .control _ => if ring = 0 then .ram else .nothing
      | .crucible _ => .nothing)
  else if inside 0x21000000 0x21200000 then
    (match c with
      | .control k => if (a - 0x21000000) / 0x100000 = k.val then .ram else .nothing
      | _ => .nothing)
  else if inside 0x30000000 0x30A00000 then .operand ((a - 0x30000000) / 0x10000) ((a - 0x30000000) % 0x10000)
  else if ddrTop ≤ 0x1600000000 then .nothing
  else if inside 0x10C0000000 0x10D4000000 then .ram
  else if inside 0x1100000000 0x1380000000 then .ram
  else if inside 0x1400000000 0x1600000000 then .ram
  else if inside 0x1600000000 ddrTop then .ram
  else .nothing

/-- A fetch of the word at `pc` that the address map grants (R100, R136). -/
def fetchMapped (c : CoreId) (pc : Addr) : Bool :=
  let a := pc.toNat
  match c with
  | .control k => decide (a < 0x80000) ||
      (decide (0x21000000 + k.val * 0x100000 ≤ a) && decide (a < 0x21000000 + (k.val + 1) * 0x100000))
  | .service n => decide (0x20000000 + n.val * 0x40000 ≤ a) && decide (a < 0x20000000 + (n.val + 1) * 0x40000)
  | .crucible _ => decide (a < 0x4000)

/-- INFO of the NX fault that a fetch at `pc` raises in a ring, if it raises one (R143). -/
def fetchFault (c : CoreId) (k : Thrower) (ring : BitVec 2) (pc : Addr) : Option (BitVec 4) :=
  if !fetchMapped c pc then some 0
  else if !mpuGrant k ring 2 pc.toNat 4 then some 1
  else none

/-! ### Operand memory (R269-R272) -/

/-- Slots per bank at a slot length. -/
def slotCount (len : Nat) : Nat := if len = 0 then 0 else min (4096 / len) 128

/-- The byte at an operand-memory offset lies in a sealed slot or in scratch. -/
def byteSealed (x : Crucible) (off : Nat) : Bool :=
  let len := x.slotLen.toNat
  let slot := (off % 0x8000) / (8 * len)
  if slotCount len ≤ slot then true else x.sealed.getLsbD (128 * (off / 0x8000) + slot)

/-- How an accessor may use the operand memory of a crucible (R271). -/
inductive OperandRight where
  | full | dispatcher | leaseLike | refused
deriving DecidableEq, Repr

/-- The right of a core in a ring over the operand memory of crucible `n`. -/
def operandRight (s : State) (c : CoreId) (ring : BitVec 2) (n : Nat) : OperandRight :=
  let x := s.crucible n
  match c with
  | .crucible m =>
    if m.val ≠ n then .refused
    else if ring = 0 then .dispatcher
    else if x.busy && x.lease.isNone then .full else .refused
  | .control _ => if ring = 0 then .leaseLike else .refused
  | .service _ =>
    if ring ≠ 1 then .refused
    else match x.lease, (s.core c).serving with
      | some _, some h => if x.saggar = h then .leaseLike else .refused
      | _, _ => .refused

/-- The address of operand-memory offset `off` of crucible `n`. -/
def operandAddress (n off : Nat) : Nat := 0x30000000 + n * 0x10000 + off

/-- Bytes of operand memory as an accessor with a right reads them: sealed bytes read 0 and set SEAL_READ. The second
part says whether a sealed byte was among them. -/
def operandRead (s : State) (n off len : Nat) (right : OperandRight) : List Byte × Bool :=
  let x := s.crucible n
  match right with
  | .full => (memRead 0 s.mem (operandAddress n off) len, false)
  | _ =>
    ((List.range len).map (fun j => if byteSealed x (off + j) then 0 else mapGet 0 s.mem (operandAddress n (off + j))),
      (List.range len).any fun j => byteSealed x (off + j))

/-- Stores bytes into operand memory where the slot is open; sealed bytes keep their value. -/
def operandStore (x : Crucible) (n : Nat) : Nat → List Byte → FMap Byte → FMap Byte
  | _, [], m => m
  | off, b :: rest, m =>
    operandStore x n (off + 1) rest (if byteSealed x off then m else mapSet 0 m (operandAddress n off) b)

/-! ### Taking an exception (R149-R158) -/

/-- Causes of R149. -/
def causeIllegal : BitVec 8 := 0x01
def causeAlign : BitVec 8 := 0x02
def causeAccess : BitVec 8 := 0x03
def causeNx : BitVec 8 := 0x04
def causeGate : BitVec 8 := 0x05
def causeDivide : BitVec 8 := 0x06
def causeOverflow : BitVec 8 := 0x07
def causeBreak : BitVec 8 := 0x08
def causeInterrupt : BitVec 8 := 0x09
def causeWatchdog : BitVec 8 := 0x0A
def causeMachineCheck : BitVec 8 := 0x0B
def causeDouble : BitVec 8 := 0x0E
def causeForged : BitVec 8 := 0x0F

/-- The word XCAUSE takes (R139). -/
def causeWord (cause : BitVec 8) (info : BitVec 4) (imprecise multi : Bool) (orig : BitVec 8) : Word :=
  BitVec.ofNat 32 (cause.toNat + info.toNat * 256 + (if imprecise then 4096 else 0) + (if multi then 8192 else 0)
    + orig.toNat * 65536)

/-- Everything an exception brings to its entry. -/
structure Exc where
  cause     : BitVec 8
  info      : BitVec 4 := 0
  /-- Receiving ring. -/
  ring      : BitVec 2
  /-- Return address, and the word XPC takes. -/
  ret       : Addr
  xpc       : Addr
  /-- Data address for alignment and access faults, else 0. -/
  addr      : Addr := 0
  imprecise : Bool := false
  multi     : Bool := false
  /-- Asynchronous events are not taken while DF is 1; every other one then halts the core (R156). -/
  sync      : Bool := true
deriving DecidableEq, Repr

/-- The ring that receives a synchronous fault raised in a ring (R150). -/
def receivingRing (r : BitVec 2) : BitVec 2 := if 2 ≤ r.toNat then 1 else 0

/-- A core stops for good and the active control pair is told (R141, R156). -/
def haltCore (c : CoreId) (s : State) : State :=
  { s.setCore c { s.core c with halted := true, slot := none } with out := .coreNotice c :: s.out }

/-- Pushes a record: the ring, and whether it is a gate record (R139, R146, R152). -/
def Thrower.pushRecord (k : Thrower) (ring : BitVec 2) (gate : Bool) : Thrower :=
  let i := k.erdepth.toNat
  { k with
    erring := (k.erring &&& ~~~(BitVec.ofNat 32 (3 * 4 ^ i))) ||| BitVec.ofNat 32 (ring.toNat * 4 ^ i)
    erkind := setBit k.erkind i gate
    erdepth := k.erdepth + 1 }

/-- The ring of the top record. -/
def Thrower.topRing (k : Thrower) : BitVec 2 := BitVec.ofNat 2 (k.erring.toNat / 4 ^ (k.erdepth.toNat - 1))

/-- The top record is a gate record. -/
def Thrower.topGate (k : Thrower) : Bool := k.erkind.getLsbD (k.erdepth.toNat - 1)

/-- The double fault of R155 on an entry to ring `r`. -/
def doubleFault (c : CoreId) (info : BitVec 4) (orig : BitVec 8) (r : BitVec 2) (ret : Addr) (s : State) : State :=
  let k := s.core c
  if k.df then haltCore c s
  else
    s.setCore c { k with
      xsave := mapSet 0 (mapSet 0 k.xsave 0 (ret.setWidth 32)) 1 k.st
      df := true
      dfring := r
      xcause := mapSet 0 k.xcause 0 (causeWord causeDouble info false false orig)
      st := mkSt 0 false k.px
      pc := (mapGet 0 k.vbase 0).setWidth 40 + 0xE0
      slot := none
      waiting := false }

/-- The first address beyond the service data pool for the channels trained at boot: the pool is 4n - 34.625 GiB
(R413). -/
def State.ddrTop (s : State) : Nat := 0x1600000000 + (popCount s.msub.trained * 0x100000000 - 0x8A8000000)

/-- A core in a ring may write `len` bytes of operand memory of crucible `n` (R271). -/
def operandWritable (s : State) (c : CoreId) (r : BitVec 2) (n off len : Nat) : Bool :=
  match operandRight s c r n with
  | .full => true
  | .dispatcher => (List.range len).all fun j => !byteSealed (s.crucible n) (off + j)
  | _ => false

/-- The INFO of the stack check of R152 and R153 on ring `r`, if it fails. -/
def stackCheck (c : CoreId) (r : BitVec 2) (s : State) : Option (BitVec 4) :=
  let k := s.core c
  let sp := (mapGet 0 k.sp r.toNat).toNat
  if 16 ≤ k.erdepth.toNat then some 2
  else if sp % 8 ≠ 0 then some 0
  else if !mpuGrant k r 1 (sp - 8) 8 || sp < 8 then some 1
  else match mapTarget c r s.ddrTop (sp - 8) with
    | .ram => none
    | .operand n off => if operandWritable s c r n off 8 then none else some 1
    | _ => some 1

/-- Stores two words at a stack address (R152 writes only memory the stack check passed). -/
def pushWords (a : Addr) (w0 w1 : Word) (s : State) : State :=
  { s with mem := memWrite 0 s.mem a.toNat (leBytes 4 w0.toNat ++ leBytes 4 w1.toNat) }

/-- Exception entry (R152): the stack check, the saved return address and status, the record, the exception
registers of the receiving ring, the new status and the vector. An unarmed core halts (R141); a core whose XSTATE.DF
is 1 halts (R156). -/
def takeException (c : CoreId) (e : Exc) (s : State) : State :=
  let k := s.core c
  if !k.armed then haltCore c s
  else if k.df then (if e.sync then haltCore c s else s)
  else match stackCheck c e.ring s with
  | some info => doubleFault c info e.cause e.ring e.ret s
  | none =>
    let sp := mapGet 0 k.sp e.ring.toNat - 8
    let s := pushWords (sp.setWidth 40) (e.ret.setWidth 32) k.st s
    let k := k.pushRecord k.ring false
    let i := e.ring.toNat
    s.setCore c { k with
      sp := mapSet 0 k.sp i sp
      xcause := mapSet 0 k.xcause i (causeWord e.cause e.info e.imprecise e.multi 0)
      xpc := mapSet 0 k.xpc i (e.xpc.setWidth 32)
      xaddr := mapSet 0 k.xaddr i (e.addr.setWidth 32)
      xaddrh := mapSet 0 k.xaddrh i (BitVec.ofNat 32 (e.addr.toNat / 2 ^ 32))
      st := mkSt e.ring (k.ie && decide (e.ring ≠ 0)) k.px
      pc := (mapGet 0 k.vbase i).setWidth 40 + BitVec.ofNat 40 (16 * e.cause.toNat)
      slot := none
      waiting := false }

/-- A synchronous fault of the word that issues (R150, R152): in a delay slot the return address is the branch's
(R119). -/
def raise (c : CoreId) (cause : BitVec 8) (info : BitVec 4) (addr : Addr) (s : State) : State :=
  let k := s.core c
  takeException c
    { cause, info, addr
      ring := if cause = causeForged then 0 else receivingRing k.ring
      ret := match k.slot with | some p => p.from_ | none => k.pc
      xpc := k.pc } s

/-- Takes a pending imprecise arithmetic exception at a word boundary (R132, R151). -/
def takeImprecise (c : CoreId) (s : State) : State :=
  let k := s.core c
  match k.imprecise with
  | none => s
  | some m =>
    takeException c
      { cause := m.cause, ring := receivingRing m.ring, ret := k.pc, xpc := m.pc, imprecise := true, multi := m.multi }
      (s.setCore c { k with imprecise := none })

/-- An asynchronous event waits: a notice, or an interrupt line that IMASK admits (R129, R151). -/
def Thrower.eventPending (k : Thrower) : Bool :=
  k.machineCheck.isSome || k.watchdog || decide (k.ipend &&& k.imask ≠ 0)

/-- A word boundary: an asynchronous event that is due is taken, in the order of R151; one that waits ends a WAIT. -/
def boundary (c : CoreId) (s : State) : State :=
  let k := s.core c
  if !k.eventPending then s
  else
    let k := { k with waiting := false }
    let s := s.setCore c k
    if !k.running || k.halted || k.slot.isSome || !k.ie || k.df then s
    else match k.machineCheck with
    | some info =>
      takeException c { cause := causeMachineCheck, info, ring := 0, ret := k.pc, xpc := 0, sync := false }
        (s.setCore c { k with machineCheck := none })
    | none =>
      if k.watchdog then
        takeException c { cause := causeWatchdog, ring := 0, ret := k.pc, xpc := 0, sync := false }
          (s.setCore c { k with watchdog := false })
      else takeException c { cause := causeInterrupt, ring := 0, ret := k.pc, xpc := 0, sync := false } s

/-! ### Loops (R120-R123, R137) -/

/-- The ring tag of a loop level. -/
def Thrower.loopTag (k : Thrower) (lvl : Nat) : BitVec 2 := k.ltag.extractLsb' (2 * lvl) 2

/-- Sets the ring tag of a loop level. -/
def Thrower.setTag (k : Thrower) (lvl : Nat) (r : BitVec 2) : Thrower :=
  { k with ltag := setBit (setBit k.ltag (2 * lvl) (r.getLsbD 0)) (2 * lvl + 1) (r.getLsbD 1) }

/-- Level `lvl` is armed, belongs to the current ring, and ends at `a`. -/
def Thrower.endsAt (k : Thrower) (a : Addr) (lvl : Nat) : Bool :=
  decide (mapGet 0 k.lc lvl ≠ 0) && decide ((mapGet 0 k.le lvl).setWidth 40 = a) && decide (k.loopTag lvl = k.ring)

/-- The loop check of R121 over levels 2, 1, 0: the core with its counts, and the next address. -/
def loopCheck (a : Addr) : List Nat → Thrower → Thrower × Addr
  | [], k => (k, a + 4)
  | lvl :: rest, k =>
    if k.endsAt a lvl then
      let n := mapGet 0 k.lc lvl
      if 1 < n.toNat then ({ k with lc := mapSet 0 k.lc lvl (n - 1) }, (mapGet 0 k.ls lvl).setWidth 40)
      else loopCheck a rest { k with lc := mapSet 0 k.lc lvl 0 }
    else loopCheck a rest k

/-! ### The end of a word -/

/-- The status after a transfer whose slot may have written st: the slot's IE and PX remain (R117). -/
def slotSt (captured now new : Word) : Word :=
  if now = captured then new else mkSt (stRing new) (stIe now) (stPx now)

/-- The stack pointer after a transfer whose slot may have written it (R117). -/
def slotSp (captured now new : Word) : Word := if now = captured then new else now

/-- Completes the transfer whose delay slot has executed (R117, R146, R147, R154, R157). -/
def finishTransfer (c : CoreId) (p : PendingSlot) (s : State) : State :=
  let k := { s.core c with slot := none }
  match p.kind with
  | .branch next => s.setCore c { k with pc := next }
  | .gate target tring sp st =>
    let s := pushWords ((sp - 8).setWidth 40) ((p.from_ + 8).setWidth 32) st s
    let k' := k.pushRecord k.ring true
    s.setCore c { k' with
      sp := mapSet 0 k.sp tring.toNat (slotSp sp (mapGet 0 k.sp tring.toNat) (sp - 8))
      st := mkSt tring k.ie k.px
      pc := target }
  | .ret target newSt spRing sp st =>
    s.setCore c { k with
      sp := mapSet 0 k.sp spRing.toNat (slotSp sp (mapGet 0 k.sp spRing.toNat) (sp + 8))
      erdepth := k.erdepth - 1
      st := slotSt st k.st newSt
      pc := target }
  | .dfret target newSt st =>
    s.setCore c { k with df := false, st := slotSt st k.st newSt, pc := target }

/-- Counts the word that completed: one cycle (stall cycles are added where the count is read, log entry 9), and one
word of age for an imprecise exception. -/
def Thrower.tickWord (k : Thrower) : Thrower :=
  { k with cyc := k.cyc + 1, imprecise := k.imprecise.map fun m => { m with age := m.age + 1 } }

/-- A word completes: the pending transfer, or the loop check; then the word boundary, where an imprecise exception
is taken after a transfer or 32 words (R132), else an asynchronous event. -/
def completeWord (c : CoreId) (s : State) : State :=
  let k := (s.core c).tickWord
  match k.slot with
  | some p =>
    let s := finishTransfer c p (s.setCore c k)
    if (s.core c).imprecise.isSome then takeImprecise c s else boundary c s
  | none =>
    let r := loopCheck k.pc [2, 1, 0] k
    let s := s.setCore c { r.1 with pc := r.2 }
    match k.imprecise with
    | some m => if 32 ≤ m.age then takeImprecise c s else boundary c s
    | none => boundary c s

/-- What the operation of a word did. -/
inductive OpRes where
  /-- The core changed. -/
  | core (k : Thrower)
  /-- The state changed (memory, a register of a block, or the free-value counter). -/
  | state (s : State)
  /-- A transfer with a delay slot. -/
  | transfer (k : Thrower) (kind : SlotKind)
  /-- The core changed and continues at an address of its own (a LOOP with count 0). -/
  | goto_ (k : Thrower) (next : Addr)
  /-- The destination is written and an imprecise arithmetic exception is raised. -/
  | arith (k : Thrower) (cause : BitVec 8)
  /-- A synchronous fault; nothing took effect. -/
  | trap (cause : BitVec 8) (info : BitVec 4) (addr : Addr)
  /-- WAIT. -/
  | wait
  /-- The stack check of a gate entry failed (R153). -/
  | gateDouble (info : BitVec 4) (tring : BitVec 2)
deriving DecidableEq, Repr

/-- Which rules of R118, R122 and R151 a word falls under. -/
inductive WordKind where
  | plain
  /-- A branch, jump, call or return. -/
  | branch
  /-- CALLG, RETG, ERET. -/
  | gate
  /-- LOOP, LOOPI, LCLR. -/
  | loop
  /-- MTS to a loop register. -/
  | mtsLoop
deriving DecidableEq, Repr

/-- An illegal-instruction fault by its place: R118 in a delay slot, R122 at the end of an armed loop. -/
def illegalPlace (k : Thrower) (w : WordKind) : Bool :=
  let transfers := decide (w = .branch) || decide (w = .gate) || decide (w = .loop)
  (k.slot.isSome && (transfers || decide (w = .mtsLoop))) ||
    ((transfers || k.slot.isSome) && [2, 1, 0].any (k.endsAt k.pc))

/-- Raises an imprecise arithmetic exception: the first is kept, a second one marks it (R151). -/
def Thrower.raiseImprecise (k : Thrower) (cause : BitVec 8) : Thrower :=
  { k with imprecise := some (match k.imprecise with
      | none => { cause, pc := k.pc, ring := k.ring, multi := false, age := 0 }
      | some m => { m with multi := true }) }

/-- A core issues one word whose operation is `body`. A core that is not running, halted or in WAIT issues
nothing (R129, R140, R156). The order of the checks is that of R151. -/
def issue (c : CoreId) (w : WordKind) (body : Thrower → State → OpRes) (s : State) : State :=
  let k := s.core c
  if !k.running || k.halted || k.waiting then s
  else if k.imprecise.isSome && decide (w = .gate) && k.slot.isNone then takeImprecise c s
  else match fetchFault c k k.ring k.pc with
  | some info => raise c causeNx info 0 s
  | none =>
    if k.pc.toNat % 4 ≠ 0 then raise c causeAlign 0 0 s
    else if illegalPlace k w then raise c causeIllegal 0 0 s
    else match body k s with
    | .core k' => completeWord c (s.setCore c k')
    | .state s' => completeWord c s'
    | .transfer k' kind =>
      s.setCore c { k'.tickWord with slot := some { from_ := k.pc, kind }, pc := k.pc + 4 }
    | .goto_ k' next => boundary c (s.setCore c { k'.tickWord with pc := next })
    | .arith k' cause => completeWord c (s.setCore c (k'.raiseImprecise cause))
    | .trap cause info addr => raise c cause info addr s
    | .wait => completeWord c (s.setCore c { k with waiting := true })
    | .gateDouble info tring => doubleFault c info 0x10 tring k.pc s

/-! ### The core reset (R101, R140) -/

/-- A map of `n` free values from the `from_`-th on. -/
def freeMap (w n from_ : Nat) : FMap (BitVec w) := (List.range n).map fun i => (i, BitVec.ofNat w (Config.freeNat (from_ + i)))

/-- The core after a core reset (R101, R140): st and the loop counts are 0, every other register is undefined (free
values from the `b`-th on), the core is unarmed and starts in ring 0 at its class address. What the supervisor and the
dispatcher know of the core stays. -/
def resetCore (c : CoreId) (b : Nat) (k : Thrower) : Thrower :=
  { running := true, pc := startAddress c
    g := (freeMap 32 32 b), p := freeMap 40 8 (b + 32), pm := freeMap 32 8 (b + 40), acc := freeMap 72 2 (b + 48)
    wacc := freeMap 288 2 (b + 50), ls := freeMap 32 3 (b + 52), le := freeMap 32 3 (b + 55)
    ltag := BitVec.ofNat 6 (Config.freeNat (b + 58)), sp := freeMap 32 4 (b + 59)
    vbase := (freeMap 32 2 (b + 63)).map fun e => (e.1, e.2 &&& 0xFFFFFF00)
    xcause := (freeMap 32 2 (b + 65)).map fun e => (e.1, e.2 &&& 0x00FF3FFF)
    xpc := freeMap 32 2 (b + 67), xaddr := freeMap 32 2 (b + 69), xaddrh := freeMap 32 2 (b + 71)
    xsave := freeMap 32 2 (b + 73), df := decide (Config.freeNat (b + 75) % 2 = 1)
    dfring := BitVec.ofNat 2 (Config.freeNat (b + 76)), gtbase := BitVec.ofNat 32 (Config.freeNat (b + 77)) &&& 0xFFFFFFF8
    gtlen := BitVec.ofNat 14 (Config.freeNat (b + 78)), erring := BitVec.ofNat 32 (Config.freeNat (b + 79))
    erkind := BitVec.ofNat 16 (Config.freeNat (b + 80)), erdepth := BitVec.ofNat 5 (Config.freeNat (b + 81) % 17)
    mpusel := BitVec.ofNat 6 (Config.freeNat (b + 82))
    mpu := (List.range 64).map fun i =>
      (i, { base := BitVec.ofNat 32 (Config.freeNat (b + 90 + 3 * i)), limit := BitVec.ofNat 32 (Config.freeNat (b + 91 + 3 * i))
            attr := BitVec.ofNat 4 (Config.freeNat (b + 92 + 3 * i)) })
    ipend := BitVec.ofNat 32 (Config.freeNat (b + 83)), imask := BitVec.ofNat 32 (Config.freeNat (b + 84))
    cyc := BitVec.ofNat 64 (Config.freeNat (b + 85)), cychi := BitVec.ofNat 32 (Config.freeNat (b + 86))
    restarts := k.restarts }

/-- Resets one core. -/
def coreReset (c : CoreId) (s : State) : State :=
  (s.used 300).setCore c (resetCore c s.freeCtr (s.core c))

end Sys2Proof.Machine
end

