-- ==== Sys2Proof/Machine/Events.lean ====
section
/-! DEFINITION. The event recorder's log, histograms and extremes (R33, R545-R548): what raising an event and taking
a sample do. -/

namespace Sys2Proof.Machine

/-- A vault-die event while the compute die is gated goes to the staging buffer (R546). -/
def State.gated (s : State) : Bool := decide (3 ≤ s.pwr.cone.toNat)

/-- A record of an event that happens now; slot and generation are given by the log. -/
def freshRecord (s : State) (source : Nat) (detail : BitVec 64) (flags : BitVec 16) : EvrRecord :=
  { seq := s.evr.next, slot := s.evr.wr % 512, gen := mapGet 0 s.evr.gens (s.evr.wr % 512), repeats := 0
    source := BitVec.ofNat 16 source, flags := flags ||| (if s.tal.timeSet then 0 else 2), detail
    first := s.pwr.aon.setWidth 64, last := s.pwr.aon.setWidth 64, hours := s.lcs.hours, cycles := s.lcs.cycles }

/-- A repeat merged into a record: its count, saturating, and its last timebase count (R546). -/
def mergeRepeat (r : EvrRecord) (more : Nat) (last : BitVec 64) : EvrRecord :=
  { r with repeats := BitVec.ofNat 16 (min 65535 (r.repeats.toNat + more)), last }

/-- Changes the last record of a list. -/
def changeLast (f : EvrRecord → EvrRecord) : List EvrRecord → List EvrRecord
  | [] => []
  | [r] => [f r]
  | r :: rest => r :: changeLast f rest

/-- Enters one event, already a record, into the log: a repeat of the newest record merges, any other takes the next
sequence number and slot, overwriting the oldest of 512 (R546). -/
def enterLog (v : Recorder) (r : EvrRecord) (count : Nat) : Recorder :=
  let slot := v.wr % 512
  match v.log.getLast? with
  | some n =>
    if n.source = r.source ∧ n.detail = r.detail then
      let g := mapGet 0 v.gens n.slot + 1
      { v with log := changeLast (fun x => { mergeRepeat x count r.last with gen := g }) v.log
               gens := mapSet 0 v.gens n.slot g }
    else if v.log.length = 512 then
      let g := mapGet 0 v.gens slot + 1
      { v with log := v.log.drop 1 ++ [{ r with seq := v.next, slot, gen := g }], next := v.next + 1, wr := v.wr + 1
               gens := mapSet 0 v.gens slot g }
    else
      { v with log := v.log ++ [{ r with seq := v.next, slot, gen := mapGet 0 v.gens slot }], next := v.next + 1
               wr := v.wr + 1 }
  | none =>
    { v with log := [{ r with seq := v.next, slot, gen := mapGet 0 v.gens slot }], next := v.next + 1, wr := v.wr + 1 }

/-- Enters one event into the staging buffer of the vault die: merged, taken, or counted as lost beyond 32 (R546). -/
def enterStaged (v : Recorder) (r : EvrRecord) : Recorder :=
  match v.staged.getLast? with
  | some n =>
    if n.source = r.source ∧ n.detail = r.detail then
      { v with staged := changeLast (fun x => mergeRepeat x 1 r.last) v.staged }
    else if 32 ≤ v.staged.length then { v with stagedLost := v.stagedLost + 1 }
    else { v with staged := v.staged ++ [{ r with flags := r.flags ||| 1 }] }
  | none => { v with staged := [{ r with flags := r.flags ||| 1 }] }

/-- Raises an event of a source (R32, R33): into the log, or staged while the compute die is gated. -/
def raiseEvent (source : Nat) (detail : BitVec 64) (s : State) : State :=
  if s.gated then { s with evr := enterStaged s.evr (freshRecord s source detail 0) }
  else { s with evr := enterLog s.evr (freshRecord s source detail 0) 1 }

/-- The staging buffer joins the log, in order; events lost beyond 32 are one record of source 316 (R546). -/
def joinStaged (s : State) : State :=
  let v := s.evr.staged.foldl (fun v r => enterLog v r (r.repeats.toNat + 1)) s.evr
  let s1 := { s with evr := { v with staged := [], stagedLost := 0 } }
  if s.evr.stagedLost = 0 then s1
  else { s1 with evr :=
    let w := enterLog s1.evr (freshRecord s1 316 (BitVec.ofNat 64 s.evr.stagedLost) 0) 1
    { w with lost := BitVec.ofNat 32 (min 0xFFFFFFFF (w.lost.toNat + s.evr.stagedLost)) } }

/-- The detail of an event: fields in order from byte 0, as (bytes, value) pairs (R99, R553). -/
def detailOf : List (Nat × Nat) → Nat
  | [] => 0
  | (n, v) :: rest => v % 2 ^ (8 * n) + 2 ^ (8 * n) * detailOf rest

/-- The detail of an event as the eight bytes of its record. -/
def detail (fields : List (Nat × Nat)) : BitVec 64 := BitVec.ofNat 64 (detailOf fields)

/-- An event whose detail no chapter defines: it is 0 (R545). -/
def raisePlain (source : Nat) (s : State) : State := raiseEvent source 0 s

/-! ### Histograms and extremes (R547, R548) -/

/-- The configuration of channels 0 to 15 (R547): metric, log2 mode, width, base. -/
def fixedChannel (c : Nat) : Histogram :=
  let mk (m : Nat) (l : Bool) (w b : Nat) : Histogram :=
    { metric := BitVec.ofNat 8 m, log2 := l, width := BitVec.ofNat 8 w, base := BitVec.ofNat 32 b }
  match c with
  | 0 => mk 1 false 0 0
  | 1 => mk 2 true 0 0
  | 2 => mk 3 true 0 0
  | 3 => mk 4 true 0 0
  | 4 => mk 5 true 0 0
  | 5 => mk 6 true 0 0
  | 6 | 7 | 8 | 9 | 10 => mk 7 true 0 0
  | 11 => mk 8 false 2 20
  | 12 => mk 9 false 3 680
  | 13 => mk 10 true 0 0
  | 14 => mk 11 true 0 0
  | 15 => mk 12 true 0 0
  | _ => {}

/-- A histogram channel as it stands. -/
def Recorder.channel (v : Recorder) (c : Nat) : Histogram :=
  let h := mapGet {} v.hist c
  if c < 16 then { fixedChannel c with gen := h.gen, bins := h.bins } else h

/-- The largest e with 2^e ≤ n, for 1 ≤ n < 2^33. -/
def log2Floor (n : Nat) : Nat := ((List.range 33).filter fun e => decide (2 ^ (e + 1) ≤ n)).length

/-- The bin a value falls in (R547); values and bases are signed, as R548 has the values of the same metrics (log entry
86). -/
def Histogram.bin (h : Histogram) (v : Int) : Nat :=
  let b := h.base.toInt
  if h.log2 then (if v ≤ b then 0 else min 31 (1 + log2Floor (v - b).toNat))
  else if v < b then 0 else min 31 ((v - b).toNat / 2 ^ h.width.toNat)

/-- Counts a value in a channel; a bin saturates. -/
def Histogram.count (h : Histogram) (v : Int) : Histogram :=
  let i := h.bin v
  { h with bins := mapSet 0 h.bins i (BitVec.ofNat 32 (min 0xFFFFFFFF ((mapGet 0 h.bins i).toNat + 1))) }

/-- The metric of an extreme pair: pairs 0 to 11 carry metrics 1 to 12 by default (R548). -/
def defaultMetric (p : Nat) : BitVec 8 := if p < 12 then BitVec.ofNat 8 (p + 1) else 0

/-- An extreme pair after a signed value at a time; an empty pair takes it as both. -/
def Extreme.take (x : Extreme) (v : Word) (now : BitVec 64) : Extreme :=
  if x.empty then { x with empty := false, min := v, max := v, minAt := now, maxAt := now }
  else
    let x := if v.slt x.min then { x with min := v, minAt := now } else x
    if x.max.slt v then { x with max := v, maxAt := now } else x

/-- The channels that count a metric; the residence channels 6 to 10 take their own cone's value only. -/
def channelTakes (v : Recorder) (metric : Nat) (cone : Nat) (c : Nat) : Bool :=
  decide (metric ≠ 0) && decide ((v.channel c).metric.toNat = metric) &&
    (if 6 ≤ c ∧ c ≤ 10 then decide (c = 6 + cone) else true)

/-- Takes one value of a metric into every channel and every extreme pair that carries it (R547, R548). -/
def sampleMetric (metric : Nat) (value : Word) (s : State) : State :=
  let hist := (List.range 128).foldl (fun h c =>
    if channelTakes s.evr metric s.pwr.cone.toNat c then mapSet {} h c ((s.evr.channel c).count value.toInt) else h)
    s.evr.hist
  let pairOf (p : Nat) : Extreme := mapGet { metric := defaultMetric p } s.evr.extremes p
  let ext := (List.range 64).foldl (fun e p =>
    if decide (metric ≠ 0) && decide ((pairOf p).metric.toNat = metric) then
      mapPut e p ((pairOf p).take value (s.pwr.aon.setWidth 64)) else e)
    s.evr.extremes
  { s with evr := { s.evr with hist, extremes := ext } }

end Sys2Proof.Machine
end

