-- ==== Sys2Proof/Machine/Crypto.lean ====
section
/-! DEFINITION. The algorithms of the part (R190, R235, R273, R594): their sizes, costs and time formulas, and the
functions of external standards, which stay uninterpreted (log entry 6). -/

namespace Sys2Proof.Machine

/-! ### Functions of external standards -/

/-- A hash of a lane algorithm over a message, at an output length. -/
def stdHash (alg len : Nat) (m : List Byte) : List Byte := padTo len (Config.standard 1 [leBytes 2 alg, leBytes 4 len, m])

/-- HKDF (extract and expand) of a KDF algorithm: salt, input keying material, info, output length. -/
def stdHkdf (alg len : Nat) (salt ikm info : List Byte) : List Byte :=
  padTo len (Config.standard 2 [leBytes 2 alg, leBytes 4 len, salt, ikm, info])

/-- HMAC-SHA-384. -/
def stdHmac384 (key m : List Byte) : List Byte := padTo 48 (Config.standard 3 [key, m])

/-- AES-256-GCM encryption: key, nonce, AAD, text; text and tag. -/
def stdGcmEnc (key nonce aad text : List Byte) : List Byte :=
  padTo (text.length + 16) (Config.standard 4 [key, nonce, aad, text])

/-- AES-256-GCM decryption of text and tag: the tag agrees; the text. -/
def stdGcmOk (key nonce aad ct : List Byte) : Bool := Config.standardBit 5 [key, nonce, aad, ct]
def stdGcmDec (key nonce aad ct : List Byte) : List Byte :=
  padTo (ct.length - 16) (Config.standard 6 [key, nonce, aad, ct])

/-- One chunk of a lane algorithm: key, nonce or data unit number, chaining state, text, first AAD; output text. -/
def stdChunk (alg : Nat) (dec : Bool) (key nonce chain aad text : List Byte) : List Byte :=
  padTo text.length (Config.standard 7 [leBytes 2 alg, [if dec then 1 else 0], key, nonce, chain, aad, text])

/-- The chaining state after a chunk, at the length R252 gives it. -/
def stdChain (alg len : Nat) (dec : Bool) (key nonce chain aad text : List Byte) : List Byte :=
  padTo len (Config.standard 8 [leBytes 2 alg, [if dec then 1 else 0], key, nonce, chain, aad, text])

/-- The tag, MAC or digest at LAST, at its length. -/
def stdFinal (alg len : Nat) (dec : Bool) (key nonce chain aad text : List Byte) : List Byte :=
  padTo len (Config.standard 9 [leBytes 2 alg, [if dec then 1 else 0], leBytes 4 len, key, nonce, chain, aad, text])

/-- The public key of a private key's material (R273). -/
def stdPublic (alg len : Nat) (material : List Byte) : List Byte := padTo len (Config.standard 10 [leBytes 2 alg, material])

/-- The material of a key pair made from randomness. -/
def stdKeyGen (alg bits len : Nat) (random : List Byte) : List Byte :=
  padTo len (Config.standard 11 [leBytes 2 alg, leBytes 2 bits, random])

/-- A signature: algorithm, hash, options, key, randomness, input. -/
def stdSign (alg len hash opt : Nat) (key random input : List Byte) : List Byte :=
  padTo len (Config.standard 12 [leBytes 2 alg, [BitVec.ofNat 8 hash], leBytes 2 opt, key, random, input])

/-- A signature verifies. -/
def stdVerify (alg hash opt : Nat) (pub sig input : List Byte) : Bool :=
  Config.standardBit 13 [leBytes 2 alg, [BitVec.ofNat 8 hash], leBytes 2 opt, pub, sig, input]

/-- An input that only the standard's arithmetic can refuse: a point or encoding that does not decode (R276). -/
def stdWellFormed (what alg : Nat) (inputs : List (List Byte)) : Bool :=
  Config.standardBit 14 ([BitVec.ofNat 8 what] :: leBytes 2 alg :: inputs)

/-- A shared secret. -/
def stdAgree (alg len : Nat) (priv peer : List Byte) : List Byte := padTo len (Config.standard 15 [leBytes 2 alg, priv, peer])
def stdEncaps (alg ctLen : Nat) (pub random : List Byte) : List Byte × List Byte :=
  (padTo ctLen (Config.standard 16 [leBytes 2 alg, pub, random]), padTo 32 (Config.standard 17 [leBytes 2 alg, pub, random]))
def stdDecaps (alg : Nat) (priv ct : List Byte) : List Byte := padTo 32 (Config.standard 18 [leBytes 2 alg, priv, ct])

/-- ASCII text as bytes. -/
def ascii (t : String) : List Byte := t.toList.map fun c => BitVec.ofNat 8 c.toNat

/-- The device serial (R2). -/
def serialBytes : List Byte := padTo 16 (Config.standard 100 [])

/-- The revision code (R2). -/
def revisionCode : Byte := if Config.revisionB1 then 0xB1 else 0xB0

/-- The attestation key: derived from the device root and reduced into the range of the curve (R565). -/
def attestKey : List Byte := padTo 48 (Config.standard 112 [stdHkdf 0x202 56 [] (Config.standard 101 []) (ascii "SXT4192 attest v1")])

/-- The Semixia patch key of the control ROM (R577). -/
def patchKey : List Byte := padTo 97 (Config.standard 104 [])

/-- The vault KEK of a seed, and the check value of it (R326); the device root is the part's own. -/
def vaultKek (seed : List Byte) : List Byte := stdHkdf 0x202 32 seed (Config.standard 101 []) (ascii "SXT4192 vault KEK v1")
def kekCheck (seed : List Byte) : List Byte := (stdHmac384 (vaultKek seed) (ascii "check")).take 16

/-! ### Fresh bytes -/

/-- The next free bytes. -/
def State.freeBytes (s : State) (n : Nat) : List Byte := leBytes n (Config.freeNat s.freeCtr)

/-! ### Lane algorithms (R235) -/

/-- One row of the table of R235. -/
structure LaneAlg where
  keyBytes : Nat
  b : Nat
  c : Nat
  s : Nat
  f : Nat
  /-- Default usage limit, 0 for none. -/
  limit : Nat
  /-- Length of the MAC or digest in full. -/
  out : Nat
  /-- Lane class of R369. -/
  cls : Nat
  /-- Length of the chaining part of the state area (R252) after its counters. -/
  chain : Nat
deriving DecidableEq, Repr

/-- The lane algorithms; AES-CMAC costs depend on the key length in bytes, HMAC keys have any length of their range. -/
def laneAlg (alg keyLen : Nat) : Option LaneAlg :=
  match alg with
  | 1 => some ⟨16, 16, 1, 3, 2, 2 ^ 32, 16, 0, 16⟩
  | 2 => some ⟨32, 16, 1, 3, 2, 2 ^ 32, 16, 0, 16⟩
  | 3 => some ⟨32, 16, 1, 7, 2, 2 ^ 48, 16, 1, 24⟩
  | 4 => some ⟨64, 16, 1, 4, 1, 0, 0, 2, 0⟩
  | 5 => some (if keyLen = 16 then ⟨16, 16, 10, 12, 10, 0, 16, 3, 32⟩ else ⟨32, 16, 14, 12, 14, 0, 16, 3, 32⟩)
  | 6 => some ⟨0, 64, 16, 16, 48, 0, 32, 4, 96⟩
  | 7 => some ⟨0, 128, 20, 20, 60, 0, 48, 5, 192⟩
  | 8 => some ⟨0, 64, 16, 0, 32, 0, 32, 6, 96⟩
  | 9 => some ⟨0, 128, 20, 0, 40, 0, 48, 6, 192⟩
  | 10 => some ⟨0, 128, 20, 0, 40, 0, 64, 6, 192⟩
  | 11 => some ⟨0, 136, 24, 0, 24, 0, 32, 7, 200⟩
  | 12 => some ⟨0, 136, 24, 0, 24, 0, 0, 7, 200⟩
  | _ => none

/-- Authenticated encryption: GCM and ChaCha20-Poly1305. -/
def isAead (alg : Nat) : Bool := decide (1 ≤ alg) && decide (alg ≤ 3)
def isMac (alg : Nat) : Bool := decide (5 ≤ alg) && decide (alg ≤ 7)
def isHash (alg : Nat) : Bool := decide (8 ≤ alg) && decide (alg ≤ 12)

/-- The lane class of a lane or KDF algorithm (R369). -/
def laneClass (alg : Nat) : Nat :=
  match alg with
  | 1 | 2 => 0 | 3 => 1 | 4 => 2 | 5 => 3 | 6 | 0x201 => 4 | 7 | 0x202 => 5 | 8 | 9 | 10 => 6 | _ => 7

/-! ### Key classes (R336, R341, R594) -/

/-- Classes of R341. -/
inductive KeyClass where
  | aes (n : Nat) | chacha | xts | hmac | kdf | ec (n : Nat) | x25519 | x448 | ed25519 | ed448 | rsa | mlkem (k : Nat)
  | mldsa (n : Nat)
deriving DecidableEq, Repr

/-- The class of an algorithm identifier at a key-bits value. -/
def keyClass (alg bits : Nat) : Option KeyClass :=
  match alg with
  | 1 => some (.aes 16) | 2 => some (.aes 32) | 3 => some .chacha | 4 => some .xts
  | 5 => some (.aes (bits / 8))
  | 6 | 7 => some .hmac
  | 0x101 => some (.ec 256) | 0x102 => some (.ec 384) | 0x103 => some (.ec 521)
  | 0x104 => some .x25519 | 0x105 => some .x448 | 0x106 => some .ed25519 | 0x107 => some .ed448
  | 0x110 => some .rsa
  | 0x120 => some (.mlkem 512) | 0x121 => some (.mlkem 768) | 0x122 => some (.mlkem 1024)
  | 0x128 => some (.mldsa 44) | 0x129 => some (.mldsa 65) | 0x12A => some (.mldsa 87)
  | 0x201 | 0x202 => some .kdf
  | _ => none

/-- The key-bits value KEY_GENERATE gives a key, if it accepts the request (R594). -/
def generateBits (alg req : Nat) : Option Nat :=
  let fixed (n : Nat) : Option Nat := if req = 0 ∨ req = n then some n else none
  let range (dflt : Nat) : Option Nat :=
    if req = 0 then some dflt else if req % 8 = 0 ∧ 128 ≤ req ∧ req ≤ 512 then some req else none
  match alg with
  | 1 => fixed 128 | 2 => fixed 256 | 3 => fixed 256 | 4 => fixed 512
  | 5 => if req = 0 then some 256 else if req = 128 ∨ req = 256 then some req else none
  | 6 | 0x201 => range 256
  | 7 | 0x202 => range 384
  | 0x101 => fixed 256 | 0x102 => fixed 384 | 0x103 => fixed 521
  | 0x104 => fixed 255 | 0x105 => fixed 448 | 0x106 => fixed 255 | 0x107 => fixed 448
  | 0x110 => if 1024 ≤ req ∧ req ≤ 8192 ∧ req % 128 = 0 then some req else none
  | 0x120 => fixed 512 | 0x121 => fixed 768 | 0x122 => fixed 1024
  | 0x128 => fixed 44 | 0x129 => fixed 65 | 0x12A => fixed 87
  | _ => none

/-- Stored material of a key in bytes (R336). -/
def materialLen (alg bits : Nat) : Nat :=
  match alg with
  | 0x103 => 66 | 0x104 | 0x106 => 32 | 0x105 => 56 | 0x107 => 57
  | 0x110 => bits / 8 * 7 / 2 + 4
  | 0x120 | 0x121 | 0x122 => 64
  | 0x128 | 0x129 | 0x12A => 32
  | _ => (bits + 7) / 8

/-- Material length of a wrapped blob (R346). -/
def blobLen (alg bits : Nat) : Nat := if alg = 0x110 then bits / 8 + 4 else materialLen alg bits

/-- The encoded length of a public key (R273, FIPS 203, FIPS 204). -/
def publicLen (alg bits : Nat) : Nat :=
  match alg with
  | 0x101 => 65 | 0x102 => 97 | 0x103 => 133 | 0x104 => 32 | 0x105 => 56 | 0x106 => 32 | 0x107 => 57
  | 0x110 => 4 + bits / 8
  | 0x120 => 800 | 0x121 => 1184 | 0x122 => 1568
  | 0x128 => 1312 | 0x129 => 1952 | 0x12A => 2592
  | _ => 0

/-- The length of a signature. -/
def signatureLen (alg bits : Nat) : Nat :=
  match alg with
  | 0x101 => 64 | 0x102 => 96 | 0x103 => 132 | 0x106 => 64 | 0x107 => 114
  | 0x110 => bits / 8
  | 0x128 => 2420 | 0x129 => 3309 | 0x12A => 4627
  | _ => 0

/-- The length of an agreed secret (R341), and of a ciphertext (FIPS 203). -/
def secretLen (alg : Nat) : Nat := match alg with | 0x102 => 48 | 0x103 => 66 | 0x105 => 56 | _ => 32
def ciphertextLen (alg : Nat) : Nat := match alg with | 0x120 => 768 | 0x121 => 1088 | _ => 1568

/-- Classes whose jobs run on lanes: they carry ENCRYPT, DECRYPT, MAC, DERIVE (R343). -/
def KeyClass.lane : KeyClass → Bool
  | .aes _ | .chacha | .xts | .hmac | .kdf => true
  | _ => false

/-- The policy bits a class permits beside EXPORT, RETAIN, LANES, CRUCIBLES, MODULES (R341). -/
def KeyClass.permits : KeyClass → BitVec 64
  | .aes 32 => 0x107
  | .aes _ | .chacha => 0x007
  | .xts => 0x003
  | .hmac => 0x084
  | .kdf => 0x080
  | .ec _ => 0x838
  | .x25519 | .x448 => 0x020
  | .ed25519 | .ed448 | .rsa | .mldsa _ => 0x818
  | .mlkem _ => 0x040

/-- Policy bits every class permits: EXPORT, RETAIN, LANES, CRUCIBLES, MODULES. -/
def policyCommon : BitVec 64 := 0x70600

/-- A key policy breaks neither the class rule, nor the engine rule, nor the reserved bits (R340, R341). -/
def policyOk (cls : KeyClass) (isPublic : Bool) (p : BitVec 64) : Bool :=
  let further := if isPublic then 0x010 else cls.permits
  decide (p &&& ~~~(further ||| policyCommon) = 0) &&
    (decide (p &&& 0x087 = 0) || p.getLsbD 16) && (decide (p &&& 0x878 = 0) || p.getLsbD 17)

/-- The reserved bits of a key policy are 0 (R340). -/
def policyBits (p : BitVec 64) : Bool := decide (p &&& ~~~0x71FFF = 0)

/-- The default usage limit of a class, 0 for none (R235). -/
def classDefault (alg : Nat) : Nat := match alg with | 1 | 2 => 2 ^ 32 | 3 => 2 ^ 48 | _ => 0

/-! ### Crucible operations (R273, R280) -/

/-- Operation types of R369. -/
def opSign : Nat := 0
def opVerify : Nat := 1
def opKeyPair : Nat := 2
def opAgree : Nat := 3
def opEncaps : Nat := 4
def opDecaps : Nat := 5

/-- The operand length of an algorithm in 64-bit words (R273); k of a lattice scheme. -/
def opWords (alg bits : Nat) : Nat :=
  match alg with
  | 0x101 | 0x104 | 0x106 => 4 | 0x102 => 6 | 0x103 => 9 | 0x105 | 0x107 => 7
  | 0x110 => bits / 64
  | 0x120 => 2 | 0x121 => 3 | 0x122 => 4
  | 0x128 => 4 | 0x129 => 6 | _ => 8

/-- l of ML-DSA (R273). -/
def mldsaL (k : Nat) : Nat := match k with | 4 => 4 | 6 => 5 | _ => 7

/-- The crucible time of an operation in cycles (R280): algorithm, type, w, attempts. -/
def opCycles (alg type w a : Nat) : Nat :=
  let n := 64 * w
  let fw := w * w + 2 * w + 5
  if alg = 0x101 ∨ alg = 0x102 ∨ alg = 0x103 then
    (if type = opSign then (12 * n + 180) * fw + 192
     else if type = opVerify then (14 * n + 200) * fw + 400
     else if type = opKeyPair then (10 * n + 40) * fw + 192
     else (11 * n + 40) * fw + 296)
  else if alg = 0x104 ∨ alg = 0x105 then (10 * n + 16) * fw + 296
  else if alg = 0x106 ∨ alg = 0x107 then
    (if type = opSign then (10 * n + 60) * fw + 600
     else if type = opVerify then (13 * n + 80) * fw + 600
     else (10 * n + 40) * fw + 600)
  else if alg = 0x110 then
    (let h := w / 2
     if type = opSign then 64 * h ^ 3 + 416 * h ^ 2 + 10860
     else if type = opVerify then 34 * w ^ 2 + 300 * w + 2000
     else (a + 12) * (32 * h ^ 3 + 200 * h ^ 2 + 3000) + 20000)
  else if alg / 8 = 0x24 then
    (if type = opKeyPair then 8000 * w ^ 2 + 8000 * w + 4000
     else if type = opEncaps then 8000 * w ^ 2 + 12000 * w + 12000
     else 8000 * w ^ 2 + 22000 * w + 13500)
  else
    (let l := mldsaL w
     if type = opKeyPair then 2500 * (w * l) + 6000 * w + 4000
     else if type = opSign then
       2500 * (w * l) + 4000 * (w + l) + 2000 + a * (1500 * (w * l) + 3600 * (w + l) + 3400)
     else 2000 * (w * l) + 5000 * (w + l) + 6000)

/-- Bytes an operation draws before it starts (R278, R313): key pairs, ECDSA, RSA and ML-DSA signing, encapsulation. -/
def opDraw (alg type hashLen : Nat) : Nat :=
  if type = opKeyPair then
    (match alg with
      | 0x101 => 48 | 0x102 => 64 | 0x103 => 82 | 0x104 | 0x106 => 32 | 0x105 => 56 | 0x107 => 57
      | 0x120 | 0x121 | 0x122 => 64 | 0x110 => 64 | _ => 32)
  else if type = opSign then
    (match alg with | 0x106 | 0x107 => 0 | 0x110 => hashLen + 32 | _ => 32)
  else if type = opEncaps then 32
  else 0

end Sys2Proof.Machine
end

