-- ==== Sys2Proof/Machine/Host.lean ====
section
/-! DEFINITION. Shared operations of the host interface: functions, MSI-X messages, global notifications, queue pairs,
completion entries (R163-R169, R210-R230). -/

namespace Sys2Proof.Machine

def State.fn (s : State) (f : Nat) : HostFn := mapGet {} s.hif.fns f
def State.setFn (s : State) (f : Nat) (x : HostFn) : State := { s with hif := { s.hif with fns := mapSet {} s.hif.fns f x } }
def State.qp (s : State) (q : Nat) : QueuePair := mapGet {} s.hif.qps q
def State.setQp (s : State) (q : Nat) (x : QueuePair) : State := { s with hif := { s.hif with qps := mapSet {} s.hif.qps q x } }
def State.box (s : State) (f : Nat) : Mailbox := (s.fn f).mailbox
def State.setBox (s : State) (f : Nat) (m : Mailbox) : State := s.setFn f { s.fn f with mailbox := m }

/-- A function exists: the physical one, and virtual ones while VF Enable is set. -/
def State.fnExists (s : State) (f : Nat) : Bool := decide (f = 0) || (s.hif.vfEnable && decide (f < 64))

/-- Something leaves the part. -/
def State.emit (s : State) (o : Out) : State := { s with out := o :: s.out }

/-- HIF_TOKENS.FREE (R210). -/
def State.tokensFree (s : State) : Nat := 65536 - s.hif.tokensOut

/-- Fetch had stopped for want of a token and one is free again: event 18 (R187). The detail beyond the free tokens is
that of R230. -/
def tokensAgain (s : State) : State :=
  if s.hif.exhausted && decide (0 < s.tokensFree) then
    raiseEvent 18 (detail [(4, 0), (4, s.tokensFree)]) { s with hif := { s.hif with exhausted := false } }
  else s

/-! ### Wake (R77, R80, R81, R592) -/

/-- The exit from the cone starts, or the entry under way turns back. In cone 4 the part asserts PCIE_WAKE_N where the
exit is its own (R592). -/
def startExit (own : Bool) (s : State) : State :=
  let p := s.pwr
  if p.moving then { s with pwr := { p with leaving := true } }
  else if p.cone = 0 then s
  else
    let ask := own && decide (p.cone = 4)
    { s with
      pwr := { p with moving := true, leaving := true, target := p.cone, wakeAsked := p.wakeAsked || ask }
      pins := { s.pins with pcieWake := s.pins.pcieWake || ask } }

/-! ### MSI-X (R227) -/

/-- A message of vector `v` of function `f`: sent, held by a mask with its pending bit and event 16, or not sent while
MSI-X Enable is 0. -/
def sendMsix (f v : Nat) (s : State) : State :=
  let x := s.fn f
  let e := mapGet {} x.msix v
  if !x.msixEnable then s
  else if e.masked then
    raiseEvent 16 (detail [(2, f), (2, 0), (4, v)]) (s.setFn f { x with pba := setBit x.pba v true })
  else s.emit (.msix f e.address e.data)

/-- A global notification to the physical function (R211). -/
def notifyGlobal (s : State) : State := if s.hif.gevecIe then sendMsix 0 s.hif.gevecVec.toNat s else s

/-! ### Health flags (R192, R211) -/

/-- Free spares. -/
def State.sparesFree (s : State) : Nat := 256 - s.flash.used

/-- The health flags of R192. -/
def healthFlags (s : State) : Nat :=
  let h := s.health
  let flags : List Bool :=
    [s.pwr.holdAbsent, !s.pwr.regulator, s.pwr.avsFault, decide (s.fabric.broken ≠ []), decide (s.msub.trained ≠ 0xFFFF),
      h.fallback, h.romAlone, h.retrained, s.pwr.scaled, decide (s.bk.lock ≠ 0), decide (2 ≤ s.ent.state.toNat), h.takeover,
      decide (s.pwr.throttle ≠ 0), decide (s.sparesFree < 16), h.telemetry, h.brokenSeal]
  flags.foldr (fun b n => (if b then 1 else 0) + 2 * n) 0

/-- A change of a health flag since a state is a global notification (R211). -/
def noteHealth (before s : State) : State := if healthFlags before = healthFlags s then s else notifyGlobal s

/-! ### Queue pairs -/

/-- The event of a queue group (R230). -/
def queueEvent (q : Nat) (s : State) : State :=
  let x := s.qp q
  raiseEvent (24 + q / 256)
    (detail [(2, x.owner.toNat), (2, q), (4, x.cause.toNat * 4096 + x.state.toNat * 256)]) s

/-- Puts an enabled queue pair in ERROR with a cause (R220, R226). -/
def queueError (q cause : Nat) (s : State) : State :=
  let x := s.qp q
  if x.state = 1 then
    let s := notifyGlobal (queueEvent q (s.setQp q { x with state := 3, cause := BitVec.ofNat 4 cause, reserved := 0 }))
    tokensAgain { s with hif := { s.hif with tokensOut := s.hif.tokensOut - x.reserved } }
  else s

/-- Ring size of a queue pair. -/
def QueuePair.ring (x : QueuePair) : Nat := 2 ^ x.size.toNat

/-- Completion entries written and not yet released. -/
def QueuePair.unread (x : QueuePair) : Nat := (x.cqTail.toNat + x.ring - x.cqHead.toNat) % x.ring

/-- Descriptors posted and not yet fetched (R220). -/
def QueuePair.posted (x : QueuePair) : Nat := (x.sqTail.toNat + x.ring - x.sqHead.toNat) % x.ring

/-- The 32 bytes of a completion entry: response header, submission head, phase (R218). -/
def completionEntry (x : QueuePair) (header : List Byte) : List Byte :=
  header ++ leBytes 2 x.sqHead.toNat ++ leBytes 2 (if x.phase then 1 else 0) ++ List.replicate 12 0

/-- Writes one completion entry; a write that fails puts the queue pair in ERROR with CAUSE 2 (R226). The message counts
under R227. -/
def writeCompletion (q : Nat) (header : List Byte) (s : State) : State :=
  let x := s.qp q
  let at_ := x.cqTail.toNat
  let last := decide (at_ + 1 = x.ring)
  let x' := { x with cqTail := if last then 0 else x.cqTail + 1, phase := if last then !x.phase else x.phase,
                     counted := if x.ie then x.counted + 1 else x.counted }
  let s := (s.setQp q x').emit (.dmaWrite x.owner.toNat (x.cqBase + BitVec.ofNat 64 (32 * at_)) (completionEntry x header))
  if x.ie && decide (x.count.toNat ≤ x.counted) then
    sendMsix x.owner.toNat x.vector.toNat (s.setQp q { x' with counted := 0 })
  else s

/-- Delivers the completion of a descriptor of queue pair `q`: nothing in ERROR or after it (R215, R220); held while a
draining queue pair's ring is full (R215). -/
def queueComplete (q : Nat) (header : List Byte) (s : State) : State :=
  let x := s.qp q
  if x.state = 1 ∨ (x.state = 2 ∧ !x.errored) then
    if x.unread + 1 < x.ring ∨ x.state = 1 then writeCompletion q header s
    else queueEvent q (s.setQp q { x with held := x.held ++ [header] })
  else s

/-! ### Tokens (R187, R222) -/

/-- A reservation is made, or given back. -/
def reserveToken (s : State) : State := { s with hif := { s.hif with tokensOut := s.hif.tokensOut + 1 } }
def releaseReservation (s : State) : State :=
  tokensAgain { s with hif := { s.hif with tokensOut := s.hif.tokensOut - 1 } }

/-- A reservation becomes a job's token (R222): it counts as issued from then on. -/
def issueReserved (s : State) : State := { s with hif := { s.hif with issuedSum := s.hif.issuedSum + 1 } }

/-- A job's token returns. -/
def returnToken (s : State) : State :=
  tokensAgain { s with hif := { s.hif with tokensOut := s.hif.tokensOut - 1, returnedSum := s.hif.returnedSum + 1 } }

end Sys2Proof.Machine
end

