-- ==== Sys2Proof/Machine/Tally.lean ====
section
/-! DEFINITION. Shared operations of the tally block: charges, spans, records, conservation, broken-seal pairs
(R362-R385, R595). -/

namespace Sys2Proof.Machine

/-! ### Saggars -/

def State.saggar (s : State) (i : Nat) : Saggar := mapGet {} s.vault.saggars i
def State.setSaggar (s : State) (i : Nat) (x : Saggar) : State :=
  { s with vault := { s.vault with saggars := mapSet {} s.vault.saggars i x } }

/-! ### Time (R362) -/

/-- UTC in ticks of 1/32,768 s. -/
def State.utcTicks (s : State) : Int := (s.pwr.aon.toNat : Int) + s.tal.offset

/-- Ticks of one minute. -/
def minuteTicks : Nat := 60 * 32768

/-- The minute index. -/
def State.minute (s : State) : BitVec 64 := BitVec.ofInt 64 (s.utcTicks / minuteTicks)

/-! ### Charges -/

/-- Adds two maps of counts. -/
def addMap (a b : FMap Int) : FMap Int := b.foldl (fun m e => mapMod 0 m e.1 (· + e.2)) a

/-- Negates every count. -/
def negMap (a : FMap Int) : FMap Int := a.map fun e => (e.1, -e.2)

def Charge.add (a b : Charge) : Charge :=
  { lane := addMap a.lane b.lane, ops := addMap a.ops b.ops, cycles := a.cycles + b.cycles
    rawCycles := a.rawCycles + b.rawCycles, handshakes := a.handshakes + b.handshakes
    recomputed := a.recomputed + b.recomputed, entropy := a.entropy + b.entropy, byteMs := a.byteMs + b.byteMs
    abandoned := a.abandoned + b.abandoned }

def Charge.neg (a : Charge) : Charge :=
  { lane := negMap a.lane, ops := negMap a.ops, cycles := -a.cycles, rawCycles := -a.rawCycles
    handshakes := -a.handshakes, recomputed := -a.recomputed, entropy := -a.entropy, byteMs := -a.byteMs
    abandoned := -a.abandoned }

def Charge.sub (a b : Charge) : Charge := a.add b.neg

/-- The resource fields alone (offsets 24 to 151). -/
def Charge.resources (a : Charge) : Charge := { a with recomputed := 0, abandoned := 0 }

/-- Charges a saggar in the open span (R372). -/
def chargeSaggar (h : Nat) (c : Charge) (s : State) : State :=
  { s with tal := { s.tal with saggars := mapMod {} s.tal.saggars h (·.add c) } }

/-- Counts overhead (R374). -/
def chargeOverhead (c : Charge) (s : State) : State := { s with tal := { s.tal with overhead := s.tal.overhead.add c } }

/-- Counts engine activity (R372). -/
def countEngine (c : Charge) (s : State) : State := { s with tal := { s.tal with engine := s.tal.engine.add c } }

/-- Activity of jobs not completed moves by an amount (R368, kind 2). -/
def countInflight (c : Charge) (s : State) : State := { s with tal := { s.tal with inflight := s.tal.inflight.add c } }

def laneCharge (cls bytes : Nat) : Charge := { lane := mapSet 0 [] cls (bytes : Int) }
def opCharge (type : Nat) : Charge := { ops := mapSet 0 [] type 1 }
def cycleCharge (n : Nat) : Charge := { cycles := n }
def entropyCharge (n : Nat) : Charge := { entropy := n }

/-- A draw of the part itself that reaches its consumer: overhead (R402). -/
def drawOverhead (n : Nat) (s : State) : State :=
  chargeOverhead (entropyCharge n) (countEngine (entropyCharge n)
    { s with ent := { s.ent with out := s.ent.out + BitVec.ofNat 64 n } })

/-- Adds the charge to a saggar, or to overhead where the work serves none. -/
def chargeTo (h : Option Nat) (c : Charge) (s : State) : State :=
  match h with | some h => chargeSaggar h c s | none => chargeOverhead c s

/-! ### Records -/

/-- The amounts a record reports, with the remainders it carries (R373). -/
def reported (c : Charge) (r : Int × Int × Int) : Charge × (Int × Int × Int) :=
  let cy := c.cycles + r.1
  let rw := c.rawCycles + r.2.1
  let bm := c.byteMs + r.2.2
  ({ c with cycles := cy / 1500, rawCycles := rw / 1500, byteMs := bm / 1000 }, (cy % 1500, rw % 1500, bm % 1000))

/-- The amounts of a bound rounded toward minus or plus infinity (R373). -/
def rounded (up : Bool) (c : Charge) : Charge :=
  let div (x : Int) (n : Nat) : Int := if up then -((-x) / n) else x / n
  { c with cycles := div c.cycles 1500, rawCycles := div c.rawCycles 1500, byteMs := div c.byteMs 1000 }

/-- Flags that hold of every record, whatever its span: timed on the scaled count, time not set (R362, R369). -/
def State.timeFlags (s : State) : BitVec 8 := (if s.pwr.scaled then 1 else 0) ||| (if s.tal.timeSet then 0 else 8)

/-- Flags of R369 that hold for every record of the open span. -/
def State.spanFlags (s : State) : BitVec 8 :=
  s.tal.flags ||| s.timeFlags ||| (if s.tal.target = 16 then 2 else 0)

/-- The attestation key can be derived: not in Shard, not in the invalid state (R565). -/
def State.attests (s : State) : Bool := decide (s.lcs.state.toNat ≤ 2)

/-- Issues one record with the next sequence number (R370). -/
def issueRecord (kind : Nat) (flags : BitVec 8) (saggar span : Nat) (first : BitVec 64) (c : Charge) (f132 f156 : Nat)
    (s : State) : State :=
  let r : TallyRecord :=
    { kind := BitVec.ofNat 8 kind, flags, saggar := BitVec.ofNat 16 saggar, span := BitVec.ofNat 16 (min span 65535)
      seq := s.tal.next, first, charge := c, field132 := BitVec.ofNat 32 f132, field156 := BitVec.ofNat 32 f156
      signed := s.attests }
  { s with tal := { s.tal with records := s.tal.records ++ [r], next := s.tal.next + 1 } }

/-- Issues a record whose cycles and byte-milliseconds carry remainders under key `k`. -/
def issueCarried (k kind : Nat) (flags : BitVec 8) (saggar span : Nat) (c : Charge) (f132 f156 : Nat) (s : State) : State :=
  let r := reported c (mapGet (0, 0, 0) s.tal.carried k)
  issueRecord kind flags saggar span s.tal.first r.1 f132 f156
    { s with tal := { s.tal with carried := mapSet (0, 0, 0) s.tal.carried k r.2 } }

/-- Issues a broken-seal pair (R377, R383, R595): lower record, upper record, event 323, health bit 15. -/
def issuePair (flags : BitVec 8) (span : Nat) (first : BitVec 64) (lo hi : Charge) (lost : Nat) (s : State) : State :=
  let lower := s.tal.next
  let s := issueRecord 5 flags 0xFFFF span first (rounded false lo) lost 0 s
  let s := issueRecord 6 flags 0xFFFF span first (rounded true hi) 0 0 s
  noteHealth s (raiseEvent 323 (detail [(4, lower.toNat), (4, lost)]) { s with health := { s.health with brokenSeal := true } })

/-! ### Backlog thresholds (R366) -/

/-- Free records of the backlog. -/
def State.backlogFree (s : State) : Nat := 1048576 - s.tal.records.length

/-- The instant rules of R366: grants are withheld below 8,208 free records and restored at 16,416. -/
def backlogHold (s : State) : State :=
  if !s.tal.hold && decide (s.backlogFree < 8208) then
    notifyGlobal (raiseEvent 19 (detail [(4, 0), (4, 0)]) { s with tal := { s.tal with hold := true } })
  else if s.tal.hold && decide (16416 ≤ s.backlogFree) then
    raiseEvent 19 (detail [(4, 0), (4, 1)]) { s with tal := { s.tal with hold := false } }
  else s

/-- The target length at a span close (R366). -/
def backlogTarget (s : State) : State :=
  if s.backlogFree < 131072 then { s with tal := { s.tal with target := 16 } }
  else if 262144 ≤ s.backlogFree then { s with tal := { s.tal with target := 1 } }
  else s

/-! ### Conservation (R376, R377) -/

/-- The identities of tokens, credits and sequence numbers. -/
def tokensBalance (s : State) : Bool :=
  decide (s.hif.issuedSum = mapCount (fun _ j => j.issued) s.jobs +
    s.vault.leases.foldl (fun n e => n + e.2.crucibles.length) 0 + s.hif.returnedSum)
def creditsBalance (s : State) : Bool :=
  s.hif.qps.all fun e => decide (e.2.issued = e.2.consumed + e.2.returned)
def numbersBalance (s : State) : Bool :=
  decide (s.tal.next.toNat = s.tal.base + s.tal.released + s.tal.records.length + s.tal.lostSum)

/-- The failure bits of field 132 of the seal. -/
def failureBits (d : Charge) (tokens credits numbers : Bool) : Nat :=
  (if d.lane = [] then 0 else 1) + (if d.ops = [] then 0 else 2) +
    (if d.cycles = 0 ∧ d.rawCycles = 0 then 0 else 4) + (if d.handshakes = 0 then 0 else 8) +
    (if d.entropy = 0 then 0 else 16) + (if d.byteMs = 0 then 0 else 32) + (if tokens then 0 else 256) +
    (if credits then 0 else 512) + (if numbers then 0 else 1024)

/-- The negative or the positive part of a discrepancy. -/
def Charge.part (keep : Int → Int) (d : Charge) : Charge :=
  { lane := mapAll 0 (fun _ v => keep v) d.lane, ops := mapAll 0 (fun _ v => keep v) d.ops, cycles := keep d.cycles
    rawCycles := keep d.rawCycles, handshakes := keep d.handshakes, entropy := keep d.entropy, byteMs := keep d.byteMs }

/-! ### Closing and opening a span (R363, R370) -/

/-- Opens a span at a minute index. -/
def openSpan (first : BitVec 64) (s : State) : State :=
  { s with tal := { s.tal with isOpen := true, first, flags := 0 } }

/-- The sum over saggars of the open span. -/
def State.saggarSum (s : State) : Charge := s.tal.saggars.foldl (fun c e => c.add e.2) {}

/-- The saggars that get a record at the close of the open span, ascending (R370). -/
def spanIds (s : State) : List Nat :=
  (List.range 4096).filter fun h =>
    decide (mapGet {} s.tal.saggars h ≠ {}) || (s.saggar h).created || (s.saggar h).ended

/-- The saggar records of the open span (R370). -/
def saggarRecords (flags : BitVec 8) (span : Nat) (s : State) : State :=
  (spanIds s).foldl (fun s h =>
    let c := mapGet {} s.tal.saggars h
    let g := s.saggar h
    issueCarried h 0 (flags ||| (if g.created then 16 else 0) ||| (if g.ended then 32 else 0)) h span c
      c.recomputed.toNat 0 s) s

/-- An overhead signature job of a record (R367): it waits for a crucible like any whole operation (R372). -/
def addSignJobs (n : Nat) (s : State) : State :=
  (List.range (if s.attests then n else 0)).foldl (fun s _ =>
    let id := s.jobIds
    { s with jobs := mapSet {} s.jobs id { overhead := true, alg := 0x102, type := opSign, w := 6, live := true }
             jobIds := id + 1, arr := { s.arr with queue := s.arr.queue ++ [id] } }) s

/-- A record of the backlog is lost with its line (R419). -/
def loseRecord (seq : BitVec 64) (s : State) : State :=
  let t := s.tal
  let at_ := t.records.findIdx fun r => decide (r.seq = seq)
  match t.records[at_]? with
  | none => s
  | some r =>
    let c := ((t.journal.flatMap (·.items)).find? fun e => decide (e.1 = seq.toNat)).elim ({} : Charge) (·.2)
    let lost : LostRecords := match t.lost with
      | some l => { l with count := l.count + 1, sum := l.sum.add c }
      | none => { count := 1, first := r.first, span := r.span, sum := c }
    { s with tal := { t with
        records := t.records.eraseIdx at_, lost := some lost, lostSum := t.lostSum + 1
        unreadable := if t.records.length - t.unreadable ≤ at_ then t.unreadable - 1 else t.unreadable } }

/-- The broken-seal pair that tells of lost records (R419). -/
def lostPair (s : State) : State :=
  match s.tal.lost with
  | none => s
  | some l =>
    issuePair s.timeFlags l.span.toNat l.first l.sum l.sum l.count { s with tal := { s.tal with lost := none } }

/-- Closes the open span after `span` minutes (R363, R370, R376): its records, the check, the journal, the thresholds. -/
def closeSpan (span : Nat) (s : State) : State :=
  if !s.tal.isOpen then s
  else
    let flags := s.spanFlags
    let start := s.tal.records.length
    let sum := s.saggarSum
    let delta := s.tal.inflight.sub s.tal.before
    let d := (s.tal.engine.sub ((sum.add s.tal.overhead).add delta)).resources
    let bits := failureBits d (tokensBalance s) (creditsBalance s) (numbersBalance s)
    let sealFlags := if bits = 0 then flags else flags ||| 128
    let first := s.tal.first
    let items := (spanIds s).zipIdx.map fun e => (s.tal.next.toNat + e.2, mapGet {} s.tal.saggars e.1)
    let s := saggarRecords flags span s
    let s := issueCarried 0x10001 1 flags 0xFFFF span s.tal.overhead 0 0 s
    let s := issueCarried 0x10002 2 flags 0xFFFF span s.tal.inflight 0 0 s
    let sealNo := s.tal.next
    let s := issueCarried 0x10003 3 sealFlags 0xFFFF span s.tal.engine bits (s.tal.records.length - start + 1) s
    let s := if bits = 0 then s else
      raiseEvent 322 (detail [(4, bits), (4, sealNo.toNat)]) { s with tal := { s.tal with checkFail := true } }
    let s := if bits % 64 = 0 then s else
      issuePair sealFlags span first (d.part (min 0)) (d.part (max 0)) 0 s
    let s := lostPair s
    let n := s.tal.records.length - start
    let s := addSignJobs n s
    let s := { s with
      tal := { s.tal with
        isOpen := false
        journal := s.tal.journal ++ [{ items, last := s.tal.next - 1, first, count := n }]
        before := s.tal.inflight, engine := {}, overhead := {}, saggars := [], closeTarget := s.tal.target
        checkMinute := first + BitVec.ofNat 64 (span - 1), checkBroken := decide (bits ≠ 0)
        unreadable := s.tal.unreadable + n }
      vault := { s.vault with saggars := mapAll {} (fun _ g =>
        if g.live then { g with created := false, ended := false } else {}) s.vault.saggars } }
    backlogHold (backlogTarget s)

/-- Whole minutes of the open span up to now, the one under way included (R364, R365). -/
def State.spanMinutes (s : State) : Nat := max 1 (s.minute.toNat - s.tal.first.toNat + 1)

/-- At the exit from cone 3 or 4 an idle record covers the whole minutes strictly between, and a span opens (R365). -/
def idleAndOpen (s : State) : State :=
  match s.tal.entryMinute with
  | none => s
  | some e =>
    let between := s.minute.toNat - e.toNat - 1
    let s := { s with tal := { s.tal with entryMinute := none } }
    let s := if between = 0 then s else backlogHold (issueRecord 4 s.timeFlags 0xFFFF between (e + 1) {} 0 0 s)
    openSpan s.minute s

/-! ### After a reset that keeps only what POR_N keeps (R383, R384) -/

/-- The bound over an open span whose sum was not committed (R384). -/
def spanBound (target : Nat) : Charge :=
  let t := 60 * target
  let classes := (List.range 8).map fun i => (i, ((256 * 1250000000 * t : Nat) : Int))
  let types := (List.range 6).map fun i => (i, ((160 * t * 100000 : Nat) : Int))
  { lane := classes, ops := types, cycles := ((160 * t * 1000000 * 1500 : Nat) : Int)
    rawCycles := ((160 * t * 1000000 * 1500 : Nat) : Int), handshakes := ((160 * t * 50000 : Nat) : Int)
    entropy := ((6250000000 * t : Nat) : Int), byteMs := (((48 * 2 ^ 20 + 8 * 2 ^ 30) * t * 1000 : Nat) : Int)
    recomputed := 65536, abandoned := 65536 }

/-- A number is not acknowledged under an acknowledgement state. -/
def notAcked (acked : Option (BitVec 64)) (n : Nat) : Bool :=
  match acked with | some a => decide (a.toNat < n) | none => true

/-- The broken-seal pair at start (R383): `wasOpen` a span was open when the reset came; the records that awaited
acknowledgement are lost. -/
def startPair (wasOpen : Bool) (s : State) : State :=
  let t := s.tal
  let acked := match t.commitPage with | some p => p.acked | none => t.ackJournal
  let spans := t.journal.filter fun j => notAcked acked j.last.toNat
  let closed := spans.foldl (fun c j => j.items.foldl (fun c e => if notAcked acked e.1 then c.add e.2 else c) c) ({} : Charge)
  let lost := t.next.toNat - (match acked with | some a => a.toNat + 1 | none => 0)
  let s := { s with tal := { t with
    records := [], acked, ackJournal := acked, ackDue := false, unreadable := 0, commitPage := none
    returned := match t.returned, acked with
      | some r, some a => some (if r.toNat < a.toNat then a else r)
      | r, a => if a.isSome then a else r
    base := t.next.toNat, released := 0, lost := none, lostSum := 0, target := 1, checkFail := false, isOpen := false, engine := {}, overhead := {}, saggars := []
    inflight := {}, before := {}, flags := 0 } }
  if lost = 0 ∧ !wasOpen then s
  else
    let first := match spans with | j :: _ => j.first | [] => t.first
    let mins := (t.resetMinute.getD s.minute).toNat - first.toNat + 1
    let excess := spans.foldl (fun c j => c.add j.excess) ({} : Charge)
    let items (c : Charge) : List (Nat × Charge) := if wasOpen then [(t.next.toNat, c)] else []
    let enter (c o : Charge) (s : State) : State :=
      if wasOpen then
        { s with tal := { s.tal with
            journal := s.tal.journal ++ [{ items := items c, last := t.next + 1, first := t.first, count := 2, excess := o }] } }
      else s
    match wasOpen, t.commitPage with
    | true, none =>
      let bound := spanBound t.closeTarget
      enter {} bound (issuePair (64 ||| s.timeFlags) mins first {} ((closed.add excess).add bound) lost s)
    | true, some p =>
      enter p.sum {} (issuePair s.timeFlags mins first (closed.add p.sum) ((closed.add p.sum).add excess) lost s)
    | false, _ => issuePair s.timeFlags mins first closed (closed.add excess) lost s

/-! ### Bytes of a record (R367) -/

/-- A signed or unsigned amount in `n` bytes. -/
def amountBytes (n : Nat) (v : Int) : List Byte := leBytes n (v % (256 ^ n : Nat)).toNat

/-- The first 160 bytes of a record. -/
def recordBody (r : TallyRecord) : List Byte :=
  let c := r.charge
  [1, 0] ++ leBytes 1 r.kind.toNat ++ leBytes 1 r.flags.toNat ++ leBytes 2 r.saggar.toNat ++ leBytes 2 r.span.toNat ++
    leBytes 8 r.seq.toNat ++ leBytes 8 r.first.toNat ++
    ((List.range 8).flatMap fun i => amountBytes 8 (mapGet 0 c.lane i)) ++
    ((List.range 6).flatMap fun j => amountBytes 4 (mapGet 0 c.ops j)) ++
    amountBytes 8 c.cycles ++ amountBytes 8 c.rawCycles ++ amountBytes 4 c.handshakes ++ leBytes 4 r.field132.toNat ++
    amountBytes 8 c.entropy ++ amountBytes 8 c.byteMs ++ amountBytes 4 c.abandoned ++ leBytes 4 r.field156.toNat

/-- The 256 bytes of a record; the signature is made with the attestation key over bytes 0 to 159, and is 96 zero bytes
where the key could not be derived (R565). -/
def recordBytes (r : TallyRecord) : List Byte :=
  recordBody r ++ (if r.signed then stdSign 0x102 96 1 0 attestKey [] (recordBody r) else List.replicate 96 0)

/-- Number of unacknowledged broken-seal records. -/
def State.brokenSeals (s : State) : Nat := (s.tal.records.filter fun r => r.kind = 5 || r.kind = 6).length

end Sys2Proof.Machine
end

