-- ==== Sys2Proof/Machine/Vault.lean ====
section
/-! DEFINITION. Shared operations of the key vault: handles, the hot store, shares, creating and destroying keys
(R325-R345, R352). -/

namespace Sys2Proof.Machine

/-! ### Handles (R333-R335) -/

/-- A handle of its four fields. -/
def mkHandle (type gen epoch index : Nat) : BitVec 64 :=
  BitVec.ofNat 64 (type * 2 ^ 56 + gen % 256 * 2 ^ 48 + epoch % 2 ^ 24 * 2 ^ 24 + index % 2 ^ 24)

def handleType (h : BitVec 64) : Nat := h.toNat / 2 ^ 56
def handleGen (h : BitVec 64) : Nat := h.toNat / 2 ^ 48 % 256
def handleEpoch (h : BitVec 64) : Nat := h.toNat / 2 ^ 24 % 2 ^ 24
def handleIndex (h : BitVec 64) : Nat := h.toNat % 2 ^ 24

/-- The index of a handle of a type whose epoch and generation are current. -/
def handleOk (type range : Nat) (gens : FMap Nat) (s : State) (h : BitVec 64) : Option Nat :=
  let i := handleIndex h
  if handleType h = type ∧ handleEpoch h = s.vault.epoch.toNat ∧ i < range ∧ mapGet 0 gens i = handleGen h then some i
  else none

/-- An index that no object holds and whose generations are not used up, counted from a start that the spec leaves open:
at most one more than the indexes in use or used up are tried. -/
def freeIndex (range fuel start : Nat) (taken : Nat → Bool) : Option Nat :=
  (firstFrom (fun j => !taken ((start + j) % range)) fuel 0).map fun j => (start + j) % range

def keyRange : Nat := 2 ^ 24
def sessionRange : Nat := 2 ^ 23
def shakeRange : Nat := 2 ^ 22

def State.key (s : State) (i : Nat) : Key := mapGet {} s.vault.keys i
def State.setKey (s : State) (i : Nat) (k : Key) : State := { s with vault := { s.vault with keys := mapSet {} s.vault.keys i k } }
def State.session (s : State) (i : Nat) : Session := mapGet {} s.vault.sessions i
def State.setSession (s : State) (i : Nat) (x : Session) : State :=
  { s with vault := { s.vault with sessions := mapSet {} s.vault.sessions i x } }
def State.shake (s : State) (i : Nat) : Handshake := mapGet {} s.vault.shakes i
def State.setShake (s : State) (i : Nat) (x : Handshake) : State :=
  { s with vault := { s.vault with shakes := mapSet {} s.vault.shakes i x } }

/-- The handles of objects as they stand. -/
def keyHandle (s : State) (i : Nat) : BitVec 64 := mkHandle 0x8A (mapGet 0 s.vault.keyGens i) s.vault.epoch.toNat i
def sessionHandle (s : State) (i : Nat) : BitVec 64 := mkHandle 0x8B (mapGet 0 s.vault.sesGens i) s.vault.epoch.toNat i
def shakeHandle (s : State) (i : Nat) : BitVec 64 := mkHandle 0x8C (mapGet 0 s.vault.hsGens i) s.vault.epoch.toNat i
def leaseHandle (s : State) (i : Nat) : BitVec 64 := mkHandle 0x8D (mapGet 0 s.vault.leaseGens i) s.vault.epoch.toNat i

/-- The ring a request comes from, for rings 2 and 3 (R342). -/
def rqModule (rq : Req) : Bool := match rq.route with | .ring _ r => decide (2 ≤ r.toNat) | _ => false

/-- The key a handle names for a request: of its saggar, live, and usable by the caller (R178, R335, R342). A key that is
being destroyed is absent, but for KEY_QUERY. -/
def findKey (rq : Req) (h : BitVec 64) (query : Bool) (s : State) : Option Nat :=
  match handleOk 0x8A keyRange s.vault.keyGens s h with
  | some i =>
    let k := s.key i
    if k.live ∧ k.saggar = rq.saggar.setWidth 12 ∧ (query || !k.destroying) ∧
        (!rqModule rq || k.policy.getLsbD 18) then some i else none
  | none => none

/-- The session a handle names. -/
def findSession (sag : BitVec 12) (h : BitVec 64) (s : State) : Option Nat :=
  match handleOk 0x8B sessionRange s.vault.sesGens s h with
  | some i => let x := s.session i; if x.live ∧ x.saggar = sag ∧ !x.destroying then some i else none
  | none => none

/-- The handshake a handle names. -/
def findShake (sag : BitVec 12) (h : BitVec 64) (s : State) : Option Nat :=
  match handleOk 0x8C shakeRange s.vault.hsGens s h with
  | some i => let x := s.shake i; if x.live ∧ x.saggar = sag ∧ !x.destroying then some i else none
  | none => none

/-- The key of a session still exists (R352). -/
def sessionKey (x : Session) (s : State) : Option Nat :=
  match handleOk 0x8A keyRange s.vault.keyGens s x.key with
  | some i => if (s.key i).live ∧ !(s.key i).destroying then some i else none
  | none => none

/-! ### Sizes and shares (R336-R338, R344) -/

/-- Hot-store slots of a key. -/
def Key.slots (k : Key) : Nat := (k.material.length + 63) / 64

/-- CONNECTION: a key of one connection's session, which only the handshake service makes (R316, R340). -/
def Key.traffic (k : Key) : Bool := k.policy.getLsbD 12

/-- Extents of a key and of its chain. -/
def Key.extents (k : Key) : Nat := (k.material.length - 64 + 1023) / 1024 + (k.chain.length + 1023) / 1024

def State.hotUsed (s : State) (p : Key → Bool) : Nat :=
  s.vault.keys.foldl (fun n e => if e.2.hot && p e.2 then n + e.2.slots else n) 0
def State.extentsUsed (s : State) : Nat := s.vault.keys.foldl (fun n e => if e.2.ephemeral then n else n + e.2.extents) 0

/-- Handshakes that BEGIN commands in progress begin, by their saggar: their index and entries are theirs already (R306). -/
def State.beginning (s : State) (p : Nat → Bool) : Nat :=
  mapCount (fun _ t => (decide (t.opcode = 0x0600) || decide (t.opcode = 0x0602)) && p t.rq.saggar.toNat) s.tasks

/-- Key-cache records a saggar holds, with the three entries of each of its handshakes (R306): the traffic keys of a
connection stand in two of them. -/
def State.recordsOf (s : State) (h : Nat) : Nat :=
  mapCount (fun _ k => k.live && decide (k.saggar.toNat = h) && k.conn.isNone && !k.ephemeral) s.vault.keys +
    3 * (mapCount (fun _ x => x.live && decide (x.saggar.toNat = h)) s.vault.shakes + s.beginning fun n => decide (n = h))
def State.recordsUsed (s : State) : Nat :=
  mapCount (fun _ k => k.live && k.conn.isNone && !k.ephemeral) s.vault.keys +
    3 * (mapCount (fun _ x => x.live) s.vault.shakes + s.beginning fun _ => true)

def Saggar.hotShare (g : Saggar) : Nat := g.policy.toNat / 2 ^ 48
def Saggar.kcShare (g : Saggar) : Nat := g.policy.toNat / 2 ^ 32 % 65536 * 256
def Saggar.limitLog (g : Saggar) : Nat := g.policy.toNat / 65536 % 256
def Saggar.hsLimitLog (g : Saggar) : Nat := g.policy.toNat / 256 % 256

/-- A saggar policy lies in its ranges (R344). -/
def saggarPolicyOk (p : BitVec 64) : Bool :=
  let cap (v : Nat) : Bool := decide (v = 0) || (decide (16 ≤ v) && decide (v ≤ 48))
  decide (p &&& 0x00000000FF0000C0 = 0) && cap (p.toNat / 65536 % 256) && cap (p.toNat / 256 % 256)

/-- Reservations of all saggars with HOT_RESERVED (R345). -/
def State.hotReserved (s : State) : Nat :=
  s.vault.saggars.foldl (fun n e => if e.2.live && e.2.policy.getLsbD 5 then n + e.2.hotShare else n) 0

/-- `n` more records and their extents fit (R336). -/
def cacheRoom (h n extents : Nat) (s : State) : Bool :=
  let share := (s.saggar h).kcShare
  (decide (share = 0) || decide (s.recordsOf h + n ≤ share)) && decide (s.recordsUsed + n ≤ keyRange) &&
    decide (s.extentsUsed + extents ≤ 1048576)

/-- Refusal of a key creation for want of room: event 251. -/
def refuseRoom (h : Nat) (s : State) : State := raiseEvent 251 (detail [(2, h)]) s

/-- The usage limit in force of a key that asks for one (R343, R344): none where the request is refused. -/
def usageLimit (g : Saggar) (alg bits : Nat) (req : BitVec 64) : Option (BitVec 64) :=
  match keyClass alg bits with
  | none => none
  | some c =>
    let d := classDefault alg
    let cap := if c.lane && decide (g.limitLog ≠ 0) then 2 ^ g.limitLog else 0
    if req = 0 then
      some (BitVec.ofNat 64 (if d = 0 then cap else if cap = 0 then d else min d cap))
    else if (d ≠ 0 ∧ d < req.toNat) ∨ (cap ≠ 0 ∧ cap < req.toNat) then none
    else some req

/-! ### The hot store (R337, R338) -/

/-- Slots of the hot store in use. -/
def State.hotBusy (s : State) : Nat := s.hotUsed fun _ => true

/-- A job in flight holds a key. -/
def keyHeld (s : State) (i : Nat) : Bool := s.jobs.any fun e => decide (e.2.key = some i)

/-- The least recently used freeable key that satisfies a test. -/
def lruKey (s : State) (p : Nat → Key → Bool) : Option Nat :=
  let c := s.vault.keys.filter fun e => e.2.hot && !e.2.ephemeral && !keyHeld s e.1 && p e.1 e.2
  match c with
  | [] => none
  | e :: rest => some (rest.foldl (fun b f => if f.2.used < b.2.used then f else b) e).1

/-- The key whose slots are freed for a saggar, in the order of R338. -/
def evictChoice (h : Nat) (s : State) : Option Nat :=
  let g := s.saggar h
  let own := s.hotUsed fun k => decide (k.saggar.toNat = h)
  let mine := if decide (g.hotShare ≠ 0) && decide (g.hotShare ≤ own) then
    lruKey s fun _ k => decide (k.saggar.toNat = h) else none
  match mine with
  | some i => some i
  | none => lruKey s fun _ k =>
      let o := s.saggar k.saggar.toNat
      !(o.policy.getLsbD 5 && decide ((s.hotUsed fun k' => decide (k'.saggar = k.saggar)) ≤ o.hotShare))

/-- Frees slots until `n` more fit, in at most `fuel` evictions. -/
def makeHotRoom (h n : Nat) : Nat → State → State
  | 0, s => s
  | fuel + 1, s =>
    let g := s.saggar h
    let own := s.hotUsed fun k => decide (k.saggar.toNat = h)
    let excess := decide (g.hotShare ≠ 0) && decide (g.hotShare < own + n)
    if s.hotBusy + n ≤ 65536 && !excess then s
    else match evictChoice h s with
      | some i => makeHotRoom h n fuel (s.setKey i { s.key i with hot := false })
      | none => s

/-- A key enters the hot store, if slots can be freed for it; a use moves it to the young end of the order. -/
def loadHot (i : Nat) (s : State) : State × Bool :=
  let k := s.key i
  let clock := s.vault.useClock + 1
  let touch (s : State) (k : Key) : State :=
    { s.setKey i { k with hot := true, used := clock } with vault := { (s.setKey i { k with hot := true, used := clock }).vault with useClock := clock } }
  if k.hot then (touch s k, true)
  else
    let h := k.saggar.toNat
    let s := makeHotRoom h k.slots (s.vault.keys.length + 1) s
    if s.hotBusy + k.slots ≤ 65536 then (touch s (s.key i), true) else (s, false)

/-! ### Creating and destroying keys -/

/-- A new key takes a free index and its hot slots; none where no index is free. -/
def createKey (k : Key) (s : State) : Option (Nat × State) :=
  let start := (s.free 24).toNat
  let s := s.used 1
  let taken (i : Nat) : Bool := (s.key i).live || decide (255 < mapGet 0 s.vault.keyGens i)
  match freeIndex keyRange (s.vault.keys.length + s.vault.keyGens.length + 1) start taken with
  | none => none
  | some i =>
    let s := s.setKey i { k with live := true, created := s.minute, retired := decide (k.limit ≠ 0) && decide (k.limit.toNat ≤ k.uses.toNat) }
    some (i, (loadHot i s).1)

/-- A key's slots in every lane are cleared. -/
def clearLaneKey (i : Nat) (s : State) : State :=
  { s with lanes := { s.lanes with lane := mapAll {} (fun _ l =>
      { l with slots := mapAll {} (fun _ k => if k.key = some i then {} else k) l.slots }) s.lanes.lane } }

/-- The sessions on a key keep the figures of its record, which SES_QUERY_USAGE goes on to report (R352). -/
def keepCounts (i : Nat) (s : State) : State :=
  let k := s.key i
  let h := keyHandle s i
  { s with vault := { s.vault with sessions := mapAll {} (fun _ x =>
      if x.live ∧ x.key = h then { x with keyUses := k.uses, keyLimit := k.limit, keyRetired := k.retired } else x) s.vault.sessions } }

/-- Zeroes a key everywhere and advances its generation (R352). -/
def destroyKey (i : Nat) (s : State) : State :=
  let s := clearLaneKey i (keepCounts i s)
  { s with vault := { s.vault with keys := mapDel s.vault.keys i, keyGens := mapMod 0 s.vault.keyGens i (· + 1) } }

/-- One more invocation of a key (R249): whether this one reached the limit and retired it. -/
def invokeKey (i : Nat) (s : State) : State × Bool :=
  let k := s.key i
  let uses := k.uses + 1
  let retire := decide (k.limit ≠ 0) && decide (k.limit.toNat ≤ uses.toNat) && !k.retired
  (s.setKey i { k with uses, retired := k.retired || retire }, retire)

end Sys2Proof.Machine
end

