-- ==== Sys2Proof/Machine/Flash.lean ====
section
/-! DEFINITION. Shared operations of the flash controller: the checks, programs and erases, wear and retirement, reads
(R430-R444). -/

namespace Sys2Proof.Machine

/-- Bytes of the array below the spare area. -/
def flashTop : Nat := 0x1F00000

/-- The first byte of the operator-defined area. -/
def operatorBase : Nat := 0x1040000

/-- The group a logical sector lies in, if any. -/
def sectorGroup (sec : Nat) (s : State) : Option Nat :=
  if sec < 4160 ∨ 7935 < sec then none
  else firstBelow 64 fun g =>
    let x : FlashGroup := mapGet {} s.flash.groups g
    decide (x.state ≠ 0) && decide (x.first.toNat ≤ sec - 4160) && decide (sec - 4160 < x.first.toNat + x.count.toNat)

/-- The sector lies in a group whose state is locked. -/
def groupLocked (sec : Nat) (s : State) : Bool :=
  match sectorGroup sec s with
  | some g => decide ((mapGet ({} : FlashGroup) s.flash.groups g).state = 2)
  | none => false

/-- FLC_WP of a sector. -/
def sectorWp (sec : Nat) (s : State) : Bool := (mapGet 0 s.flash.wp (sec / 32)).getLsbD (sec % 32)

/-- A program or an erase is in progress on a sector. -/
def sectorBusy (sec : Nat) (s : State) : Bool :=
  let on (o : Option FlashOp) : Bool := match o with | some x => decide (x.addr / 4096 = sec) | none => false
  on s.flash.prog || on s.flash.era

/-- Reads `n` bytes of the array: erase-pending and worn-pending sectors and the spare area read 0xFF (R431, R439, R440). -/
def flashRead (off n : Nat) (s : State) : List Byte :=
  (List.range n).map fun j =>
    let a := off + j
    if flashTop ≤ a ∨ s.flash.erasePending.contains (a / 4096) ∨ s.flash.wornPending.contains (a / 4096) then 0xFF
    else mapGet 0xFF s.flash.mem a

/-- The first check of R433 that fails, as FLC_STATUS.RESULT; checks 1 to 4 alone for an erase (R435). -/
def flashCheck (o : FlashOp) (s : State) : Option Nat :=
  let sec := o.addr / 4096
  if flashTop ≤ o.addr then some 6
  else if sectorBusy sec s ∨ s.flash.erasePending.contains sec then some 7
  else if sectorWp sec s then some 4
  else if groupLocked sec s then some 3
  else if o.erase then none
  else if s.flash.wornPending.contains sec then some 5
  else if (flashRead (o.addr / 256 * 256) 256 s).any (· ≠ 0xFF) then some 2
  else none

/-- The Depepa status of a RESULT (R433). -/
def flashStatus (r : Nat) : Nat :=
  match r with | 6 => 0x13 | 7 => 0x40 | 3 | 4 => 0x14 | 5 => 0x42 | 2 => 0x41 | _ => 0

/-- A refusal by a locked group or a write-protect bit raises event 279 (R446). -/
def flashRefused (r : Nat) (s : State) : State := if r = 3 ∨ r = 4 then raisePlain 279 s else s

/-- A queued operation may start: its kind is free, and no other operation or pending re-erase holds its sector (R433,
R435). -/
def flashReady (o : FlashOp) (s : State) : Bool :=
  (if o.erase then s.flash.era.isNone else s.flash.prog.isNone) && !sectorBusy (o.addr / 4096) s &&
    !s.flash.erasePending.contains (o.addr / 4096)

/-- The first queued operation of a kind that may start starts. -/
def flashNext (erase : Bool) (s : State) : State :=
  match s.flash.queue.find? fun o => o.erase == erase && flashReady o s with
  | some o =>
    let q := s.flash.queue.erase o
    if erase then { s with flash := { s.flash with era := some o, queue := q } }
    else { s with flash := { s.flash with prog := some o, queue := q } }
  | none => s

/-- Operations that wait start where they can, one of each kind at a time (R435). -/
def flashPump (s : State) : State := flashNext true (flashNext false s)

/-- An operation joins those that wait, and starts where it can. -/
def flashBegin (o : FlashOp) (s : State) : State :=
  flashPump { s with flash := { s.flash with queue := s.flash.queue ++ [o] } }

/-- The physical sector a logical one resolves to. -/
def physSector (sec : Nat) (s : State) : Nat := mapGet sec s.flash.remap sec

/-- Retires a sector to the lowest free spare (R437). -/
def retireSector (sec : Nat) (s : State) : State :=
  let f := s.flash
  let s := noteHealth s (raisePlain 276 { s with flash := { f with
    remap := mapPut f.remap sec (7936 + f.used), used := f.used + 1, retired := true } })
  if s.sparesFree < 16 then raisePlain 277 s else s

/-- Erased bytes of a sector. -/
def eraseSector (sec : Nat) (s : State) : State :=
  { s with flash := { s.flash with mem := memClear s.flash.mem (sec * 4096) (sec * 4096 + 4096) } }

/-- A program ends (R434): the state, and its RESULT. -/
def endProgram (o : FlashOp) (verifies : Bool) (s : State) : State × Nat :=
  let page := o.addr / 256 * 256
  let put (bs : List Byte) (s : State) : State := { s with flash := { s.flash with mem := memWrite 0xFF s.flash.mem page bs } }
  let done (r : Nat) (s : State) : State × Nat :=
    (flashPump { s with flash := { s.flash with prog := none, result := if o.byReg then BitVec.ofNat 4 r else s.flash.result } }, r)
  if verifies then done 0 (put (padTo 256 o.bytes) s)
  else
    let s := raisePlain 274 s
    if 0 < s.sparesFree then done 1 (put (padTo 256 o.bytes) (retireSector (o.addr / 4096) s))
    else done 5 (put (s.freeBytes 256) s |>.used 1)

/-- An erase ends after so many pulses (R437-R440): the state, and its RESULT. -/
def endErase (o : FlashOp) (pulses : Nat) (verifies : Bool) (s : State) : State × Nat :=
  let sec := o.addr / 4096
  let phys := physSector sec s
  let f := s.flash
  let s := { s with flash := { f with
    pulses := mapSet 0 f.pulses phys pulses, lastPulses := BitVec.ofNat 8 pulses
    counts := if verifies then mapMod 0 f.counts phys (· + 1) else f.counts } }
  let s := sampleMetric 1 (BitVec.ofNat 32 pulses) s
  let s := if 24 < pulses then raisePlain 275 { s with flash := { s.flash with warn := true } } else s
  let done (r : Nat) (s : State) : State × Nat :=
    (flashPump { s with flash := { s.flash with
      era := none, suspended := false, result := if o.byReg then BitVec.ofNat 4 r else s.flash.result } }, r)
  let clean (s : State) : State :=
    { eraseSector sec s with flash := { (eraseSector sec s).flash with
        wornPending := s.flash.wornPending.erase sec, erasePending := s.flash.erasePending.erase sec } }
  if verifies then
    let s := clean s
    if 48 < pulses ∨ 100000 ≤ mapGet 0 s.flash.counts phys then
      (if 0 < s.sparesFree then done 1 (retireSector sec s) else done 0 s)
    else done 0 s
  else
    let s := raisePlain 274 s
    if 0 < s.sparesFree then done 1 (retireSector sec (clean s))
    else done 5 { s with flash := { s.flash with
      wornPending := if s.flash.wornPending.contains sec then s.flash.wornPending else sec :: s.flash.wornPending
      erasePending := s.flash.erasePending.erase sec } }

/-! ### The saggar log (R329-R332) -/

/-- The address of the next page of the log: the area is a ring of 16,384 pages. -/
def logAddr (s : State) : Nat := 0x900000 + s.flash.logHead % 16384 * 256

/-- The 256 bytes of a log record under its KEK (R326, R329). -/
def logBytes (r : LogRecord) : List Byte :=
  let kek := vaultKek r.seed
  let body : List Byte :=
    if r.type = 1 then leBytes 2 r.owner.toNat ++ leBytes 2 r.weight.toNat ++ leBytes 4 r.quota.toNat
    else if r.type = 2 then leBytes 2 r.weight.toNat ++ leBytes 2 0 ++ leBytes 4 r.quota.toNat
    else leBytes 8 0
  let head := leBytes 1 r.type.toNat ++ [0] ++ leBytes 2 r.saggar.toNat ++ leBytes 4 0 ++ leBytes 8 r.seq ++
    leBytes 8 r.minute.toNat ++ body ++ (if r.type = 3 then leBytes 16 0 else leBytes 8 r.policy.toNat ++ leBytes 8 0)
  let text := if r.type = 1 then padTo 32 r.root else []
  let aad := head ++ (if r.type = 1 then [] else leBytes 32 0) ++ leBytes 144 0 ++ padTo 12 r.nonce ++ leBytes 4 0
  let ct := stdGcmEnc kek r.nonce aad text
  head ++ (if r.type = 1 then ct.take 32 else leBytes 32 0) ++ leBytes 144 0 ++ padTo 12 r.nonce ++ leBytes 4 0 ++
    ct.drop text.length

/-- A program of the next page of the log; the page is taken at once. -/
def logOp (task : Option Nat) (s : State) : FlashOp × State :=
  ({ addr := logAddr s, task, log := true }, { s with flash := { s.flash with logHead := s.flash.logHead + 1 } })

/-- Appends a record to the log (R330): its sequence number is above every other. -/
def appendLog (mk : Nat → LogRecord) (s : State) : State :=
  let n := s.vault.log.foldl (fun m r => max m (r.seq + 1)) 1
  let r := mk n
  let erased := 1024 - (s.vault.log.length + 1 + 15) / 16
  let v := { s.vault with log := s.vault.log ++ [r], logErased := erased }
  let s := { s with vault := v }
  if erased < 2 then raiseEvent 250 (detail [(2, erased)]) s else s

/-- A record that the vault writes on its own account: its nonce is drawn as overhead (R329), its page is programmed behind
what waits, and the record joins the log. -/
def writeLog (mk : Nat → LogRecord) (s : State) : State :=
  let l := logOp none ((drawOverhead 12 s).used 1)
  appendLog (fun n => { mk n with nonce := s.freeBytes 12 }) (flashBegin l.1 l.2)

end Sys2Proof.Machine
end

