-- ==== Sys2Proof/Machine/Jobs.lean ====
section
/-! DEFINITION. Draws of randomness (R397-R402) and jobs with their tokens (R187, R222-R224, R231-R233, R282):
how the work of a command in progress starts. -/

namespace Sys2Proof.Machine

/-! ### Smooth weighted round robin (R224) -/

/-- One choice among eligible numbers with weights, ascending: the number picked and the new current values. -/
def wrrPick (eligible : List (Nat × Nat)) (current : FMap Int) : Option (Nat × FMap Int) :=
  let raised := eligible.map fun e => (e.1, mapGet 0 current e.1 + (e.2 : Int))
  let total : Nat := eligible.foldl (fun n e => n + e.2) 0
  match raised with
  | [] => none
  | e :: rest =>
    let best := rest.foldl (fun b f => if b.2 < f.2 then f else b) e
    some (best.1, raised.foldl (fun m f =>
      mapSet 0 m f.1 (if f.1 = best.1 then f.2 - (total : Int) else f.2)) [])

/-! ### Draws -/

/-- What a command that needs randomness completes with at once (R399): PENDING before the start-up test has passed,
ENTROPY_WITHHELD in state 3. -/
def drawStatus (s : State) : Option Nat :=
  if s.ent.state = 3 then some 0x30
  else if (s.ent.state = 0 ∨ s.ent.state = 2) ∧ !s.ent.tested then some 0x01
  else none

/-- The first parked request that an instance may serve (R400), with the current values after a host choice. -/
def chooseDraw (s : State) : Option (DrawReq × FMap Int) :=
  match s.ent.parked.find? (·.internal) with
  | some r => some (r, s.ent.current)
  | none =>
    let sags := (List.range 4096).filter fun h => s.ent.parked.any fun r => decide (r.saggar = some (BitVec.ofNat 12 h))
    match wrrPick (sags.map fun h => (h, (s.saggar h).weight.toNat)) s.ent.current with
    | none => none
    | some (h, cur) =>
      (s.ent.parked.find? fun r => decide (r.saggar = some (BitVec.ofNat 12 h))).map fun r => (r, cur)

/-- The lowest instance that is instantiated and idle, while an engine is free (R397, R400). -/
def idleInstance (s : State) : Option Nat :=
  if 4 ≤ s.ent.gen.length then none
  else firstBelow s.ent.inst fun i => !(s.ent.gen.any fun e => decide (e.1 = i))

/-- Starts one parked request, if an instance and an engine are free (R400). An instance at its request count reseeds
first with a block of the pool, and waits where there is none (R398). -/
def startDraw (s : State) : State :=
  match idleInstance s, chooseDraw s with
  | some i, some (r, cur) =>
    let e := s.ent
    let due := decide (2 ^ 20 ≤ mapGet 0 e.counter i)
    if due && decide (e.pool = 0) then raisePlain 273 s
    else
      let e := if due then { e with pool := e.pool - 1, counter := mapSet 0 e.counter i 0, addDue := setBit e.addDue i false } else e
      countInflight (entropyCharge r.bytes) (countEngine (entropyCharge r.bytes)
        { s with ent := { e with parked := e.parked.erase r, current := cur, gen := mapPut e.gen i r
                                 counter := mapMod 0 e.counter i (· + 1), out := e.out + BitVec.ofNat 64 r.bytes } })
  | _, _ => s

/-- A request arrives: it parks, and starts where it can (R399, R400). -/
def requestDraw (r : DrawReq) (s : State) : State :=
  startDraw { s with ent := { s.ent with parked := s.ent.parked ++ [r] } }

/-! ### Jobs and tokens -/

def State.job (s : State) (id : Nat) : Job := mapGet {} s.jobs id
def State.setJob (s : State) (id : Nat) (j : Job) : State := { s with jobs := mapSet {} s.jobs id j }
def State.task (s : State) (id : Nat) : Task := mapGet {} s.tasks id
def State.setTask (s : State) (id : Nat) (t : Task) : State := { s with tasks := mapSet {} s.tasks id t }

/-- A job with its token joins the jobs that wait for a unit of its class, a rerun ahead of every first execution (R21,
R282). -/
def queueJob (id : Nat) (s : State) : State :=
  let j := s.job id
  let add (q : List Nat) : List Nat := if j.rerun then id :: q else q ++ [id]
  if j.onLane then { s with lanes := { s.lanes with queue := add s.lanes.queue } }
  else { s with arr := { s.arr with queue := add s.arr.queue } }

/-- A job without a token takes a free one, or waits for a grant (R187, R366). -/
def seekToken (id : Nat) (s : State) : State :=
  if !s.tal.hold && decide (0 < s.tokensFree) then
    queueJob id (reserveToken (s.setJob id { s.job id with token := true }))
  else { s with tokenWait := s.tokenWait ++ [id] }

/-- A job of a command is made: it takes over the reservation of the descriptor, or seeks a token; its key is loaded
(R222, R337). -/
def createJob (j : Job) (tid : Nat) (s : State) : State :=
  let id := s.jobIds
  let t := s.task tid
  let hot := match j.key with | some k => (s.key k).hot | none => true
  let s := match j.key with | some k => if hot then (loadHot k s).1 else s | none => s
  let j := { j with task := some tid, live := true, token := t.reserved, keyWait := !hot }
  let s := { s with jobs := mapSet {} s.jobs id j, jobIds := id + 1 }
  let s := s.setTask tid { t with job := some id, reserved := false }
  if t.reserved then queueJob id s
  else if j.overhead then queueJob id s
  else seekToken id s

/-- The saggar that a job of a request runs for (R15): the one bound to the queue pair, else the one of the header. -/
def jobSaggar (rq : Req) (s : State) : BitVec 12 :=
  match rq.route with
  | .queue q _ => (s.qp q.toNat).bound.getD (rq.saggar.setWidth 12)
  | _ => rq.saggar.setWidth 12

/-- A queue pair has a descriptor to fetch and a credit for it, beyond those that a reservation stands for (R222). -/
def qpWants (x : QueuePair) : Bool :=
  decide (x.state = 1) && x.bound.isSome && decide (x.reserved < x.posted) && decide (x.reserved < x.returned.toNat)

/-- A command in progress waits for the tokens of a lease. -/
def wantsLease (t : Task) : Bool := match t.work with | .lease _ :: _ => true | _ => false

/-- A saggar is eligible for a token (R224). -/
def eligibleSaggar (s : State) (h : Nat) : Bool :=
  (s.hif.qps.any fun e => qpWants e.2 && decide (e.2.bound = some (BitVec.ofNat 12 h))) ||
    (s.tokenWait.any fun id => decide ((s.job id).saggar.toNat = h)) ||
    (s.tasks.any fun e => wantsLease e.2 && decide ((jobSaggar e.2.rq s).toNat = h))

/-- A saggar that stops being eligible starts from 0 again (R224). -/
def settleCurrent (s : State) : State :=
  { s with hif := { s.hif with current := s.hif.current.filter fun e => eligibleSaggar s e.1 } }

/-- The front work of a command in progress starts. Work that waits for an event outside draws and jobs starts nothing
here. -/
def startWork (id : Nat) (s : State) : State :=
  let t := s.task id
  match t.work with
  | .draw n :: _ =>
    if n = 0 then s
    else requestDraw { task := some id, internal := decide (t.opcode ≠ 0x0800), bytes := n
                       saggar := if t.rq.saggar = 0xFFFF then none else some (jobSaggar t.rq s) } s
  | .hash alg bytes key :: _ => createJob { saggar := jobSaggar t.rq s, onLane := true, alg, bytes, key } id s
  | .op alg type w key overhead :: _ => createJob { saggar := jobSaggar t.rq s, alg, type, w, key, overhead } id s
  | .lane :: _ =>
    match t.desc with
    | some d =>
      let x := mapGet {} s.vault.sessions (handleIndex d.session)
      createJob { saggar := jobSaggar t.rq s, onLane := true, alg := x.alg, session := some (handleIndex d.session)
                  bytes := d.aadLen.toNat + d.length.toNat, key := if x.key = 0 then none else some (handleIndex x.key) } id s
    | none => s
  | .program addr bytes :: _ => flashBegin { addr, bytes, task := some id } s
  | .erase sector :: _ => flashBegin { erase := true, addr := sector * 4096, task := some id } s
  | .logPage :: _ =>
    let r := logOp (some id) s
    flashBegin r.1 r.2
  | .cone :: _ => startExit true s
  | _ => s

/-- Randomness of a draw of 0 bytes is at hand: such work is left out. -/
def dropNoDraw : List Work → List Work
  | .draw 0 :: rest => dropNoDraw rest
  | w => w

end Sys2Proof.Machine
end

