-- ==== Sys2Proof/Machine/Depepa.lean ====
section
/-! DEFINITION. The Depepa command interface (R162-R188): how a request is taken up on its route, the checks of R179 that
every command shares, and how its response is delivered. -/

namespace Sys2Proof

open Machine in
/-- The little-endian payload field of `n` bytes at an offset (R175). -/
def Req.field (rq : Req) (off n : Nat) : Nat := leField rq.payload off n

open Machine in
/-- Payload bytes from an offset. -/
def Req.bytes (rq : Req) (off n : Nat) : List Byte := sliceBytes rq.payload off n

/-- Reserved payload bytes are 0. -/
def Req.rsvd (rq : Req) (off n : Nat) : Bool := decide (rq.field off n = 0)

/-- The response limit of the route (R174). -/
def Req.limit (rq : Req) : Nat :=
  match rq.route with
  | .mailbox _ => 2032
  | _ => 65520

end Sys2Proof

namespace Sys2Proof.Machine

/-! ### Status codes (R180) -/

def stOk : Nat := 0x0000
def stPending : Nat := 0x0001
def stBadOpcode : Nat := 0x0010
def stBadLength : Nat := 0x0011
def stBadHandle : Nat := 0x0012
def stNotPermitted : Nat := 0x0013
def stLocked : Nat := 0x0014
def stReject : Nat := 0x0020
def stAuthFail : Nat := 0x0021
def stLimit : Nat := 0x0022
def stKeyRetired : Nat := 0x0023
def stEntropyWithheld : Nat := 0x0030
def stBusy : Nat := 0x0040
def stNotBlank : Nat := 0x0041
def stWorn : Nat := 0x0042
def stCardRemoved : Nat := 0x0043
def stRecomputed : Nat := 0x0050
def stTamperLocked : Nat := 0x0060
def stBrokenSeal : Nat := 0x0070
def stInternal : Nat := 0xFFFF

/-! ### The catalogue row of a command (R189) -/

/-- Scope of a command (R172). -/
inductive Scope where
  | device | saggar | either
deriving DecidableEq, Repr

/-- One row of the catalogue: what R179 needs to know of a command. -/
structure CmdSpec where
  opcode : Nat
  mailbox : Bool := true
  queue  : Bool := false
  scope  : Scope := .device
  /-- Permitted callers (R177): physical function, owner, any function, sideband, and rings as bits 1 to 3. -/
  phys   : Bool := false
  owner  : Bool := false
  any    : Bool := false
  side   : Bool := false
  rings  : BitVec 4 := 0
  /-- Command-specific flag bits that the command defines (R171). -/
  flagMask : BitVec 16 := 0
  /-- Payload lengths the layout permits (R174). -/
  lengthOk : Nat → Bool
  /-- The command is refused while the vault is locked (R182). -/
  lockRefused : Req → Bool := fun _ => false
  /-- Exempt from check 3 of R179. -/
  exempt : Bool := false

/-- The host function a request comes from. -/
def reqFn (rq : Req) (s : State) : Option Nat :=
  match rq.route with
  | .mailbox f => some f.toNat
  | .queue q _ => some (s.qp q.toNat).owner.toNat
  | _ => none

/-- Check 1: the route carries the command, flags and the reserved header field are as R171 requires. -/
def headerOk (c : CmdSpec) (rq : Req) : Bool :=
  (match rq.route with
    | .mailbox _ => c.mailbox
    | .queue _ _ => c.queue
    | .sideband _ _ => c.side
    | .ring _ _ => decide (c.rings ≠ 0)) &&
  decide (rq.flags &&& ~~~(c.flagMask ||| 1) = 0) && decide (rq.reserved = 0)

/-- The life-cycle state decodes as valid, and the dies are paired (R28, R179 check 3). -/
def State.lifeValid (s : State) : Bool := decide (s.lcs.state.toNat ≤ 3) && !s.fabric.unpaired

/-- What the life-cycle state refuses (R471). -/
def lifeRefuses (c : CmdSpec) (s : State) : Bool :=
  let blank := decide (s.lcs.state = 0) || decide (s.lcs.state = 3)
  (blank && (decide (c.opcode = 0x0200) || decide (c.scope = .saggar))) ||
    (decide (s.lcs.state = 3) && (decide (c.opcode = 0x0901) || decide (c.opcode = 0x0902) || decide (c.opcode = 0x0903) ||
      decide (c.opcode / 256 = 0x0F))) ||
    (decide (s.lcs.state = 0) && (decide (c.opcode = 0x0A02) || decide (c.opcode = 0x0A03)))

/-- With fewer than nine channels trained only commands of device scope run (R421). -/
def memoryRefuses (c : CmdSpec) (rq : Req) (s : State) : Bool :=
  s.msub.degraded && (decide (c.scope = .saggar) || (decide (c.scope = .either) && decide (rq.saggar ≠ 0xFFFF)))

/-- Check 4: the caller's class (R177). -/
def callerOk (c : CmdSpec) (rq : Req) (s : State) : Bool :=
  match rq.route with
  | .sideband _ _ => c.side
  | .ring _ r => c.rings.getLsbD r.toNat
  | _ =>
    match reqFn rq s with
    | some f => c.any || c.owner || (c.phys && decide (f = 0))
    | none => false

/-- A saggar exists and is not being destroyed. -/
def State.saggarLive (s : State) (i : Nat) : Bool :=
  decide (i < 4096) && (s.saggar i).live && !(s.saggar i).destroying

/-- The caller may name the saggar (R172, R177, R178). -/
def saggarOk (c : CmdSpec) (rq : Req) (s : State) : Bool :=
  s.saggarLive rq.saggar.toNat &&
    (match rq.route with
      | .ring core r => if r = 3 then decide ((s.core core).serving = some (rq.saggar.setWidth 12)) else true
      | _ =>
        match reqFn rq s with
        | some f => (c.phys && decide (f = 0)) || c.any || decide ((s.saggar rq.saggar.toNat).owner.toNat = f)
        | none => true)

/-- Check 5: the saggar id. -/
def scopeOk (c : CmdSpec) (rq : Req) (s : State) : Bool :=
  match c.scope with
  | .device => decide (rq.saggar = 0xFFFF)
  | .saggar => saggarOk c rq s
  | .either => decide (rq.saggar = 0xFFFF) || saggarOk c rq s

/-- Checks 1 to 6 of R179 in order: the status of the first that fails. -/
def preCheck (c : CmdSpec) (rq : Req) (s : State) : Option Nat :=
  if !headerOk c rq then some stBadOpcode
  else if !(decide (rq.length.toNat ≤ rq.limit) && c.lengthOk rq.length.toNat) then some stBadLength
  else if !s.lifeValid && !c.exempt then some stLocked
  else if !callerOk c rq s || lifeRefuses c s || memoryRefuses c rq s then some stNotPermitted
  else if !scopeOk c rq s then some stBadHandle
  else if decide (s.bk.lock ≠ 0) && c.lockRefused rq then some stTamperLocked
  else none

/-! ### Taking a request up -/

/-- The bytes of a request as the request area holds them (R170). -/
def requestBytes (opcode : Nat) (rq : Req) : List Byte :=
  leBytes 2 opcode ++ leBytes 2 rq.flags.toNat ++ leBytes 4 rq.tag.toNat ++ leBytes 4 rq.length.toNat ++
    leBytes 2 rq.saggar.toNat ++ leBytes 2 rq.reserved.toNat ++ rq.payload

/-- The part takes commands: the mailbox is ready, no commit runs (R57), and the control pair is powered (R78). -/
def State.accepting (s : State) : Bool := s.pwr.up && s.pwr.commit.isNone && decide (s.pwr.cone.toNat ≤ 2)

/-- Commands and descriptors of a queue pair that have not completed. -/
def queueTasks (q : Nat) (s : State) : Nat :=
  mapCount (fun _ t => match t.rq.route with | .queue p _ => decide (p.toNat = q) | _ => false) s.tasks

/-- A binding holds a Depepa command of a message tag (R559). -/
def sideHeld (vdm : Bool) (tag : BitVec 3) (s : State) : Bool :=
  (s.tasks.any fun e => decide (e.2.rq.route = .sideband vdm tag) && decide (e.2.opcode.toNat < 0x8000)) ||
    (s.side.waiting.any fun e => decide (e.2.route = .sideband vdm tag))

/-- A sideband message is discarded and counted; the count saturates (R556, R559, R570). -/
def sideDrop (s : State) : State :=
  raisePlain 319 { s with side := { s.side with drops := BitVec.ofNat 32 (min 0xFFFFFFFF (s.side.drops.toNat + 1)) } }

/-- How a request is taken up on its route. `none` is a request that does not start: a mailbox that is not ready or busy
(R165, OVERRUN), a descriptor that has not been fetched or whose FENCE holds it (R171), a part that takes no commands. A request of ring 1 or 2 for a saggar makes it the one its core serves (R15, R288); a
ring 3 module is bound to that saggar (R178). -/
def takeUp (opcode : Nat) (rq : Req) (s : State) : State × Bool :=
  match rq.route with
  | .mailbox f =>
    let n := f.toNat
    let m := s.box n
    if !s.fnExists n || !(s.fn n).memEnable then (s, false)
    else if !s.pwr.up || (decide (m.state = 1) && m.task.isSome) then (s.setBox n { m with overrun := true }, false)
    else if m.state = 1 then
      if decide (memRead 0 m.req 0 (requestBytes opcode rq).length = requestBytes opcode rq) && s.accepting then (s, true)
      else (s, false)
    else
      let m' := { m with req := memWrite 0 m.req 0 ((requestBytes opcode rq).take 2048), state := 1 }
      let s := s.setBox n m'
      (if 3 ≤ s.pwr.cone.toNat then startExit true s else s, s.accepting)
  | .queue q slot =>
    let x := s.qp q.toNat
    match x.fetched with
    | e :: rest =>
      if decide (e = (slot, FetchResult.command (BitVec.ofNat 16 opcode) rq)) && s.accepting &&
          (s.fn x.owner.toNat).busMaster &&
          (!rq.flags.getLsbD 0 || decide (queueTasks q.toNat s = 0)) then
        (s.setQp q.toNat { x with fetched := rest }, true)
      else (s, false)
    | [] => (s, false)
  | .sideband vdm tag =>
    if !s.pwr.up || s.pwr.commit.isSome then (s, false)
    else if sideHeld vdm tag s then (sideDrop s, false)
    else if 3 ≤ s.pwr.cone.toNat then
      (startExit true { s with side := { s.side with waiting := s.side.waiting ++ [(BitVec.ofNat 16 opcode, rq)] } }, false)
    else (s, true)
  | .ring core r =>
    if !s.accepting then (s, false)
    else if r = 3 ∨ rq.saggar = 0xFFFF then (s, true)
    else (s.setCore core { s.core core with serving := some (rq.saggar.setWidth 12) }, true)

/-! ### Responses -/

/-- The 16-byte response header (R170). -/
def responseHeader (opcode : Nat) (rq : Req) (status det len : Nat) : List Byte :=
  leBytes 2 opcode ++ leBytes 2 status ++ leBytes 4 rq.tag.toNat ++ leBytes 4 len ++ leBytes 2 rq.saggar.toNat ++
    leBytes 2 det

/-- The mailbox completes (R166): response area, LAST_STATUS, SEQ, DONE, then the message. -/
def mailboxComplete (f status : Nat) (bytes : List Byte) (s : State) : State :=
  let m := s.box f
  let s := s.setBox f { m with resp := memWrite 0 [] 0 bytes, lastStatus := BitVec.ofNat 16 status, seq := m.seq + 1,
                               state := 2, task := none }
  if m.ie then sendMsix f m.vector.toNat s else s

/-- Delivers a response on the route of its request. -/
def respond (opcode : Nat) (rq : Req) (status det : Nat) (payload : List Byte) (s : State) : State :=
  let header := responseHeader opcode rq status det payload.length
  match rq.route with
  | .mailbox f => mailboxComplete f.toNat status (header ++ payload) s
  | .queue q _ =>
    if rq.dmaFails ∧ payload ≠ [] then
      queueComplete q.toNat (responseHeader opcode rq stInternal 0x8001 0)
        (raiseEvent 20 (detail [(2, (s.qp q.toNat).owner.toNat), (2, q.toNat), (4, opcode)]) s)
    else
      queueComplete q.toNat header
        (if payload = [] then s else s.emit (.dmaWrite (s.qp q.toNat).owner.toNat rq.respAddr payload))
  | .sideband vdm tag => s.emit (.sidebandReply vdm tag header payload)
  | .ring core _ => s.emit (.ringReply core header payload)

/-- Gives back the reservation of a queue-carried command that started no job (R222). -/
def dropReservation (rq : Req) (s : State) : State :=
  match rq.route with
  | .queue _ _ => releaseReservation s
  | _ => s

/-- The opcodes of R189. -/
def knownOpcode (n : Nat) : Bool :=
  match n / 256 with
  | 0x01 => decide (n % 256 ≤ 4)
  | 0x02 | 0x05 | 0x06 => decide (n % 256 ≤ if n / 256 = 5 then 7 else 5)
  | 0x03 => decide (n % 256 ≤ 7)
  | 0x04 => decide (n % 256 ≤ 4)
  | 0x07 | 0x08 | 0x0C | 0x10 => decide (n % 256 ≤ 2)
  | 0x09 | 0x0A => decide (n % 256 ≤ 3)
  | 0x0B => [0, 1, 2, 0x10, 0x11, 0x12, 0x13].contains (n % 256)
  | 0x0D => [0, 1, 0x10, 0x11, 0x12].contains (n % 256)
  | 0x0E => decide (n % 256 ≤ 1)
  | 0x0F => [0, 1, 2, 3, 4, 0x10, 0x11, 0x12].contains (n % 256)
  | _ => false

/-- The request header in a request area. -/
def areaReq (f : BitVec 6) (m : Mailbox) : Nat × Req :=
  let b := memRead 0 m.req 0 16
  (leField b 0 2,
    { route := .mailbox f, flags := BitVec.ofNat 16 (leField b 2 2), tag := BitVec.ofNat 32 (leField b 4 4)
      length := BitVec.ofNat 32 (leField b 8 4), saggar := BitVec.ofNat 16 (leField b 12 2)
      reserved := BitVec.ofNat 16 (leField b 14 2), payload := [], data := [], respAddr := 0, respRoom := 0, dmaFails := false })

/-- A request that was submitted with an opcode no command has completes with BAD_OPCODE (R179), as soon as the part takes
commands. -/
def rejectUnknown (f : Nat) (s : State) : State :=
  let m := s.box f
  let r := areaReq (BitVec.ofNat 6 f) m
  if m.state = 1 ∧ m.task.isNone ∧ s.accepting ∧ !knownOpcode r.1 then respond r.1 r.2 stBadOpcode 0 [] s else s

/-- What the body of a command does after checks 1 to 6. -/
inductive CmdRes where
  /-- It completes: status, detail, response payload, state. -/
  | done (status det : Nat) (payload : List Byte) (s : State)
  /-- It stays in progress. -/
  | wait (t : Task) (s : State)

/-- A command that may have nothing to wait for: it ends at once where its work is empty. -/
def waitOr (finish : Task → State → CmdRes) (t : Task) (s : State) : CmdRes :=
  if dropNoDraw t.work = [] then finish t s else .wait t s

/-- A completion that changes nothing. -/
def failWith (status : Nat) (s : State) : CmdRes := .done status 0 [] s

/-- Records a command in progress, and starts what it waits for. -/
def addTask (t : Task) (s : State) : State :=
  let id := s.taskIds
  let s := { s with tasks := mapSet {} s.tasks id { t with work := dropNoDraw t.work }, taskIds := id + 1 }
  let s := match t.rq.route with
    | .mailbox f => s.setBox f.toNat { s.box f.toNat with task := some id }
    | _ => s
  startWork id s

/-- One command from its arrival to its completion or to the point where it waits. -/
def runCommand (c : CmdSpec) (rq : Req) (body : State → CmdRes) (s : State) : State :=
  match takeUp c.opcode rq s with
  | (s, false) => s
  | (s, true) =>
    match preCheck c rq s with
    | some status => respond c.opcode rq status 0 [] (dropReservation rq s)
    | none =>
      match body s with
      | .done status det payload s => respond c.opcode rq status det payload (dropReservation rq s)
      | .wait t s => addTask { t with opcode := BitVec.ofNat 16 c.opcode, rq, reserved := match rq.route with | .queue _ _ => true | _ => false } s

/-! ### Commands in progress -/

/-- A command in progress completes (R173: an OK after recomputation or takeover reads RECOMPUTED, with the time added). -/
def finishTask (id status det : Nat) (payload : List Byte) (s : State) : State :=
  let t := s.task id
  let s := { s with tasks := mapDel s.tasks id }
  let s := if t.reserved then releaseReservation s else s
  if t.silent then s
  else if status = stOk ∧ t.recomputed then
    respond t.opcode.toNat t.rq stRecomputed (min 0xFFFF t.added) payload s
  else respond t.opcode.toNat t.rq status det payload s

/-- Step 9 of R179: the response limit, then the room at the destination (R174, R176). -/
def respFits (rq : Req) (n : Nat) : Option Nat :=
  if rq.limit < n then some stLimit
  else match rq.route with
  | .queue _ _ => if rq.respRoom.toNat < n then some stBadLength else none
  | _ => none

end Sys2Proof.Machine
end

