-- ==== Sys2Proof/Machine/Lanes.lean ====
section
/-! DEFINITION. Shared operations of the glaze lanes: choice of a lane, the start of a job, staging and discard,
data descriptors (R231-R248, R258-R262). -/

namespace Sys2Proof.Machine

def State.lane (s : State) (n : Nat) : Lane := mapGet {} s.lanes.lane n
def State.setLane (s : State) (n : Nat) (l : Lane) : State :=
  { s with lanes := { s.lanes with lane := mapSet {} s.lanes.lane n l } }

/-- Role of a unit by its number in State.roles. -/
def State.role (s : State) (u : Nat) : Role := mapGet .active s.roles u
def State.setRole (s : State) (u : Nat) (r : Role) : State := { s with roles := mapSet .active s.roles u r }

/-! ### Staging (R242-R244) -/

def facetGranules (h : Nat) (s : State) : Nat := ((s.saggar h).quota.toNat * 1024 + 4095) / 4096

/-- Where `n` bytes of a message staged at text offset `off` go: on-die bytes and granules, spill bytes and granules added
(R242); none where no space remains (R243). -/
def stagePlan (h off n : Nat) (m : Msg) (s : State) : Option (Nat × Nat × Nat × Nat) :=
  let below := if off < 1048576 then min n (1048576 - off) else 0
  let room := min (facetGranules h s - mapGet 0 s.lanes.facet h) s.lanes.dieFree
  let slack := m.dieGran * 4096 - m.dieBytes
  let die := min below (slack + room * 4096)
  let dieNew := (m.dieBytes + die + 4095) / 4096 - m.dieGran
  let spill := n - die
  let spillNew := (m.spillBytes + spill + 65535) / 65536 - m.spillGran
  if spill = 0 then some (die, dieNew, 0, 0)
  else if s.lanes.spillEn ∧ spillNew ≤ s.lanes.spillFree ∧ mapGet 0 s.lanes.spill h + spillNew ≤ 16384 then
    some (die, dieNew, spill, spillNew)
  else none

/-- Allocates granules to a saggar. -/
def takeGranules (h die spill : Nat) (s : State) : State :=
  { s with lanes := { s.lanes with
      dieFree := s.lanes.dieFree - die, spillFree := s.lanes.spillFree - spill
      facet := mapMod 0 s.lanes.facet h (· + die), spill := mapMod 0 s.lanes.spill h (· + spill) } }

/-- Granules of a message wait for their zeroing (R244). -/
def dropGranules (h die spill : Nat) (s : State) : State :=
  { s with lanes := { s.lanes with
      dieDirty := s.lanes.dieDirty + die, spillDirty := s.lanes.spillDirty + spill
      facet := mapMod 0 s.lanes.facet h (· - die), spill := mapMod 0 s.lanes.spill h (· - spill) } }

/-- A message leaves its session and the context stores; its staged bytes become unreadable (R244). -/
def endMessage (ses m : Nat) (s : State) : State :=
  let x := s.session ses
  let g := mapGet {} x.msgs m
  let s := dropGranules x.saggar.toNat g.dieGran g.spillGran s
  let s := s.setSession ses { x with msgs := mapDel x.msgs m, cur := if x.cur = some m then none else x.cur }
  match g.lane with
  | some l => s.setLane l { s.lane l with contexts := (s.lane l).contexts.erase ses }
  | none => s

/-- Every message of a session is discarded. -/
def discardSession (ses : Nat) (s : State) : State :=
  let ms := (s.session ses).msgs.map (·.1)
  let s := ms.foldl (fun s m => endMessage ses m s) s
  s.setSession ses { s.session ses with cur := none }

/-! ### Data descriptors (R217, R236-R239) -/

def DataDescFirst (d : DataDesc) : Bool := d.flags.getLsbD 8
def DataDescLast (d : DataDesc) : Bool := d.flags.getLsbD 9

/-- The length of the MAC, tag or digest of a session's chunk with LAST. -/
def finalLen (x : Session) (d : DataDesc) : Nat :=
  let a := x.alg.toNat
  if isAead a ∨ a = 5 then x.tagLen.toNat
  else if a = 12 then d.capacity.toNat
  else match laneAlg a 32 with | some r => r.out | none => 0

/-- What a chunk writes: its text on encryption, decryption and verified decryption; on LAST the tag, MAC or digest
besides (R237). -/
def chunkOutput (x : Session) (d : DataDesc) : Nat :=
  let a := x.alg.toNat
  let body := if isAead a ∨ a = 4 then d.length.toNat else 0
  if DataDescLast d ∧ !x.decrypt then
    body + (if a = 12 then max 1 d.capacity.toNat else if a = 4 then 0 else finalLen x d)
  else body

/-- Checks 8a to 9g of R237 over a session, and the reserved field of R217; the second part says that the failure ends the
message in progress (R238). -/
def dataChecks (q : BitVec 12) (x : Session) (key : Option Key) (d : DataDesc) : Option (Nat × Bool) :=
  let a := x.alg.toNat
  let first := DataDescFirst d
  let last := DataDescLast d
  let m : Msg := match x.cur with | some i => mapGet {} x.msgs i | none => {}
  let text := (if first then 0 else m.text) + d.length.toNat
  let stale : Bool := match x.high with | some h => decide (d.seq.toNat ≤ h.toNat) | none => false
  let retired : Bool := match key with | some k => k.retired | none => false
  if d.rsvd64 ≠ 0 then some (0x13, false)
  else if (first ∧ x.cur.isSome) ∨ (!first ∧ x.cur.isNone) then some (0x13, false)
  else if !first ∧ d.seq ≠ m.seq then some (0x13, false)
  else if first ∧ !x.decrypt ∧ (isAead a ∨ a = 4) ∧ stale then some (0x13, false)
  else if d.aadLen ≠ 0 ∧ (!isAead a ∨ !first) then some (0x13, false)
  else if a = 4 ∧ !(first ∧ last) then some (0x13, false)
  else if !first ∧ m.qp.isSome ∧ m.qp ≠ some q then some (0x40, false)
  else if !last ∧ d.length.toNat % 16 ≠ 0 then some (0x22, true)
  else if 0xFFFFFFFF < text then some (0x22, true)
  else if isAead a ∧ x.decrypt ∧ 67108864 < text then some (0x22, true)
  else if a = 4 ∧ (d.length.toNat < 16 ∨ 16777216 < d.length.toNat) then some (0x22, false)
  else if first ∧ retired then some (0x23, false)
  else if !(x.decrypt ∧ isMac a) ∧ d.capacity.toNat < chunkOutput x d then some (0x11, false)
  else if a = 12 ∧ last ∧ (d.capacity.toNat = 0 ∨ 65536 < d.capacity.toNat) then some (0x11, false)
  else none

/-- The header of a data descriptor as a request (R217). -/
def dataReq (q slot : BitVec 12) (d : DataDesc) : Req :=
  { route := .queue q slot, flags := d.flags, tag := d.tag, saggar := d.saggar, reserved := d.reserved, length := d.length
    payload := [], data := [], respAddr := d.dstAddr, respRoom := d.capacity, dmaFails := false }

/-- Completes a data descriptor: the payload length of its header is the number of bytes written (R218). -/
def dataComplete (rq : Req) (status det written : Nat) (s : State) : State :=
  match rq.route with
  | .queue q _ => queueComplete q.toNat (responseHeader 0x8000 rq status det written) s
  | _ => s

/-- A failure of a chunk before its job starts: the reservation returns (R222). -/
def dataRefuse (rq : Req) (status : Nat) (s : State) : State := dataComplete rq status 0 0 (releaseReservation s)

/-- An accepted chunk enters its message, and its job is made (R231). -/
def acceptChunk (q : BitVec 12) (ses : Nat) (rq : Req) (d : DataDesc) (s : State) : State :=
  let x := s.session ses
  let first := DataDescFirst d
  let m := if first then x.msgIds else x.cur.getD 0
  let g : Msg := if first then { qp := some q, seq := d.seq, aad := d.aadLen.toNat } else mapGet {} x.msgs m
  let g := { g with text := g.text + d.length.toNat, qp := some q }
  let s := s.setSession ses { x with
    msgs := mapPut x.msgs m g, cur := if DataDescLast d then none else some m
    msgIds := if first then x.msgIds + 1 else x.msgIds
    high := if first ∧ (isAead x.alg.toNat ∨ x.alg = 4) then
      some (match x.high with | some h => if h.toNat < d.seq.toNat then d.seq else h | none => d.seq) else x.high }
  addTask { opcode := 0x8000, rq, desc := some d, effected := true, work := [.lane], reserved := true
            note := [m, match x.high with | some h => h.toNat + 1 | none => 0] } s

/-- A data descriptor: the checks of R179 and R237, then its job (R217, R231, R456). -/
def dataDescriptor (q slot : BitVec 12) (d : DataDesc) (s : State) : State :=
  let rq := dataReq q slot d
  let f := (s.qp q.toNat).owner.toNat
  if d.flags &&& 0xFCFE ≠ 0 ∨ d.reserved ≠ 0 then dataRefuse rq stBadOpcode s
  else if !s.lifeValid then dataRefuse rq stLocked s
  else if s.lcs.state = 0 ∨ s.lcs.state = 3 ∨ s.msub.degraded then dataRefuse rq stNotPermitted s
  else if !(s.saggarLive d.saggar.toNat && decide ((s.saggar d.saggar.toNat).owner.toNat = f)) then
    dataRefuse rq stBadHandle s
  else match findSession (d.saggar.setWidth 12) d.session s with
  | none => dataRefuse rq stBadHandle s
  | some ses =>
    let x := s.session ses
    let key := if x.key = 0 then none else sessionKey x s
    if x.key ≠ 0 ∧ key.isNone then dataRefuse rq stBadHandle s
    else if x.frozen then dataRefuse rq stTamperLocked s
    else match dataChecks q x (key.map s.key) d with
    | some (status, ends) =>
      let s := dataRefuse rq status s
      if !ends then s
      else match x.cur with
      | some m =>
        let lane := (mapGet {} x.msgs m).lane
        let s := endMessage ses m s
        (match lane with | some l => raisePlain (42 + 3 * l) s | none => s)
      | none => s
    | none => acceptChunk q ses rq d s

/-! ### Choice of a lane (R232, R20, R21) -/

/-- Lanes of the reserve: the lowest active ones, LANES of them (which ones is a choice, log entry 66). -/
def reserveLanes (s : State) : List Nat :=
  ((List.range 16).filter fun n => decide (s.role n = .active)).take s.pwr.lanes.toNat

/-- The lane may take a job of the given role; in cone 2 only the reserve is powered (R71). -/
def laneFree (r : Role) (s : State) (n : Nat) : Bool :=
  decide (s.role n = r) && !(s.lane n).busy && !s.bst.unqualLane.getLsbD n &&
    (decide (s.pwr.cone ≠ 2) || (reserveLanes s).contains n)

/-- The lane holds a key in a slot tagged with the saggar. -/
def laneHolds (s : State) (h : BitVec 12) (k : Nat) (n : Nat) : Bool :=
  let l := s.lane n
  decide (l.saggar = h) && l.slots.any fun e => e.2.valid && decide (e.2.saggar = h) && decide (e.2.key = some k)

/-- The message a job works on: session and number. -/
def jobMessage (j : Job) (s : State) : Option (Nat × Nat) :=
  match j.session, j.task with
  | some ses, some t => match (s.task t).note with | m :: _ => some (ses, m) | [] => none
  | _, _ => none

/-- The lane a job that waits goes to; none while it must wait. -/
def chooseLane (j : Job) (s : State) : Option Nat :=
  let fresh : Option Nat :=
    match j.key with
    | some k =>
      (match firstBelow 16 fun n => laneFree .active s n && laneHolds s j.saggar k n with
        | some n => some n
        | none => firstBelow 16 (laneFree .active s))
    | none => firstBelow 16 (laneFree .active s)
  if j.rerun then
    (match firstBelow 16 (laneFree .spare s) with | some n => some n | none => firstBelow 16 (laneFree .active s))
  else match jobMessage j s with
  | some (ses, m) =>
    (match (mapGet {} (s.session ses).msgs m).lane with
      | some l => if !(s.lane l).contexts.contains ses then fresh else if laneFree .active s l then some l else if s.role l = .active ∧ !s.bst.unqualLane.getLsbD l then none else fresh
      | none => fresh)
  | none => fresh

/-- A chunk or session order holds a job back: an earlier job of the same session waits, or an earlier chunk of its
message runs (R217, R231). -/
def laneOrder (id : Nat) (j : Job) (s : State) : Bool :=
  match j.session with
  | none => true
  | some ses =>
    !(s.jobs.any fun e => decide (e.1 < id) && decide (e.2.session = some ses) && e.2.live &&
      (e.2.unit.isNone || decide (jobMessage e.2 s = jobMessage j s)))

/-! ### The start and the end of a lane job -/

/-- Clears a lane for a job of another saggar (R233). -/
def laneClear (h : BitVec 12) (l : Lane) : Lane := if l.saggar = h then l else { l with saggar := h, slots := [] }

/-- The lane holds the context of a session as the most recently used, at most 64 (R232). -/
def touchContext (ses : Nat) (l : Lane) : Lane := { l with contexts := (ses :: l.contexts.erase ses).take 64 }

/-- A key goes to a slot of the lane where it is not there yet; which slot is a free value. -/
def loadSlot (h : BitVec 12) (key : Option Nat) (n : Nat) (s : State) : State :=
  match key with
  | none => s
  | some k =>
    if laneHolds s h k n then s
    else
      let l := s.lane n
      (s.setLane n { l with slots := mapSet {} l.slots (s.free 3).toNat { valid := true, saggar := h, key := some k } }).used 1

/-- A retirement by a lane's invocation raises event 41 + 3n (R250). -/
def laneInvoke (n : Nat) (key : Option Nat) (s : State) : State :=
  match key with
  | none => s
  | some k =>
    let r := invokeKey k s
    if r.2 then raisePlain (41 + 3 * n) r.1 else r.1

/-- A job invokes its key: a chunk with FIRST, an XTS job, an HMAC job of a KDF (R249). -/
def jobInvokes (j : Job) (s : State) : Bool :=
  match j.session, j.task with
  | some _, some t => match (s.task t).desc with | some d => DataDescFirst d | none => false
  | none, _ => j.key.isSome
  | _, _ => false

/-- The token of a job counts as issued from its start (R222). -/
def issueJob (id : Nat) (s : State) : State :=
  let j := s.job id
  let s := if j.token then s else reserveToken s
  if j.issued then s else issueReserved (s.setJob id { s.job id with token := true, issued := true })

/-- A lane starts a job (R231-R233, R249). -/
def startLaneJob (id n : Nat) (s : State) : State :=
  let j := s.job id
  let s := { s with lanes := { s.lanes with queue := s.lanes.queue.erase id } }
  let s := issueJob id s
  let s := s.setJob id { s.job id with unit := some n }
  let l := laneClear j.saggar (s.lane n)
  let s := s.setLane n { l with busy := true, job := some id, actJobs := l.actJobs + 1 }
  let s := loadSlot j.saggar j.key n s
  let s := if jobInvokes j s && !j.rerun then laneInvoke n j.key s else s
  match jobMessage j s with
  | some (ses, m) =>
    let x := s.session ses
    let s := s.setSession ses { x with msgs := mapMod {} x.msgs m fun g => { g with lane := some n } }
    s.setLane n (touchContext ses (s.lane n))
  | none => s

/-- The lane is free again; its counters take the bytes it processed (R262, R372). -/
def freeLane (n cls bytes : Nat) (s : State) : State :=
  let l := s.lane n
  countEngine (laneCharge cls bytes) (s.setLane n { l with
    busy := false, job := none, actBytes := l.actBytes + BitVec.ofNat 64 bytes
    byClass := mapMod 0 l.byClass cls (· + bytes) })

/-- A job ends and its token returns (R187). -/
def endJob (id : Nat) (s : State) : State :=
  let j := s.job id
  let s := { s with jobs := mapDel s.jobs id }
  if j.issued then returnToken s else if j.token then releaseReservation s else s

end Sys2Proof.Machine
end

