-- ==== Sys2Proof/Machine/Slots.lean ====
section
/-! DEFINITION. Operand-memory slots as selectors name them (R126, R127, R269-R272). -/

namespace Sys2Proof.Machine

/-- SEAL_READ is set, and event 88 + n is raised where a control core or a lease holder touched sealed bytes by
internal address (R271). -/
def markSealRead (n : Nat) (right : OperandRight) (s : State) : State :=
  let s := s.setCrucible n { s.crucible n with sealRead := true }
  if right = .leaseLike then raisePlain (88 + n) s else s

/-- A selector names a slot of the crucible: no reserved bit set, slot below the count. -/
def selectorOk (x : Crucible) (sel : Word) : Bool :=
  decide (sel.toNat < 65536) && !sel.getLsbD 7 && decide (sel.toNat / 256 % 128 < slotCount x.slotLen.toNat)

/-- Operand-memory offset of word `i` of the slot a selector names. -/
def slotWordOffset (x : Crucible) (sel : Word) (i : Nat) : Nat :=
  (sel.toNat / 32768) * 0x8000 + (sel.toNat / 256 % 128) * 8 * x.slotLen.toNat + 8 * i

/-- The word index of a selector. -/
def selectorIndex (sel : Word) : Nat := sel.toNat % 128

/-- Word `i` of the slot a selector names, as a right reads it; a word at or beyond the slot length reads 0. The second
part says whether sealed bytes were read. -/
def slotWord (s : State) (n : Nat) (sel : Word) (i : Nat) (right : OperandRight) : Nat × Bool :=
  let x := s.crucible n
  if x.slotLen.toNat ≤ i then (0, false)
  else
    let r := operandRead s n (slotWordOffset x sel i) 8 right
    (leNat r.1, r.2)

/-- The 128-bit operand of a selector at word index `i`: words i and i + 1. -/
def wideOperand (s : State) (n : Nat) (sel : Word) (i : Nat) (right : OperandRight) : Nat × Bool :=
  let lo := slotWord s n sel i right
  let hi := slotWord s n sel (i + 1) right
  (lo.1 + 2 ^ 64 * hi.1, lo.2 || hi.2)

/-- Stores one 64-bit word of a slot; a word at or beyond the slot length is discarded. -/
def storeSlotWord (s : State) (n : Nat) (sel : Word) (i v : Nat) : State :=
  let x := s.crucible n
  if x.slotLen.toNat ≤ i then s
  else { s with mem := memWrite 0 s.mem (operandAddress n (slotWordOffset x sel i)) (leBytes 8 v) }

/-- Stores the two words of a 128-bit operand. -/
def storeWide (s : State) (n : Nat) (sel : Word) (i v : Nat) : State :=
  storeSlotWord (storeSlotWord s n sel i (v % 2 ^ 64)) n sel (i + 1) (v / 2 ^ 64 % 2 ^ 64)

end Sys2Proof.Machine
end

