-- ==== Sys2Proof/Machine/Crucibles.lean ====
section
/-! DEFINITION. Shared operations of the crucible array: choice of a crucible, start and end of a job, the wipe, raw
operations, leases (R265-R295). -/

namespace Sys2Proof.Machine

/-! ### The wipe (R283, R290) -/

/-- The bytes of a crucible's operand memory after a wipe that keeps the open slots of `keep`. -/
def wipeBank (x : Crucible) (n : Nat) (keep : BitVec 256) (m : FMap Byte) : FMap Byte :=
  let len := 8 * x.slotLen.toNat
  m.filter fun e =>
    let off := e.1 - 0x30000000 - n * 0x10000
    let inside := decide (0x30000000 + n * 0x10000 ≤ e.1) && decide (e.1 < 0x30000000 + (n + 1) * 0x10000)
    let slot := off % 0x8000 / len
    !inside || (decide (slot < slotCount x.slotLen.toNat) && keep.getLsbD (128 * (off / 0x8000) + slot))

/-- Wipes crucible `n`: both banks but the slots kept, g1 to g31, p0 to p7, pm0 to pm7, the accumulators, every mark. -/
def wipe (n : Nat) (keep : BitVec 256) (s : State) : State :=
  let x := s.crucible n
  let s := { s with mem := wipeBank x n (keep &&& ~~~x.sealed) s.mem }
  let s := s.setCrucible n { x with sealed := 0 }
  { s with cores := mapMod {} s.cores (1000 + n) fun k => { k with g := [], p := [], pm := [], acc := [], wacc := [] } }

/-! ### Groups and choice (R266, R282) -/

/-- The crucible's cluster is in the raw group, or joins it. -/
def inRaw (s : State) (n : Nat) : Bool := s.arr.raw.getLsbD (n / 8)
def joiningRaw (s : State) (n : Nat) : Bool := s.arr.joining.getLsbD (n / 8)

/-- The crucible may start a job. -/
def crucibleIdle (s : State) (n : Nat) : Bool :=
  let x := s.crucible n
  !x.busy && x.lease.isNone && !s.bst.unqualCru.getLsbD n

/-- A crucible of the reserve: active, of the whole-operation group, in the lowest CLUSTERS clusters. -/
def reserveCrucible (s : State) (n : Nat) : Bool :=
  decide (n / 8 < s.pwr.clusters.toNat) && decide (s.role (1000 + n) = .active) && !inRaw s n

/-- A free active crucible of the whole-operation group; in cone 2 only the reserve is powered (R71). -/
def wholeFree (s : State) (n : Nat) : Bool :=
  decide (s.role (1000 + n) = .active) && !inRaw s n && !joiningRaw s n && crucibleIdle s n &&
    (decide (s.pwr.cone ≠ 2) || reserveCrucible s n)

/-- A crucible in the spare role that can recompute (R20). -/
def spareFree (s : State) (n : Nat) : Bool :=
  decide (s.role (1000 + n) = .spare) && crucibleIdle s n && decide (s.pwr.cone ≠ 2)

/-- A free crucible of the raw pool (R287). -/
def poolFree (s : State) (n : Nat) : Bool :=
  decide (s.role (1000 + n) = .active) && inRaw s n && crucibleIdle s n

/-- The crucible of a job: the free active one of lowest index; a rerun takes one in the spare role first. -/
def chooseCrucible (rerun : Bool) (s : State) : Option Nat :=
  if rerun then
    (match firstBelow 160 (spareFree s) with | some n => some n | none => firstBelow 160 (wholeFree s))
  else firstBelow 160 (wholeFree s)

/-- The first job of the queue that can start: its token held (or free, for overhead) and its key loaded. -/
def nextCrucibleJob (s : State) : Option Nat :=
  s.arr.queue.find? fun id =>
    let j := s.job id
    j.live && !j.keyWait && (j.token || (j.overhead && decide (0 < s.tokensFree)))

/-- The start of a job on crucible `n` (R249, R272, R295): the layout its microcode sets and the slots its sealed operand
takes are not stated: free values. -/
def startCrucible (id n : Nat) (s : State) : State :=
  let j := s.job id
  let s := { s with arr := { s.arr with queue := s.arr.queue.erase id } }
  let s := issueJob id s
  let s := s.setJob id { s.job id with unit := some n }
  let x := s.crucible n
  let s := (s.setCrucible n { x with
      busy := true, job := some id, saggar := j.saggar, actOps := x.actOps + 1
      byType := mapMod 0 x.byType j.type (· + 1)
      slotLen := BitVec.ofNat 8 (1 + (s.free 7).toNat)
      sealed := if j.key.isSome then BitVec.ofNat 256 (Config.freeNat (s.freeCtr + 1)) else 0 }).used 2
  let s := countInflight (opCharge j.type) (countEngine (opCharge j.type) s)
  match j.key with
  | some k =>
    if j.rerun then s
    else
      let r := invokeKey k s
      if r.2 then raisePlain (88 + n) r.1 else r.1
  | none => s

/-- Crucible `n` stops after so many cycles: the wipe, its counters (R283, R295). -/
def freeCrucible (n cycles : Nat) (s : State) : State :=
  let s := wipe n 0 s
  let x := s.crucible n
  countEngine (cycleCharge cycles) (s.setCrucible n { x with
    busy := false, job := none, actCyc := x.actCyc + BitVec.ofNat 64 cycles })

/-! ### Raw operations (R289, R290) -/

/-- A queued operation that is discarded instead of issued (R289). -/
def rawBad (x : Crucible) (o : RawOp) : Bool :=
  let ok (sel : BitVec 16) : Bool := selectorOk x (sel.setWidth 32)
  match o.op.toNat with
  | 0 => !ok o.selA || !ok o.selB
  | 1 => !ok o.selA || decide (128 ≤ o.selB.toNat)
  | 2 | 3 => !ok o.selA || decide (o.selB ≠ 0)
  | 4 => decide (o.selA ≠ 0) || decide (o.selB ≠ 0)
  | _ => true

/-- One raw operation on crucible `n` (R126, R289). -/
def rawIssue (n : Nat) (o : RawOp) (s : State) : State :=
  let c := 1000 + n
  let k : Thrower := mapGet {} s.cores c
  let a : BitVec 1 := if o.wacc then 1 else 0
  let sa := o.selA.setWidth 32
  let sb := o.selB.setWidth 32
  let rd (sel : Word) (i : Nat) : Nat := (wideOperand s n sel i .leaseLike).1
  let put (v : BitVec 288) : State := { s with cores := mapSet {} s.cores c (k.setWacc a v) }
  match o.op.toNat with
  | 0 => put (k.waccOf a + BitVec.ofNat 288 (rd sa (selectorIndex sa) * rd sb (selectorIndex sb)))
  | 1 =>
    let x := rd sa (selectorIndex sa)
    let y := rd sa (selectorIndex sb)
    put (k.waccOf a + BitVec.ofNat 288 (if selectorIndex sa = selectorIndex sb then x * y else 2 * (x * y)))
  | 2 => put (BitVec.ofNat 288 (rd sa (selectorIndex sa)))
  | 3 =>
    let v := k.waccOf a
    storeWide { s with cores := mapSet {} s.cores c (k.setWacc a (v >>> 128)) } n sa (selectorIndex sa) (v.toNat % 2 ^ 128)
  | _ =>
    let s := wipe n (s.crucible n).retain s
    s.setCrucible n { s.crucible n with actRaw := (s.crucible n).actRaw + 1 }

/-! ### Leases (R287, R291, R293) -/

def State.lease (s : State) (i : Nat) : Lease := mapGet {} s.vault.leases i
def State.setLease (s : State) (i : Nat) (l : Lease) : State :=
  { s with vault := { s.vault with leases := mapSet {} s.vault.leases i l } }

/-- Charges the cycles a lease has held its crucibles beyond those charged (R293). -/
def chargeLease (i cycles : Nat) (s : State) : State :=
  let l := s.lease i
  let more := cycles - l.cycles
  let n := l.crucibles.length
  let s := l.crucibles.foldl (fun s c =>
    s.setCrucible c { s.crucible c with actCyc := (s.crucible c).actCyc + BitVec.ofNat 64 more }) s
  let c : Charge := { rawCycles := ((n * more : Nat) : Int) }
  chargeSaggar l.saggar.toNat c (countEngine c (s.setLease i { l with cycles := max cycles l.cycles }))

/-- Cycles a lease can have been held so far: the time is not the model's, a free value within the limit. -/
def leaseCycles (i : Nat) (s : State) : Nat :=
  let l := s.lease i
  max l.cycles ((s.free 64).toNat % (l.limit.toNat * 1500 + 1))

/-- A leased crucible goes back to the raw pool: its queue discarded, wiped, its token returned (R291). -/
def dropLeased (expired : Bool) (n : Nat) (s : State) : State :=
  let s := wipe n 0 (s.setCrucible n { s.crucible n with retain := 0 })
  let s := { s with upd := { s.upd with reload := s.upd.reload.erase (1000 + n) } }
  returnToken (s.setCrucible n { s.crucible n with
    rawQueue := [], retain := 0, lease := none, busy := false, expired := expired || (s.crucible n).expired })

/-- A lease ends (R291); its handle's generation advances (R334). -/
def endLease (i : Nat) (expired : Bool) (s : State) : State :=
  let s := (s.lease i).crucibles.foldl (fun s n => dropLeased expired n s) s
  { s with vault := { s.vault with leases := mapDel s.vault.leases i, leaseGens := mapMod 0 s.vault.leaseGens i (· + 1) } }

end Sys2Proof.Machine
end

