-- ==== Sys2Proof/Machine/CmdKey.lean ====
section
/-! DEFINITION. The key commands (R182, R193, R340-R353, R594). -/

namespace Sys2Proof.Machine

/-! ### Helpers -/

/-- A level-3 key of a saggar (R328). -/
def saggarSubkey (h : Nat) (info : String) (s : State) : List Byte :=
  stdHkdf 0x202 32 (leBytes 2 h) (s.saggar h).root (ascii info)

/-- A request's field of eight bytes as a handle or policy. -/
def Req64 (rq : Req) (off : Nat) : BitVec 64 := BitVec.ofNat 64 (rq.field off 8)

/-- A lane class or KDF secret is not made by a crucible. -/
def isPair (alg : Nat) : Bool := decide (0x101 ≤ alg) && decide (alg ≤ 0x12A)

/-- The saggar of a request, as a number. -/
def rqSag (rq : Req) : Nat := rq.saggar.toNat

/-- Cancels a job that has not started: it leaves its queue and its token or reservation returns. -/
def dropJob (id : Nat) (s : State) : State :=
  let s := { s with
    lanes := { s.lanes with queue := s.lanes.queue.erase id }
    arr := { s.arr with queue := s.arr.queue.erase id }
    tokenWait := s.tokenWait.erase id }
  endJob id s

/-- A command in progress ends with a status before its next job starts; a data descriptor reports no bytes. -/
def failTask (tid status det : Nat) (s : State) : State :=
  let t := s.task tid
  let s := match t.job with
    | some j => if (s.job j).unit.isNone then dropJob j s else s
    | none => s
  if t.opcode = 0x8000 then
    let s := { s with tasks := mapDel s.tasks tid }
    if t.silent then s else dataComplete t.rq status det 0 s
  else finishTask tid status det [] s

/-- Every job of a key that has not taken its token ends with BAD_HANDLE (R185). -/
def refuseWaiting (p : Job → Bool) (status : Nat) (s : State) : State :=
  (s.jobs.filter fun e => p e.2 && !e.2.issued).foldl (fun s e =>
    match e.2.task with | some t => failTask t status 0 s | none => s) s

/-- The commands whose jobs hold tokens on an object (R185). -/
def holders (p : Job → Bool) (s : State) : List Nat :=
  (s.jobs.filter fun e => p e.2 && e.2.issued).filterMap fun e => e.2.task

/-! ### KEY_GENERATE and KEY_ROTATE (R349, R351) -/

def specKeyGenerate : CmdSpec :=
  { opcode := 0x0300, queue := true, scope := .saggar, owner := true, rings := 0xE, lengthOk := (· = 40)
    lockRefused := fun _ => true }

/-- The work that makes a key's material. -/
def makeWork (alg bits : Nat) : List Work :=
  if isPair alg then
    [.draw (opDraw alg opKeyPair 0), .op (BitVec.ofNat 16 alg) opKeyPair (opWords alg bits) none false]
  else [.draw (materialLen alg bits)]

/-- Room and randomness for a new key of an algorithm (R336, R399). -/
def makeStart (rq : Req) (alg bits : Nat) (note : List Nat) (s : State) : CmdRes :=
  if !cacheRoom (rqSag rq) 1 ((materialLen alg bits - 64 + 1023) / 1024) s then failWith stLimit (refuseRoom (rqSag rq) s)
  else match drawStatus s with
  | some st => failWith st s
  | none => .wait { rq, work := makeWork alg bits, note } s

/-- A new key from the randomness drawn. -/
def newKey (rq : Req) (alg bits : Nat) (policy limit : BitVec 64) (drawn : List Byte) : Key :=
  let material := if isPair alg then stdKeyGen alg bits (materialLen alg bits) drawn else drawn
  { saggar := rq.saggar.setWidth 12, alg := BitVec.ofNat 16 alg, bits := BitVec.ofNat 16 bits, material
    pubKey := if isPair alg then stdPublic alg (publicLen alg bits) material else [], policy, limit }

/-- The host function a buffer belongs to. -/
def dmaFn (rq : Req) (s : State) : Nat := (reqFn rq s).getD 0

/-- A result is written to a buffer of the request by DMA; a failure after the effect point reads INTERNAL (R173). -/
def dmaResult (rq : Req) (opcode : Nat) (addr : BitVec 64) (bytes payload : List Byte) (s : State) : CmdRes :=
  if bytes = [] then .done stOk 0 payload s
  else if rq.dmaFails then
    .done stInternal 0x8001 [] (raiseEvent 20 (detail [(2, dmaFn rq s), (2, 0), (4, opcode)]) s)
  else .done stOk 0 payload (s.emit (.dmaWrite (dmaFn rq s) addr bytes))

def bodyKeyGenerate (rq : Req) (s : State) : CmdRes :=
  let alg := rq.field 0 2
  let bref := rq.field 32 4
  match generateBits alg (rq.field 2 2) with
  | none => failWith stNotPermitted s
  | some bits =>
    if !rq.rsvd 4 4 || !rq.rsvd 36 4 || !policyBits (Req64 rq 8) then failWith stNotPermitted s
    else if (respFits rq 16).isSome ∨ (bref ≠ 0 ∧ bref < publicLen alg bits) then failWith stBadLength s
    else match keyClass alg bits, usageLimit (s.saggar (rqSag rq)) alg bits (Req64 rq 16) with
    | some c, some limit =>
      if policyOk c false (Req64 rq 8) then makeStart rq alg bits [alg, bits, limit.toNat] s else failWith stNotPermitted s
    | _, _ => failWith stNotPermitted s

def finishKeyGenerate (t : Task) (s : State) : CmdRes :=
  let rq := t.rq
  match t.note with
  | [alg, bits, limit] =>
    let k := newKey rq alg bits (Req64 rq 8) (BitVec.ofNat 64 limit) t.drawn
    (match createKey k s with
      | none => failWith stLimit (refuseRoom (rqSag rq) s)
      | some (i, s) =>
        let pub := if rq.field 32 4 = 0 then [] else k.pubKey
        dmaResult rq 0x0300 (Req64 rq 24) pub
          (leBytes 8 (keyHandle s i).toNat ++ leBytes 4 k.pubKey.length ++ leBytes 4 0) s)
  | _ => failWith stInternal s

def execKeyGenerate (rq : Req) (s : State) : Answer := .next (runCommand specKeyGenerate rq (bodyKeyGenerate rq) s)

def specKeyRotate : CmdSpec :=
  { opcode := 0x0306, queue := true, scope := .saggar, owner := true, rings := 0x2, lengthOk := (· = 16)
    lockRefused := fun _ => true }

def bodyKeyRotate (rq : Req) (s : State) : CmdRes :=
  match findKey rq (Req64 rq 0) false s with
  | none => failWith stBadHandle s
  | some i =>
    let k := s.key i
    if 1 < rq.field 8 1 ∨ !rq.rsvd 9 7 then failWith stNotPermitted s
    else match respFits rq 8 with
    | some st => failWith st s
    | none =>
      if k.isPublic ∨ k.traffic then failWith stNotPermitted s
      else makeStart rq k.alg.toNat k.bits.toNat [i, k.alg.toNat, k.bits.toNat, k.policy.toNat, k.limit.toNat] s

def finishKeyRotate (t : Task) (s : State) : CmdRes :=
  match t.note with
  | [i, alg, bits, policy, limit] =>
    let k := newKey t.rq alg bits (BitVec.ofNat 64 policy) (BitVec.ofNat 64 limit) t.drawn
    (match createKey k s with
      | none => failWith stLimit (refuseRoom (rqSag t.rq) s)
      | some (n, s) =>
        let s := if t.rq.field 8 1 = 1 ∧ (s.key i).live then s.setKey i { s.key i with retired := true } else s
        .done stOk 0 (leBytes 8 (keyHandle s n).toNat) s)
  | _ => failWith stInternal s

def execKeyRotate (rq : Req) (s : State) : Answer := .next (runCommand specKeyRotate rq (bodyKeyRotate rq) s)

/-! ### Wrapped blobs (R346-R348) -/

/-- A wrapping key of a saggar: an AES-256 key with WRAP. -/
def wrapsKeys (k : Key) : Bool := decide (k.alg = 2 ∨ (k.alg = 5 ∧ k.bits = 256)) && k.policy.getLsbD 8

/-- The AAD of a blob (R346). -/
def blobAad (head : List Byte) (h : Nat) (flag : Bool) : List Byte :=
  head ++ (if flag then leBytes 2 h ++ serialBytes else [])

def specKeyExportWrapped : CmdSpec :=
  { opcode := 0x0302, queue := true, scope := .saggar, owner := true, rings := 0x2, lengthOk := (· = 16)
    lockRefused := fun _ => true }

/-- The material as a blob carries it (R346). -/
def blobMaterial (k : Key) : List Byte :=
  if k.alg = 0x110 then padTo (blobLen 0x110 k.bits.toNat) (Config.standard 19 [k.material]) else k.material

/-- The bytes of an exported blob. -/
def exportBlob (k : Key) (h : Nat) (wrap nonce : List Byte) (flag : Bool) : List Byte :=
  let m := blobMaterial k
  let head := leBytes 2 0x0101 ++ leBytes 2 k.alg.toNat ++ leBytes 2 k.bits.toNat ++ leBytes 2 (if flag then 1 else 0) ++
    leBytes 8 k.policy.toNat ++ leBytes 8 k.limit.toNat ++ leBytes 8 k.uses.toNat ++ padTo 12 nonce ++ leBytes 4 m.length
  head ++ stdGcmEnc wrap nonce (blobAad head h flag) m

def bodyKeyExportWrapped (rq : Req) (s : State) : CmdRes :=
  let w := Req64 rq 8
  match findKey rq (Req64 rq 0) false s, (if w = 0 then some none else (findKey rq w false s).map some) with
  | some i, some wi =>
    let k := s.key i
    let allowed := !k.ephemeral && !k.traffic && !k.isPublic &&
      (match wi with
        | none => k.policy.getLsbD 10
        | some j => wrapsKeys (s.key j) && k.policy.getLsbD 9 && (s.saggar (rqSag rq)).policy.getLsbD 2)
    (match respFits rq (8 + 64 + blobLen k.alg.toNat k.bits.toNat) with
      | some st => failWith st s
      | none =>
        if !allowed then failWith stNotPermitted s
        else match drawStatus s with
        | some st => failWith st s
        | none =>
          let wrap := match wi with | none => saggarSubkey (rqSag rq) "blob" s | some j => (s.key j).material
          .wait { rq, work := [.draw 12], note := [i, if wi.isNone then 1 else 0], store := wrap } s)
  | _, _ => failWith stBadHandle s

def finishKeyExportWrapped (t : Task) (s : State) : CmdRes :=
  match t.note with
  | [i, flag] =>
    let blob := exportBlob (s.key i) (rqSag t.rq) t.store t.drawn (decide (flag = 1))
    .done stOk 0 (leBytes 4 blob.length ++ leBytes 4 0 ++ blob) s
  | _ => failWith stInternal s

def execKeyExportWrapped (rq : Req) (s : State) : Answer :=
  .next (runCommand specKeyExportWrapped rq (bodyKeyExportWrapped rq) s)

def specKeyImportWrapped : CmdSpec :=
  { opcode := 0x0301, queue := true, scope := .saggar, owner := true, rings := 0x6
    lengthOk := fun n => decide (17 ≤ n) && decide (n ≤ 2032), lockRefused := fun _ => true }

/-- A material length agrees with algorithm and key bits (R348, R594). -/
def blobSizeOk (alg bits m : Nat) : Bool :=
  (match generateBits alg bits with | some b => decide (b = bits) | none => decide (alg / 2 = 0x100 ∧ bits = 528)) &&
    decide (m = blobLen alg bits)

def bodyKeyImportWrapped (rq : Req) (s : State) : CmdRes :=
  let w := Req64 rq 0
  let blob := rq.payload.drop 16
  let h := rqSag rq
  if rq.field 8 4 ≠ blob.length then failWith stBadLength s
  else match (if w = 0 then some none else (findKey rq w false s).map some) with
  | none => failWith stBadHandle s
  | some wi =>
    let alg := leField blob 2 2
    let bits := leField blob 4 2
    let flags := leField blob 6 2
    let m := leField blob 44 4
    let wrap := match wi with | none => saggarSubkey h "blob" s | some j => (s.key j).material
    let structure_ := decide (leField blob 0 2 = 0x0101) && decide (blob.length = 64 + m) &&
      (match wi with | none => decide (flags = 1) | some j => decide (flags = 0) && wrapsKeys (s.key j)) &&
      blobSizeOk alg bits m
    let policy := BitVec.ofNat 64 (leField blob 8 8)
    let head := sliceBytes blob 0 48
    let nonce := sliceBytes blob 32 12
    if !rq.rsvd 12 4 then failWith stNotPermitted s
    else if (respFits rq 8).isSome then failWith stBadLength s
    else if !structure_ then failWith stNotPermitted s
    else if !stdGcmOk wrap nonce (blobAad head h (decide (flags = 1))) (blob.drop 48) then
      failWith stAuthFail (raiseEvent 255 (detail [(2, h), (2, 0x0301)]) s)
    else
      let plain := stdGcmDec wrap nonce (blobAad head h (decide (flags = 1))) (blob.drop 48)
      match keyClass alg bits, usageLimit (s.saggar h) alg bits (BitVec.ofNat 64 (leField blob 16 8)) with
      | some c, some limit =>
        if !policyOk c false policy then failWith stNotPermitted s
        else if !cacheRoom h 1 ((materialLen alg bits - 64 + 1023) / 1024) s then failWith stLimit (refuseRoom h s)
        else
          let material := if alg = 0x110 then stdKeyGen alg bits (materialLen alg bits) plain else plain
          let k : Key :=
            { saggar := rq.saggar.setWidth 12, alg := BitVec.ofNat 16 alg, bits := BitVec.ofNat 16 bits, material
              pubKey := if isPair alg then stdPublic alg (publicLen alg bits) material else []
              policy, limit, uses := BitVec.ofNat 64 (leField blob 24 8) }
          (match createKey k s with
            | none => failWith stLimit (refuseRoom h s)
            | some (i, s) => .done stOk 0 (leBytes 8 (keyHandle s i).toNat) s)
      | _, _ => failWith stNotPermitted s

def execKeyImportWrapped (rq : Req) (s : State) : Answer :=
  .next (runCommand specKeyImportWrapped rq (bodyKeyImportWrapped rq) s)

/-! ### KEY_DERIVE (R343, R350) -/

def specKeyDerive : CmdSpec :=
  { opcode := 0x0303, queue := true, scope := .saggar, owner := true, rings := 0xE
    lengthOk := fun n => decide (40 ≤ n) && decide (n ≤ 2024), lockRefused := fun _ => true }

/-- The output length an output algorithm admits. -/
def deriveLenOk (alg len : Nat) : Bool :=
  match alg with
  | 1 => decide (len = 16) | 2 | 3 => decide (len = 32) | 4 => decide (len = 64)
  | 5 => decide (len = 16) || decide (len = 32)
  | 6 | 7 | 0x201 | 0x202 => decide (16 ≤ len) && decide (len ≤ 64)
  | _ => false

/-- The HMAC jobs of a derivation: the extract over the base key, then one expand job for each block (R350). -/
def deriveWork (kdf base info len : Nat) (key : Option Nat) : List Work :=
  let hash := if kdf = 0x201 then 32 else 48
  let alg : BitVec 16 := BitVec.ofNat 16 kdf
  .hash alg base key :: ((List.range ((len + hash - 1) / hash)).map fun i =>
    .hash alg ((if i = 0 then 0 else hash) + info + 1) none)

def bodyKeyDerive (rq : Req) (s : State) : CmdRes :=
  let kdf := rq.field 8 2
  let out := rq.field 10 2
  let len := rq.field 12 2
  let info := rq.field 32 2
  let policy := Req64 rq 16
  let h := rqSag rq
  if rq.payload.length ≠ 40 + info then failWith stBadLength s
  else match findKey rq (Req64 rq 0) false s with
  | none => failWith stBadHandle s
  | some i =>
    let k := s.key i
    let bits := 8 * len
    if !(rq.rsvd 14 2 && rq.rsvd 34 6) || decide (1984 < info) || !(decide (kdf = 0x201) || decide (kdf = 0x202)) ||
        !deriveLenOk out len || decide (len < 16) || decide (64 < len) || !policyBits policy then failWith stNotPermitted s
    else if (respFits rq 8).isSome then failWith stBadLength s
    else match keyClass out bits, usageLimit (s.saggar h) out bits (Req64 rq 24) with
    | some c, some limit =>
      if !policyOk c false policy || !k.policy.getLsbD 7 || (policy.getLsbD 9 && !k.policy.getLsbD 9) ||
          (policy.getLsbD 10 && !k.policy.getLsbD 10) then failWith stNotPermitted s
      else if k.retired then failWith stKeyRetired s
      else if !cacheRoom h 1 0 s then failWith stLimit (refuseRoom h s)
      else .wait { rq, work := deriveWork kdf k.material.length info len (some i), note := [out, bits, limit.toNat]
                   store := k.material } s
    | _, _ => failWith stNotPermitted s

def finishKeyDerive (t : Task) (s : State) : CmdRes :=
  let rq := t.rq
  match t.note with
  | [out, bits, limit] =>
    let k : Key :=
      { saggar := rq.saggar.setWidth 12, alg := BitVec.ofNat 16 out, bits := BitVec.ofNat 16 bits
        material := stdHkdf (rq.field 8 2) (bits / 8) [] t.store (rq.payload.drop 40)
        policy := Req64 rq 16, limit := BitVec.ofNat 64 limit }
    (match createKey k s with
      | none => failWith stLimit (refuseRoom (rqSag rq) s)
      | some (i, s) => .done stOk 0 (leBytes 8 (keyHandle s i).toNat) s)
  | _ => failWith stInternal s

def execKeyDerive (rq : Req) (s : State) : Answer := .next (runCommand specKeyDerive rq (bodyKeyDerive rq) s)

/-! ### KEY_DESTROY and KEY_QUERY (R337, R352) -/

def specKeyDestroy : CmdSpec :=
  { opcode := 0x0304, queue := true, scope := .saggar, owner := true, rings := 0x2, lengthOk := (· = 8) }

/-- Sessions whose key is `i`. -/
def sessionsOn (i : Nat) (s : State) : List Nat :=
  (s.vault.sessions.filter fun e => e.2.live && decide (e.2.key ≠ 0) && decide (handleIndex e.2.key = i) &&
    decide (handleGen e.2.key = mapGet 0 s.vault.keyGens i)).map (·.1)

/-- The key is scrubbed, and what its sessions still stage is discarded (R244, R352). -/
def scrubKey (i : Nat) (s : State) : State :=
  destroyKey i ((sessionsOn i s).foldl (fun s x => discardSession x s) s)

def bodyKeyDestroy (rq : Req) (s : State) : CmdRes :=
  match findKey rq (Req64 rq 0) false s with
  | none => failWith stBadHandle s
  | some i =>
    let s := s.setKey i { s.key i with destroying := true }
    let uses (j : Job) : Bool := decide (j.key = some i)
    let s := refuseWaiting uses stBadHandle s
    let held := holders uses s
    if held = [] then .done stOk 0 [] (scrubKey i s)
    else .wait { rq, effected := true, work := [.drain held], note := [i] } s

def finishKeyDestroy (t : Task) (s : State) : CmdRes :=
  match t.note with | [i] => .done stOk 0 [] (scrubKey i s) | _ => failWith stInternal s

def execKeyDestroy (rq : Req) (s : State) : Answer := .next (runCommand specKeyDestroy rq (bodyKeyDestroy rq) s)

def specKeyQuery : CmdSpec :=
  { opcode := 0x0305, queue := true, scope := .saggar, owner := true, rings := 0x6, lengthOk := (· = 8) }

/-- The 48 bytes KEY_QUERY reports (R193). -/
def keyReport (k : Key) : List Byte :=
  leBytes 2 k.alg.toNat ++ leBytes 2 k.bits.toNat ++ [if k.destroying then 2 else if k.retired then 1 else 0] ++
    [if k.hot || k.ephemeral then 0 else 1] ++ leBytes 2 0 ++ leBytes 8 k.policy.toNat ++ leBytes 8 k.limit.toNat ++
    leBytes 8 k.uses.toNat ++ leBytes 8 k.created.toNat ++ leBytes 4 k.chain.length ++ leBytes 4 0

def bodyKeyQuery (rq : Req) (s : State) : CmdRes :=
  match findKey rq (Req64 rq 0) true s with
  | none => failWith stBadHandle s
  | some i =>
    match respFits rq 48 with
    | some st => failWith st s
    | none => .done stOk 0 (keyReport (s.key i)) s

def execKeyQuery (rq : Req) (s : State) : Answer := .next (runCommand specKeyQuery rq (bodyKeyQuery rq) s)

/-! ### KEY_SET_CHAIN (R353) -/

def specKeySetChain : CmdSpec :=
  { opcode := 0x0307, queue := true, scope := .saggar, owner := true, rings := 0x2, lengthOk := (· = 24)
    lockRefused := fun _ => true }

/-- CertificateEntry structures fill a byte string exactly, in at most `fuel` entries. -/
def entriesFill : Nat → List Byte → Bool
  | _, [] => true
  | 0, _ => false
  | fuel + 1, bs =>
    let c := beNat (bs.take 3)
    let e := beNat ((bs.drop (3 + c)).take 2)
    decide (5 + c + e ≤ bs.length) && entriesFill fuel (bs.drop (5 + c + e))

def bodyKeySetChain (rq : Req) (s : State) : CmdRes :=
  let n := rq.field 16 4
  match findKey rq (Req64 rq 0) false s with
  | none => failWith stBadHandle s
  | some i =>
    let k := s.key i
    let chain := padTo n rq.data
    if !rq.rsvd 20 4 then failWith stNotPermitted s
    else if !k.policy.getLsbD 11 then failWith stNotPermitted s
    else if 16384 < n then failWith stLimit s
    else if rq.dmaFails then .done stInternal 1 [] (raiseEvent 20 (detail [(2, dmaFn rq s), (2, 0), (4, 0x0307)]) s)
    else if n = 0 ∨ !entriesFill n chain then failWith stNotPermitted s
    else if 1048576 < s.extentsUsed - (k.chain.length + 1023) / 1024 + (n + 1023) / 1024 then failWith stLimit s
    else .done stOk 0 [] (s.setKey i { k with chain })

def execKeySetChain (rq : Req) (s : State) : Answer := .next (runCommand specKeySetChain rq (bodyKeySetChain rq) s)

end Sys2Proof.Machine
end

