-- ==== Sys2Proof/Machine/CmdSag.lean ====
section
/-! DEFINITION. The saggar commands (R191, R344, R345, R354-R356). -/

namespace Sys2Proof.Machine

def specSagCreate : CmdSpec :=
  { opcode := 0x0200, scope := .device, phys := true, lengthOk := (· = 16), lockRefused := fun _ => true }

/-- Facet quotas of all saggars but one. -/
def quotasBut (h : Nat) (s : State) : Nat :=
  s.vault.saggars.foldl (fun n e => if e.2.live && decide (e.1 ≠ h) then n + e.2.quota.toNat else n) 0

/-- The lowest id that is absent and was not destroyed in the open span (R354). -/
def freeSaggar (s : State) : Option Nat := firstBelow 4096 fun h => !(s.saggar h).live && !(s.saggar h).spent

def weightOk (w : Nat) : Bool := decide (1 ≤ w) && decide (w ≤ 1000)

def bodySagCreate (rq : Req) (s : State) : CmdRes :=
  let policy := Req64 rq 8
  if 63 < rq.field 0 2 ∨ !weightOk (rq.field 2 2) ∨ !saggarPolicyOk policy ∨ policy.getLsbD 5 then
    failWith stNotPermitted s
  else if (freeSaggar s).isNone ∨ 49152 < quotasBut 4096 s + rq.field 4 4 then failWith stLimit s
  else match drawStatus s with
  | some st => failWith st s
  | none => .wait { rq, work := [.draw 32, .draw 12, .logPage] } s

/-- The root record is programmed: the saggar exists from then on (R354). -/
def finishSagCreate (t : Task) (s : State) : CmdRes :=
  let rq := t.rq
  match freeSaggar s with
  | none => failWith stLimit s
  | some h =>
    let g : Saggar :=
      { live := true, owner := BitVec.ofNat 6 (rq.field 0 2), weight := BitVec.ofNat 16 (rq.field 2 2)
        quota := BitVec.ofNat 32 (rq.field 4 4), policy := Req64 rq 8, root := t.drawn.take 32, created := true }
    let s := appendLog (fun n =>
      { type := 1, saggar := BitVec.ofNat 12 h, seq := n, minute := s.minute, owner := g.owner, weight := g.weight
        quota := g.quota, policy := g.policy, root := g.root, seed := s.bk.seed, nonce := (t.drawn.drop 32).take 12 }) s
    .done stOk 0 (leBytes 2 h ++ leBytes 2 0) (s.setSaggar h g)

def execSagCreate (rq : Req) (s : State) : Answer := .next (runCommand specSagCreate rq (bodySagCreate rq) s)

/-! ### SAG_SET_POLICY, SAG_SET_LATENCY, SAG_QUERY -/

def specSagSetPolicy : CmdSpec := { opcode := 0x0202, scope := .saggar, phys := true, lengthOk := (· = 16) }

def bodySagSetPolicy (rq : Req) (s : State) : CmdRes :=
  let h := rqSag rq
  let g := s.saggar h
  let policy := Req64 rq 0
  let g' := { g with policy, weight := BitVec.ofNat 16 (rq.field 8 2), quota := BitVec.ofNat 32 (rq.field 12 4) }
  if !saggarPolicyOk policy ∨ !weightOk (rq.field 8 2) ∨ !rq.rsvd 10 2 then failWith stNotPermitted s
  else if 49152 < quotasBut h s + rq.field 12 4 ∨ (policy.getLsbD 5 ∧ g'.hotShare = 0) ∨
      49152 < (s.setSaggar h g').hotReserved then failWith stLimit s
  else .done stOk 0 [] (makeHotRoom h 0 (s.vault.keys.length + 1) (s.setSaggar h { g' with unsaved := true }))

def execSagSetPolicy (rq : Req) (s : State) : Answer := .next (runCommand specSagSetPolicy rq (bodySagSetPolicy rq) s)

/-- The saggar is active (R79): a bound queue pair, an open session or a handshake in progress. -/
def State.saggarActive (s : State) (h : Nat) : Bool :=
  (s.hif.qps.any fun e => decide (e.2.bound = some (BitVec.ofNat 12 h))) ||
    (s.vault.sessions.any fun e => e.2.live && decide (e.2.saggar.toNat = h)) ||
    (s.vault.shakes.any fun e => e.2.live && decide (e.2.saggar.toNat = h) && decide (e.2.state ≠ 0x100))

/-- The saggar term of R79 in microseconds; 0xFFFFF is unbounded. -/
def State.saggarTerm (s : State) : Nat :=
  s.vault.saggars.foldl (fun n e => if e.2.live && s.saggarActive e.1 then min n e.2.tolerance.toNat else n) 0xFFFFF

/-- The host term of R79. -/
def State.hostTerm (s : State) : Nat :=
  let dec (v : BitVec 13) : Nat := (v.toNat % 1024) * 2 ^ (5 * (v.toNat / 1024)) / 1000
  if s.hif.ltrEnable then min (dec s.hif.ltrSnoop) (dec s.hif.ltrNoSnoop) else 2

/-- The tolerance in force (R79). -/
def State.tolerance (s : State) : Nat := min (min s.hostTerm s.saggarTerm) s.pwr.floor.toNat

/-- Exit latency of a cone in microseconds (R71). -/
def coneLatency (c : Nat) : Nat := match c with | 0 => 0 | 1 => 2 | 2 => 40 | 3 => 3000 | _ => 60000

/-- The part stands in a cone the tolerance in force permits. -/
def coneAllowed (s : State) : Bool := decide (coneLatency s.pwr.cone.toNat ≤ s.tolerance) && !s.pwr.moving

/-- A term of the tolerance has changed: an exit starts where the cone is too deep for it (R80). In cone 4 a change of a
term is no wake source (R77). -/
def reevaluateCone (s : State) : State :=
  if s.pwr.cone.toNat ≤ 3 ∧ s.tolerance < coneLatency s.pwr.cone.toNat then startExit true s else s

def specSagSetLatency : CmdSpec := { opcode := 0x0205, scope := .saggar, owner := true, lengthOk := (· = 4) }

/-- A command that lowers a term waits for the cone exit (R80). -/
def afterTerm (rq : Req) (lowers : Bool) (s : State) : CmdRes :=
  if lowers && !coneAllowed s then .wait { rq, effected := true, work := [.cone] } s else .done stOk 0 [] s

def bodySagSetLatency (rq : Req) (s : State) : CmdRes :=
  let v := rq.field 0 4
  let g := s.saggar (rqSag rq)
  if 0xFFFFF < v then failWith stNotPermitted s
  else afterTerm rq (decide (v < g.tolerance.toNat)) (s.setSaggar (rqSag rq) { g with tolerance := BitVec.ofNat 20 v })

def execSagSetLatency (rq : Req) (s : State) : Answer := .next (runCommand specSagSetLatency rq (bodySagSetLatency rq) s)

def specSagQuery : CmdSpec := { opcode := 0x0204, scope := .saggar, phys := true, owner := true, lengthOk := (· = 0) }

def bodySagQuery (rq : Req) (s : State) : CmdRes :=
  let h := rqSag rq
  let g := s.saggar h
  let own (x : BitVec 12) : Bool := decide (x.toNat = h)
  .done stOk 0 (leBytes 2 g.owner.toNat ++ leBytes 2 g.weight.toNat ++ leBytes 4 g.quota.toNat ++ leBytes 8 g.policy.toNat ++
    leBytes 4 g.tolerance.toNat ++
    leBytes 2 (mapCount (fun _ q => decide (q.bound = some (BitVec.ofNat 12 h))) s.hif.qps) ++ leBytes 2 0 ++
    leBytes 4 (mapCount (fun _ x => x.live && own x.saggar) s.vault.sessions) ++
    leBytes 4 (mapCount (fun _ k => k.live && own k.saggar) s.vault.keys) ++
    leBytes 4 (mapCount (fun _ x => x.live && own x.saggar && decide (x.state ≠ 0x100)) s.vault.shakes) ++
    leBytes 4 (4096 * mapGet 0 s.lanes.facet h) ++
    [if g.destroying then 2 else if s.saggarActive h then 0 else 1] ++ leBytes 7 0) s

def execSagQuery (rq : Req) (s : State) : Answer := .next (runCommand specSagQuery rq (bodySagQuery rq) s)

/-! ### SAG_BIND_QUEUE (R355) -/

def specSagBindQueue : CmdSpec := { opcode := 0x0203, scope := .saggar, phys := true, lengthOk := (· = 4) }

/-- Commands and descriptors of a queue pair in progress. -/
def queueWork (q : Nat) (s : State) : List Nat :=
  (s.tasks.filter fun e => match e.2.rq.route with | .queue p _ => decide (p.toNat = q) | _ => false).map (·.1)

def bodySagBindQueue (rq : Req) (s : State) : CmdRes :=
  let q := rq.field 0 2
  let x := s.qp q
  let h : BitVec 12 := rq.saggar.setWidth 12
  if 4095 < q ∨ 1 < rq.field 2 1 ∨ !rq.rsvd 3 1 then failWith stNotPermitted s
  else if rq.field 2 1 = 0 then
    (if x.assigned ∧ x.owner = (s.saggar (rqSag rq)).owner ∧ x.bound.isNone then
      .done stOk 0 [] (reevaluateCone (s.setQp q { x with bound := some h }))
     else failWith stNotPermitted s)
  else if x.bound ≠ some h then failWith stNotPermitted s
  else
    let s := (List.range x.reserved).foldl (fun s _ => releaseReservation s) (s.setQp q { x with bound := none, reserved := 0 })
    let held := queueWork q s
    if held = [] ∧ x.fetched = [] then .done stOk 0 [] (settleCurrent s)
    else .wait { rq, effected := true, work := [.drain held] } (settleCurrent s)

def execSagBindQueue (rq : Req) (s : State) : Answer := .next (runCommand specSagBindQueue rq (bodySagBindQueue rq) s)

/-! ### SAG_DESTROY (R356) -/

def specSagDestroy : CmdSpec := { opcode := 0x0201, scope := .saggar, phys := true, lengthOk := (· = 0) }

def bodySagDestroy (rq : Req) (s : State) : CmdRes :=
  .wait { rq, work := [.draw 12, .logPage] } s

/-- A key goes at once, or after the jobs that hold it (R185). -/
def retireTraffic (k : Nat) (s : State) : State :=
  if keyHeld s k then s.setKey k { s.key k with destroying := true } else destroyKey k s

/-- A live session uses a key. -/
def keyInSession (k : Nat) (s : State) : Bool := s.vault.sessions.any fun e => e.2.live && decide (e.2.key = keyHandle s k)

/-- A handshake ends: its handle dies, and its reserved entries go with the traffic keys that no session uses (R305, R306,
R316). The sessions that remain keep their keys (R419, log entry 129). -/
def dropShake (i : Nat) (s : State) : State :=
  let s := (s.vault.keys.filter fun e => decide (e.2.conn = some i)).foldl (fun s e =>
    if keyInSession e.1 s then s.setKey e.1 { s.key e.1 with conn := none } else retireTraffic e.1 s) s
  let sessions := mapAll {} (fun _ x => if x.conn = some i then { x with conn := none } else x) s.vault.sessions
  { s with vault := { s.vault with
      shakes := mapDel s.vault.shakes i, hsGens := mapMod 0 s.vault.hsGens i (· + 1), sessions } }

/-- Traffic keys whose last job has ended go, and free the spare entry of their connection (R319). -/
def reapTraffic (s : State) : State :=
  (s.vault.keys.filter fun e => e.2.destroying && e.2.traffic && !keyHeld s e.1).foldl (fun s e =>
    let s := destroyKey e.1 s
    { s with vault := { s.vault with shakes := mapAll {} (fun _ x =>
        if x.oldKey = some e.1 then { x with oldKey := none } else x) s.vault.shakes } }) s

/-- A session ends; a traffic key whose connection is gone ends with it. -/
def dropSession (i : Nat) (s : State) : State :=
  let h := (s.session i).key
  let k := handleIndex h
  let s := discardSession i s
  let s := { s with vault := { s.vault with sessions := mapDel s.vault.sessions i, sesGens := mapMod 0 s.vault.sesGens i (· + 1) } }
  if h ≠ 0 ∧ (s.key k).live ∧ (s.key k).traffic ∧ (s.key k).conn.isNone ∧ keyHandle s k = h then retireTraffic k s else s

/-- A service module leaves the table; its handle dies (R590). -/
def dropModule (i : Nat) (s : State) : State :=
  { s with vault := { s.vault with
      modules := mapDel s.vault.modules i, modGens := mapMod 0 s.vault.modGens i (· + 1) } }

/-- Everything a saggar held goes: leases, handshakes, sessions, keys, bindings, staging, its root (R356). -/
def scrubSaggar (h : Nat) (s : State) : State :=
  let own (x : BitVec 12) : Bool := decide (x.toNat = h)
  let s := (s.vault.leases.filter fun e => own e.2.saggar).foldl (fun s e =>
    endLease e.1 false (chargeLease e.1 (leaseCycles e.1 s) s)) s
  let s := (s.vault.shakes.filter fun e => own e.2.saggar).foldl (fun s e => dropShake e.1 s) s
  let s := (s.vault.sessions.filter fun e => own e.2.saggar).foldl (fun s e => dropSession e.1 s) s
  let s := (s.vault.keys.filter fun e => own e.2.saggar).foldl (fun s e => destroyKey e.1 s) s
  let s := { s with hif := { s.hif with qps := mapAll {} (fun _ q =>
    if q.bound = some (BitVec.ofNat 12 h) then { q with bound := none } else q) s.hif.qps } }
  let s := (s.vault.modules.filter fun e => decide (e.2.saggar.toNat = h)).foldl (fun s e => dropModule e.1 s) s
  s.setSaggar h { ended := true, spent := true, created := (s.saggar h).created }

/-- The tombstone is programmed: the saggar is absent for every later command; it drains (R185, R356). -/
def finishSagDestroy (t : Task) (s : State) : CmdRes :=
  let h := rqSag t.rq
  if t.phase = 0 then
    let s := appendLog (fun n =>
      { type := 3, saggar := BitVec.ofNat 12 h, seq := n, minute := s.minute, owner := 0, weight := 0, quota := 0, policy := 0
        root := [], seed := s.bk.seed, nonce := t.drawn.take 12 }) s
    let s := s.setSaggar h { s.saggar h with destroying := true }
    let own (j : Job) : Bool := decide (j.saggar.toNat = h) && !j.overhead
    let s := refuseWaiting own stBadHandle s
    let held := holders own s
    if held = [] then .done stOk 0 [] (scrubSaggar h s)
    else .wait { t with phase := 1, effected := true, work := [.drain held] } s
  else .done stOk 0 [] (scrubSaggar h s)

def execSagDestroy (rq : Req) (s : State) : Answer := .next (runCommand specSagDestroy rq (bodySagDestroy rq) s)

/-- SETTINGS_RECORD_WRITE: the settings record of a saggar is written where a change waits for it, with a nonce drawn for it
as overhead (R329, R332). -/
def execSettingsRecordWrite (h : BitVec 12) (s : State) : Answer :=
  let g := s.saggar h.toNat
  .next (if g.live && g.unsaved && decide (s.bk.lock = 0) && (drawStatus s).isNone then
    let s := writeLog (fun n =>
      { type := 2, saggar := h, seq := n, minute := s.minute, owner := 0, weight := g.weight, quota := g.quota
        policy := g.policy, root := [], seed := s.bk.seed }) s
    s.setSaggar h.toNat { g with unsaved := false }
  else s)

/-- LOG_RECLAIM: the oldest sector of the log is reclaimed (R331): records that still decide or apply are written anew at
the head, each with a nonce drawn for it (R329), and the erase of the sector follows; events 250 at start and end. While entropy is
withheld, a reclaim that has a record to write waits. -/
def execLogReclaim (s : State) : Answer :=
  let old := s.vault.log.take 16
  let live (r : LogRecord) : Bool :=
    decide (r.seed = s.bk.seed) &&
      (if r.type = 2 then
        !(s.vault.log.any fun q => decide (q.saggar = r.saggar) && decide (r.seq < q.seq))
      else !(s.vault.log.any fun q => decide (q.type ≠ 2) && decide (q.saggar = r.saggar) && decide (r.seq < q.seq)))
  if (drawStatus s).isSome ∧ old.any live then .next s
  else
  let s := raiseEvent 250 (detail [(2, s.vault.logErased)]) s
  let sector := (s.flash.logHead - s.vault.log.length) % 16384 / 16
  let s := (old.filter live).foldl (fun s r => writeLog (fun n => { r with seq := n }) s) s
  let s := flashBegin { erase := true, addr := 0x900000 + sector * 4096 } s
  let log := s.vault.log.drop old.length
  let s := { s with vault := { s.vault with log, logErased := 1024 - (log.length + 15) / 16 } }
  .next (raiseEvent 250 (detail [(2, s.vault.logErased)]) s)

end Sys2Proof.Machine
end

