-- ==== Sys2Proof/Machine/CmdSes.lean ====
section
/-! DEFINITION. The session commands (R193, R235, R251-R254, R352). -/

namespace Sys2Proof.Machine

/-! ### SES_OPEN (R235) -/

def specSesOpen : CmdSpec :=
  { opcode := 0x0400, queue := true, scope := .saggar, owner := true, rings := 0xE, lengthOk := (· = 32)
    lockRefused := fun _ => true }

/-- A key is of the class and length of a session's algorithm (R235). -/
def keyServes (alg : Nat) (k : Key) : Bool :=
  if k.isPublic then false
  else match keyClass k.alg.toNat k.bits.toNat with
  | some (.aes n) =>
    if alg = 1 then decide (n = 16) else if alg = 2 then decide (n = 32) else decide (alg = 5)
  | some .chacha => decide (alg = 3)
  | some .xts => decide (alg = 4)
  | some .hmac => decide (alg = 6) || decide (alg = 7)
  | _ => false

/-- The policy permits sessions of an algorithm and direction (R340). -/
def policyServes (alg : Nat) (decrypt : Bool) (k : Key) : Bool :=
  if isMac alg then k.policy.getLsbD 2 else if decrypt then k.policy.getLsbD 1 else k.policy.getLsbD 0

/-- A session enters the table under a free index. -/
def createSession (x : Session) (s : State) : Option (Nat × State) :=
  let start := (s.free 23).toNat
  let s := s.used 1
  let taken (i : Nat) : Bool := (s.session i).live || decide (255 < mapGet 0 s.vault.sesGens i)
  match freeIndex sessionRange (s.vault.sessions.length + s.vault.sesGens.length + 1) start taken with
  | none => none
  | some i => some (i, s.setSession i { x with live := true })

def bodySesOpen (rq : Req) (s : State) : CmdRes :=
  let alg := rq.field 8 2
  let tag := rq.field 12 1
  let h := Req64 rq 0
  let key := if isHash alg then some none else (findKey rq h false s).map some
  match key with
  | none => failWith stBadHandle s
  | some ki =>
    let decrypt := decide (rq.field 10 1 = 1)
    let tagOk := if alg = 3 then decide (tag = 16) else if alg = 1 ∨ alg = 2 ∨ alg = 5 then decide (12 ≤ tag) && decide (tag ≤ 16) else true
    if (isHash alg && (decide (h ≠ 0) || decrypt)) || (laneAlg alg 32).isNone || decide (1 < rq.field 10 1) || !tagOk ||
        !(rq.rsvd 11 1 && rq.rsvd 13 3 && rq.rsvd 28 4) then failWith stNotPermitted s
    else
      let bad := match ki with
        | some i => !(keyServes alg (s.key i) && policyServes alg decrypt (s.key i)) || (s.key i).traffic
        | none => false
      let retired := match ki with | some i => (s.key i).retired | none => false
      if (respFits rq 8).isSome then failWith stBadLength s
      else if bad then failWith stNotPermitted s
      else if retired then failWith stKeyRetired s
      else if sessionRange ≤ mapCount (fun _ x => x.live) s.vault.sessions then failWith stLimit s
      else match createSession { saggar := rq.saggar.setWidth 12, key := if isHash alg then 0 else h, alg := BitVec.ofNat 16 alg, decrypt
                                 tagLen := BitVec.ofNat 8 tag, nonce := rq.bytes 16 12 } s with
      | some (i, s) => .done stOk 0 (leBytes 8 (sessionHandle s i).toNat) (reevaluateCone s)
      | none => failWith stLimit s

def execSesOpen (rq : Req) (s : State) : Answer := .next (runCommand specSesOpen rq (bodySesOpen rq) s)

/-! ### SES_CLOSE -/

def specSesClose : CmdSpec :=
  { opcode := 0x0401, queue := true, scope := .saggar, owner := true, rings := 0xE, lengthOk := (· = 8) }

/-- A session of a connection closes; with its second one the connection's handle dies (R305). -/
def closeSession (i : Nat) (s : State) : State :=
  let x := s.session i
  let s := dropSession i s
  match x.conn with
  | none => s
  | some c =>
    let y := s.shake c
    if y.live ∧ !(s.vault.sessions.any fun e => e.2.live && decide (e.2.conn = some c)) then dropShake c s else s

def finishSesClose (t : Task) (s : State) : CmdRes :=
  match t.note with
  | [i] =>
    let x := s.session i
    .done stOk 0 (leBytes 8 x.messages.toNat ++ leBytes 8 x.bytes.toNat) (closeSession i s)
  | _ => failWith stInternal s

def bodySesClose (rq : Req) (s : State) : CmdRes :=
  match findSession (rq.saggar.setWidth 12) (Req64 rq 0) s with
  | none => failWith stBadHandle s
  | some i =>
    if (respFits rq 16).isSome then failWith stBadLength s
    else
    let s := s.setSession i { s.session i with destroying := true }
    let uses (j : Job) : Bool := decide (j.session = some i)
    let s := refuseWaiting uses stBadHandle s
    let held := holders uses s
    if held = [] then finishSesClose { rq, note := [i] } s
    else .wait { rq, effected := true, work := [.drain held], note := [i] } s

def execSesClose (rq : Req) (s : State) : Answer := .next (runCommand specSesClose rq (bodySesClose rq) s)

/-! ### Contexts (R251-R254) -/

def specSesSaveContext : CmdSpec :=
  { opcode := 0x0402, queue := true, scope := .saggar, owner := true, rings := 0x2, lengthOk := (· = 16)
    lockRefused := fun rq => decide (rq.field 8 1 = 1) }

/-- The length of the state area of an algorithm (R252). -/
def stateAreaLen (alg : Nat) : Nat :=
  match alg with | 1 | 2 => 56 | 3 => 64 | 4 => 8 | 5 => 40 | 6 | 8 => 104 | 7 | 9 | 10 => 208 | _ => 208

/-- The clear context of a session (R252). -/
def clearContext (x : Session) : List Byte :=
  let a := x.alg.toNat
  let m : Msg := match x.cur with | some i => mapGet {} x.msgs i | none => {}
  let hi := leBytes 8 (x.high.getD 0).toNat
  let area :=
    if isAead a then hi ++ leBytes 8 m.seq.toNat ++ leBytes 8 m.aad ++ leBytes 8 m.text ++
      leBytes 4 (if x.cur.isSome then Config.standardNat 20 [leBytes 2 a, leBytes 8 m.text] else 0) ++ leBytes 4 0 ++ m.chain
    else if a = 4 then hi
    else if a = 7 ∨ a = 9 ∨ a = 10 then leBytes 16 m.text ++ m.chain
    else leBytes 8 m.text ++ m.chain
  leBytes 2 1 ++ leBytes 2 a ++ [if x.decrypt then 1 else 0, if x.cur.isSome then 1 else 0] ++
    leBytes 1 (stateAreaLen a) ++ leBytes 1 x.tagLen.toNat ++ leBytes 8 x.key.toNat ++ padTo (stateAreaLen a) area

/-- A wrapped context (R253). -/
def wrapContext (h : Nat) (x : Session) (nonce : List Byte) (s : State) : List Byte :=
  let c := clearContext x
  let head := leBytes 2 2 ++ leBytes 2 c.length
  head ++ padTo 12 nonce ++
    stdGcmEnc (saggarSubkey h "context" s) nonce (head ++ leBytes 2 h ++ leBytes 8 x.key.toNat) c

/-- A session of a request whose key still exists (R352). -/
def usableSession (rq : Req) (s : State) : Option Nat :=
  match findSession (rq.saggar.setWidth 12) (Req64 rq 0) s with
  | some i => if (s.session i).key = 0 ∨ (sessionKey (s.session i) s).isSome then some i else none
  | none => none

def bodySesSaveContext (rq : Req) (s : State) : CmdRes :=
  match usableSession rq s with
  | none => failWith stBadHandle s
  | some i =>
    let x := s.session i
    let form := rq.field 8 1
    let len := 16 + stateAreaLen x.alg.toNat
    if 1 < form ∨ !rq.rsvd 9 7 then failWith stNotPermitted s
    else match respFits rq (8 + len + (if form = 1 then 32 else 0)) with
    | some st => failWith st s
    | none =>
      if (form = 0 ∧ !(s.saggar (rqSag rq)).policy.getLsbD 0) ∨ (x.decrypt ∧ isAead x.alg.toNat ∧ x.cur.isSome) then
        failWith stNotPermitted s
      else if form = 0 then .done stOk 0 (leBytes 4 len ++ leBytes 4 0 ++ clearContext x) s
      else if s.ent.state = 3 then failWith stEntropyWithheld s
      else .wait { rq, work := [.draw 12], note := [i] } s

def finishSesSaveContext (t : Task) (s : State) : CmdRes :=
  match t.note with
  | [i] =>
    if !(s.session i).live then failWith stBadHandle s
    else
      let c := wrapContext (rqSag t.rq) (s.session i) t.drawn s
      .done stOk 0 (leBytes 4 c.length ++ leBytes 4 0 ++ c) s
  | _ => failWith stInternal s

def execSesSaveContext (rq : Req) (s : State) : Answer := .next (runCommand specSesSaveContext rq (bodySesSaveContext rq) s)

def specSesRestoreContext : CmdSpec :=
  { opcode := 0x0403, queue := true, scope := .saggar, owner := true, rings := 0x2
    lengthOk := fun n => decide (16 ≤ n) && decide (n ≤ 272), lockRefused := fun _ => true }

/-- A clear context agrees with a session (R254). -/
def contextFits (x : Session) (c : List Byte) : Bool :=
  let a := x.alg.toNat
  decide (leField c 0 2 = 1) && decide (leField c 2 2 = a) && decide (leField c 4 1 = (if x.decrypt then 1 else 0)) &&
    decide (leField c 5 1 ≤ 1) && decide (leField c 6 1 = stateAreaLen a) && decide (leField c 7 1 = x.tagLen.toNat) &&
    decide (leField c 8 8 = x.key.toNat) && decide (c.length = 16 + stateAreaLen a) &&
    !(x.decrypt && isAead a && decide (leField c 5 1 = 1))

/-- The session after it takes a context: its own high-water mark never falls (R254). -/
def takeContext (x : Session) (c : List Byte) : Session :=
  let a := x.alg.toNat
  let area := c.drop 16
  let counted := isAead a || decide (a = 4)
  let hi := BitVec.ofNat 64 (leField area 0 8)
  let live := decide (leField c 5 1 = 1)
  let high := if !counted ∨ (hi = 0 ∧ !live) then x.high
    else some (match x.high with | some v => if v.toNat < hi.toNat then hi else v | none => hi)
  if !live then { x with high }
  else
    let m : Msg :=
      if isAead a then { seq := BitVec.ofNat 64 (leField area 8 8), aad := leField area 16 8, text := leField area 24 8
                         chain := area.drop 40 }
      else if a = 7 ∨ a = 9 ∨ a = 10 then { text := leField area 0 16, chain := area.drop 16 }
      else { text := leField area 0 8, chain := area.drop 8 }
    { x with high, msgs := mapPut x.msgs x.msgIds m, cur := some x.msgIds, msgIds := x.msgIds + 1 }

def bodySesRestoreContext (rq : Req) (s : State) : CmdRes :=
  let ctx := rq.payload.drop 16
  let form := rq.field 8 1
  let h := rqSag rq
  if rq.field 12 4 ≠ ctx.length then failWith stBadLength s
  else match usableSession rq s with
  | none => failWith stBadHandle s
  | some i =>
    let x := s.session i
    if 1 < form ∨ !rq.rsvd 9 3 then failWith stNotPermitted s
    else if (form = 0 ∧ !(s.saggar h).policy.getLsbD 0) ∨ x.cur.isSome then failWith stNotPermitted s
    else if form = 0 then
      (if contextFits x ctx then .done stOk 0 [] (s.setSession i (takeContext x ctx)) else failWith stNotPermitted s)
    else
      let l := leField ctx 2 2
      let head := ctx.take 4
      let key := saggarSubkey h "context" s
      let nonce := sliceBytes ctx 4 12
      let aad := head ++ leBytes 2 h ++ leBytes 8 x.key.toNat
      if leField ctx 0 2 ≠ 2 ∨ ctx.length ≠ 32 + l then failWith stNotPermitted s
      else if !stdGcmOk key nonce aad (ctx.drop 16) then
        failWith stAuthFail (raiseEvent 255 (detail [(2, h), (2, 0x0403)]) s)
      else
        let c := stdGcmDec key nonce aad (ctx.drop 16)
        if contextFits x c then .done stOk 0 [] (s.setSession i (takeContext x c)) else failWith stNotPermitted s

def execSesRestoreContext (rq : Req) (s : State) : Answer :=
  .next (runCommand specSesRestoreContext rq (bodySesRestoreContext rq) s)

/-! ### SES_QUERY_USAGE -/

def specSesQueryUsage : CmdSpec :=
  { opcode := 0x0404, queue := true, scope := .saggar, owner := true, rings := 0xE, lengthOk := (· = 8) }

/-- Uses, limit and retirement of a session's key; where the key is gone, as its record last stood (R193, R352). -/
def sessionCounts (x : Session) (s : State) : Nat × Nat × Bool :=
  if x.key = 0 then (0, 0, false)
  else
    match handleOk 0x8A keyRange s.vault.keyGens s x.key with
    | some i =>
      let k := s.key i
      if k.live then (k.uses.toNat, k.limit.toNat, k.retired) else (x.keyUses.toNat, x.keyLimit.toNat, x.keyRetired)
    | none => (x.keyUses.toNat, x.keyLimit.toNat, x.keyRetired)

/-- The state SES_QUERY_USAGE reports (R193, R249, R456). -/
def sessionState (x : Session) (s : State) : Nat :=
  if x.frozen then 2 else if (sessionCounts x s).2.2 then 1 else 0

def bodySesQueryUsage (rq : Req) (s : State) : CmdRes :=
  match findSession (rq.saggar.setWidth 12) (Req64 rq 0) s with
  | none => failWith stBadHandle s
  | some i =>
    if (respFits rq 32).isSome then failWith stBadLength s
    else
    let x := s.session i
    let c := sessionCounts x s
    .done stOk 0 (leBytes 8 c.1 ++ leBytes 8 c.2.1 ++ leBytes 8 x.bytes.toNat ++ leBytes 1 (sessionState x s) ++ leBytes 7 0) s

def execSesQueryUsage (rq : Req) (s : State) : Answer := .next (runCommand specSesQueryUsage rq (bodySesQueryUsage rq) s)

end Sys2Proof.Machine
end

