-- ==== Sys2Proof/Machine/Validate.lean ====
section
/-! DEFINITION. The inputs that an operation rejects (R275, R276): lengths, ranges and curve equations; what only decoding a
point or a hint can show is an external standard's function (log entry 6). -/

namespace Sys2Proof.Machine

/-- Field prime, coefficient b and order of a NIST curve (FIPS 186). -/
def curve (alg : Nat) : Nat × Nat × Nat :=
  match alg with
  | 0x101 => (2 ^ 256 - 2 ^ 224 + 2 ^ 192 + 2 ^ 96 - 1,
      0x5AC635D8AA3A93E7B3EBBD55769886BC651D06B0CC53B0F63BCE3C3E27D2604B,
      0xFFFFFFFF00000000FFFFFFFFFFFFFFFFBCE6FAADA7179E84F3B9CAC2FC632551)
  | 0x102 => (2 ^ 384 - 2 ^ 128 - 2 ^ 96 + 2 ^ 32 - 1,
      0xB3312FA7E23EE7E4988E056BE3F82D19181D9C6EFE8141120314088F5013875AC656398D8A2ED19D2A85C8EDD3EC2AEF,
      0xFFFFFFFFFFFFFFFFFFFFFFFFFFFFFFFFFFFFFFFFFFFFFFFFC7634D81F4372DDF581A0DB248B0A77AECEC196ACCC52973)
  | _ => (2 ^ 521 - 1,
      0x0051953EB9618E1C9A1F929A21A0B68540EEA2DA725B99B315F3B8B489918EF109E156193951EC7E937B1652C0BD3BB1BF073573DF883D2C34F1EF451FD46B503F00,
      2 ^ 521 - 0x5AE79787C40D069948033FEB708F65A2FC44A36477663B851449048E16EC79BF7)

/-- Bytes of a field element. -/
def fieldBytes (alg : Nat) : Nat := match alg with | 0x101 => 32 | 0x102 => 48 | _ => 66

/-- An uncompressed SEC1 point of the right length on the curve, with coordinates below the prime. -/
def pointOk (alg : Nat) (pub : List Byte) : Bool :=
  let f := fieldBytes alg
  let c := curve alg
  let x := beNat ((pub.drop 1).take f)
  let y := beNat ((pub.drop (1 + f)).take f)
  decide (pub.length = 1 + 2 * f) && decide (pub.head? = some 4) && decide (x < c.1) && decide (y < c.1) &&
    decide ((y * y + 3 * x) % c.1 = (x * x * x + c.2.1) % c.1)

/-- r and s of an ECDSA signature lie from 1 to n - 1. -/
def ecdsaOk (alg : Nat) (sig : List Byte) : Bool :=
  let f := fieldBytes alg
  let n := (curve alg).2.2
  let r := beNat (sig.take f)
  let t := beNat ((sig.drop f).take f)
  decide (sig.length = 2 * f) && decide (0 < r) && decide (r < n) && decide (0 < t) && decide (t < n)

/-- A peer u-coordinate of X25519 or X448: X25519 clears its top bit; not 0 and below the prime. -/
def montgomeryOk (alg : Nat) (pub : List Byte) : Bool :=
  if alg = 0x104 then
    (let u := leNat pub % 2 ^ 255
     decide (pub.length = 32) && decide (0 < u) && decide (u < 2 ^ 255 - 19))
  else
    (let u := leNat pub
     decide (pub.length = 56) && decide (0 < u) && decide (u < 2 ^ 448 - 2 ^ 224 - 1))

/-- The encoded y of an EdDSA point is below the prime, and it has a square root (RFC 8032). -/
def edPointOk (alg : Nat) (enc : List Byte) : Bool :=
  let n := if alg = 0x106 then 32 else 57
  let p := if alg = 0x106 then 2 ^ 255 - 19 else 2 ^ 448 - 2 ^ 224 - 1
  let y := leNat enc % (if alg = 0x106 then 2 ^ 255 else 2 ^ 455)
  decide (enc.length = n) && decide (y < p) && stdWellFormed 1 alg [enc]

/-- An EdDSA signature and public key that decode: A, R and S below the group order. -/
def eddsaOk (alg : Nat) (pub sig : List Byte) : Bool :=
  let n := if alg = 0x106 then 32 else 57
  let order := if alg = 0x106 then 2 ^ 252 + 27742317777372353535851937790883648493
    else 2 ^ 446 - 13818066809895115352007386748515426880336692474882178609894547503885
  decide (sig.length = 2 * n) && edPointOk alg pub && edPointOk alg (sig.take n) && decide (leNat (sig.drop n) < order)

/-- An RSA public key of R275: e, then a modulus of an admitted length, odd, with a non-zero top byte. -/
def rsaKeyOk (pub : List Byte) : Bool :=
  let e := beNat (pub.take 4)
  let n := pub.drop 4
  let bits := 8 * n.length
  decide (1024 ≤ bits) && decide (bits ≤ 8192) && decide (bits % 128 = 0) && decide (n.head? ≠ some 0) &&
    decide (beNat n % 2 = 1) && decide (e % 2 = 1) && decide (3 ≤ e)

/-- An RSA signature is neither 0 nor at or above the modulus. -/
def rsaSigOk (pub sig : List Byte) : Bool :=
  decide (sig.length = pub.length - 4) && decide (0 < beNat sig) && decide (beNat sig < beNat (pub.drop 4))

/-- The modulus check of FIPS 203: the right length, and every 12-bit coefficient below 3,329. -/
def mlkemOk (alg : Nat) (pub : List Byte) : Bool :=
  let n := publicLen alg 0
  let t := pub.take (n - 32)
  decide (pub.length = n) && (List.range (t.length / 3)).all fun i =>
    let v := leField t (3 * i) 3
    decide (v % 4096 < 3329) && decide (v / 4096 < 3329)

/-- ML-DSA lengths, and a well-formed hint encoding. -/
def mldsaOk (alg : Nat) (pub sig : List Byte) : Bool :=
  decide (pub.length = publicLen alg 0) && decide (sig.length = signatureLen alg 0) && stdWellFormed 2 alg [sig]

/-- The inputs of a verification are well formed (R276): a digest has its hash's length. -/
def verifyInputOk (alg hashLen : Nat) (digest : Bool) (pub sig input : List Byte) : Bool :=
  if alg = 0x101 ∨ alg = 0x102 ∨ alg = 0x103 then
    pointOk alg pub && ecdsaOk alg sig && (!digest || decide (input.length = hashLen))
  else if alg = 0x106 ∨ alg = 0x107 then eddsaOk alg pub sig
  else if alg = 0x110 then rsaKeyOk pub && rsaSigOk pub sig && (!digest || decide (input.length = hashLen))
  else mldsaOk alg pub sig

/-- The peer key of an agreement is well formed. -/
def agreeInputOk (alg : Nat) (peer : List Byte) : Bool :=
  if alg = 0x104 ∨ alg = 0x105 then montgomeryOk alg peer else pointOk alg peer

end Sys2Proof.Machine
end

