-- ==== Sys2Proof/Machine/CmdPk.lean ====
section
/-! DEFINITION. The public-key commands and the raw leases (R194, R195, R273-R281, R287-R293). -/

namespace Sys2Proof.Machine

/-- Length of a digest of the hash algorithm field, and its lane algorithm. -/
def hashLen (h : Nat) : Nat := match h with | 0 => 32 | 1 => 48 | _ => 64
def hashAlg (h : Nat) : BitVec 16 := match h with | 0 => 8 | 1 => 9 | _ => 10

def isEc (alg : Nat) : Bool := decide (0x101 ≤ alg) && decide (alg ≤ 0x103)
def isEd (alg : Nat) : Bool := decide (alg = 0x106) || decide (alg = 0x107)
def isMlDsa (alg : Nat) : Bool := decide (0x128 ≤ alg) && decide (alg ≤ 0x12A)
def isMlKem (alg : Nat) : Bool := decide (0x120 ≤ alg) && decide (alg ≤ 0x122)
/-- The hash algorithm field of a request; EdDSA ignores it (R274). -/
def hashField (rq : Req) (off alg : Nat) : Nat := if isEd alg then 0 else rq.field off 1

def canSign (alg : Nat) : Bool := isEc alg || isEd alg || isMlDsa alg || decide (alg = 0x110)
def canAgree (alg : Nat) : Bool := isEc alg || decide (alg = 0x104) || decide (alg = 0x105)

/-- Lane jobs that a signature or a verification runs before its operation (R274). -/
def signHashes (alg hash : Nat) (digest verify : Bool) (len : Nat) : List Work :=
  if isEd alg then
    let n := if alg = 0x106 then 32 else 57
    let a : BitVec 16 := if alg = 0x106 then 10 else 12
    if verify then [.hash a (2 * n + len) none] else [.hash a (n + len) none, .hash a (2 * n + len) none]
  else if digest then []
  else if isMlDsa alg then [.hash 12 (66 + len) none]
  else [.hash (hashAlg hash) len none]

/-- Options of a signature scheme: flag bit 8 selects PSS. -/
def pssFlag (rq : Req) : Nat := if rq.flags.getLsbD 8 then 1 else 0

/-! ### PK_SIGN -/

def specPkSign : CmdSpec :=
  { opcode := 0x0500, queue := true, scope := .saggar, owner := true, rings := 0xE, flagMask := 0x100
    lengthOk := (16 ≤ ·), lockRefused := fun _ => true }

/-- The input of a signature is rejected by its length (R276). -/
def signRejects (alg hash : Nat) (digest : Bool) (input : List Byte) : Bool :=
  digest && (isEc alg || decide (alg = 0x110)) && decide (input.length ≠ hashLen hash)

def bodyPkSign (rq : Req) (s : State) : CmdRes :=
  let digest := decide (rq.field 8 1 = 0)
  if rq.payload.length ≠ 16 + rq.field 12 4 then failWith stBadLength s
  else match findKey rq (Req64 rq 0) false s with
  | none => failWith stBadHandle s
  | some i =>
    let k := s.key i
    let alg := k.alg.toNat
    let hash := hashField rq 9 alg
    if 1 < rq.field 8 1 ∨ 2 < hash ∨ !rq.rsvd 10 2 ∨ !canSign alg ∨ (isEd alg ∧ digest) ∨
        (rq.flags.getLsbD 8 ∧ alg ≠ 0x110) then failWith stNotPermitted s
    else match respFits rq (8 + signatureLen alg k.bits.toNat) with
    | some st => failWith st s
    | none =>
      let draw := opDraw alg opSign (if rq.flags.getLsbD 8 then hashLen hash else 0)
      if !k.policy.getLsbD 3 ∨ k.isPublic then failWith stNotPermitted s
      else if k.retired then failWith stKeyRetired s
      else match (if draw = 0 then none else drawStatus s) with
      | some st => failWith st s
      | none =>
        .wait { rq, note := [i, alg, k.bits.toNat], store := k.material
                work := .draw draw :: signHashes alg hash digest false (rq.field 12 4) ++
                  [.op k.alg opSign (opWords alg k.bits.toNat) (some i) false] } s

def finishPkSign (t : Task) (s : State) : CmdRes :=
  let rq := t.rq
  let digest := decide (rq.field 8 1 = 0)
  let input := rq.payload.drop 16
  match t.note with
  | [_, alg, bits] =>
    let hash := hashField rq 9 alg
    if signRejects alg hash digest input then failWith stReject s
    else
      let sig := stdSign alg (signatureLen alg bits) hash (pssFlag rq + (if digest then 2 else 0)) t.store t.drawn input
      .done stOk 0 (leBytes 4 sig.length ++ leBytes 4 0 ++ sig) s
  | _ => failWith stInternal s

def execPkSign (rq : Req) (s : State) : Answer := .next (runCommand specPkSign rq (bodyPkSign rq) s)

/-! ### PK_VERIFY -/

def specPkVerify : CmdSpec :=
  { opcode := 0x0501, queue := true, scope := .saggar, owner := true, rings := 0xE, flagMask := 0x100
    lengthOk := (24 ≤ ·), lockRefused := fun rq => decide (rq.field 0 8 ≠ 0) }

/-- Key bits that an inline public key stands for. -/
def inlineBits (alg pubLen : Nat) : Nat := if alg = 0x110 then (pubLen - 4) * 8 else 0

def bodyPkVerify (rq : Req) (s : State) : CmdRes :=
  let alg := rq.field 8 2
  let hash := hashField rq 11 alg
  let digest := decide (rq.field 10 1 = 0)
  let inLen := rq.field 12 4
  let pubLen := rq.field 20 4
  let h := Req64 rq 0
  if rq.payload.length ≠ 24 + inLen + rq.field 16 4 + pubLen then failWith stBadLength s
  else match (if h = 0 then some none else (findKey rq h false s).map some) with
  | none => failWith stBadHandle s
  | some ki =>
    if 1 < rq.field 10 1 ∨ 2 < hash ∨ !canSign alg ∨ (isEd alg ∧ digest) ∨ (rq.flags.getLsbD 8 ∧ alg ≠ 0x110) then
      failWith stNotPermitted s
    else
      let ok := match ki with
        | some i => (s.key i).policy.getLsbD 4 && decide ((s.key i).alg.toNat = alg) && decide (pubLen = 0)
        | none => true
      let retired := match ki with | some i => (s.key i).retired | none => false
      if !ok then failWith stNotPermitted s
      else if retired then failWith stKeyRetired s
      else
        let bits := match ki with | some i => (s.key i).bits.toNat | none => inlineBits alg pubLen
        let pub := match ki with
          | some i => if (s.key i).isPublic then (s.key i).material else (s.key i).pubKey
          | none => rq.payload.drop (24 + inLen + rq.field 16 4)
        .wait { rq, note := [alg, bits], store := pub
                work := signHashes alg hash digest true inLen ++
                  [.op (BitVec.ofNat 16 alg) opVerify (opWords alg bits) ki false] } s

def finishPkVerify (t : Task) (s : State) : CmdRes :=
  let rq := t.rq
  let alg := rq.field 8 2
  let hash := hashField rq 11 alg
  let digest := decide (rq.field 10 1 = 0)
  let inLen := rq.field 12 4
  let input := (rq.payload.drop 24).take inLen
  let sig := (rq.payload.drop (24 + inLen)).take (rq.field 16 4)
  if !verifyInputOk alg (hashLen hash) digest t.store sig input then failWith stReject s
  else if stdVerify alg hash (pssFlag rq + (if digest then 2 else 0)) t.store sig input then .done stOk 0 [] s
  else failWith stAuthFail s

def execPkVerify (rq : Req) (s : State) : Answer := .next (runCommand specPkVerify rq (bodyPkVerify rq) s)

/-! ### PK_KEYPAIR -/

def specPkKeypair : CmdSpec :=
  { opcode := 0x0502, queue := true, scope := .saggar, owner := true, rings := 0xE, lengthOk := (· = 16)
    lockRefused := fun _ => true }

/-- Slots of ephemeral keys, of a saggar and over all (R338). -/
def ephemeralSlots (p : Key → Bool) (s : State) : Nat := s.hotUsed fun k => k.ephemeral && p k

def bodyPkKeypair (rq : Req) (s : State) : CmdRes :=
  let alg := rq.field 0 2
  let policy := Req64 rq 8
  let h := rqSag rq
  match generateBits alg (rq.field 2 2) with
  | none => failWith stNotPermitted s
  | some bits =>
    if !rq.rsvd 4 4 || !isPair alg || !policyBits policy then failWith stNotPermitted s
    else match respFits rq (16 + publicLen alg bits) with
    | some st => failWith st s
    | none =>
      match keyClass alg bits with
      | none => failWith stNotPermitted s
      | some c =>
        let n := (materialLen alg bits + 63) / 64
        let share := (s.saggar h).hotShare
        if !policyOk c false policy then failWith stNotPermitted s
        else if (share ≠ 0 ∧ share < ephemeralSlots (fun k => decide (k.saggar.toNat = h)) s + n) ∨
            32768 < ephemeralSlots (fun _ => true) s + n then failWith stLimit (refuseRoom h s)
        else match drawStatus s with
        | some st => failWith st s
        | none => .wait { rq, note := [alg, bits], work := makeWork alg bits } s

def finishPkKeypair (t : Task) (s : State) : CmdRes :=
  match t.note with
  | [alg, bits] =>
    let k := { newKey t.rq alg bits (Req64 t.rq 8) 0 t.drawn with ephemeral := true }
    (match createKey k s with
      | none => failWith stLimit (refuseRoom (rqSag t.rq) s)
      | some (i, s) =>
        .done stOk 0 (leBytes 8 (keyHandle s i).toNat ++ leBytes 4 k.pubKey.length ++ leBytes 4 0 ++ k.pubKey) s)
  | _ => failWith stInternal s

def execPkKeypair (rq : Req) (s : State) : Answer := .next (runCommand specPkKeypair rq (bodyPkKeypair rq) s)

/-! ### Secrets: PK_AGREE, PK_ENCAPS, PK_DECAPS (R341) -/

/-- A secret is installed as a KDF secret; which of the two KDF identifiers it carries is a free value. -/
def installSecret (rq : Req) (policy : BitVec 64) (secret : List Byte) (s : State) : Option (Nat × State) :=
  let alg : BitVec 16 := if (s.free 1).getLsbD 0 then 0x0202 else 0x0201
  let s := s.used 1
  let limit := (usageLimit (s.saggar (rqSag rq)) alg.toNat (8 * secret.length) 0).getD 0
  createKey { saggar := rq.saggar.setWidth 12, alg, bits := BitVec.ofNat 16 (8 * secret.length), material := secret, policy, limit } s

/-- Room and policy for a secret that is to be installed. -/
def secretCheck (rq : Req) (install : Bool) (policy : BitVec 64) (len : Nat) (s : State) : Option (Nat × State) :=
  if !install then none
  else if !policyOk .kdf false policy then some (stNotPermitted, s)
  else if !cacheRoom (rqSag rq) 1 ((len - 64 + 1023) / 1024) s then some (stLimit, refuseRoom (rqSag rq) s)
  else none

/-- An ephemeral key is destroyed by its first use in PK_AGREE or PK_DECAPS (R195). -/
def spendEphemeral (i : Nat) (s : State) : State := if (s.key i).live ∧ (s.key i).ephemeral then destroyKey i s else s

def specPkAgree : CmdSpec :=
  { opcode := 0x0503, queue := true, scope := .saggar, owner := true, rings := 0xE, lengthOk := (24 ≤ ·)
    lockRefused := fun _ => true }

def bodyPkAgree (rq : Req) (s : State) : CmdRes :=
  let install := decide (rq.field 12 1 = 1)
  if rq.payload.length ≠ 24 + rq.field 8 4 then failWith stBadLength s
  else match findKey rq (Req64 rq 0) false s with
  | none => failWith stBadHandle s
  | some i =>
    let k := s.key i
    let alg := k.alg.toNat
    if 1 < rq.field 12 1 ∨ !rq.rsvd 13 3 ∨ !canAgree alg ∨ (install && !policyBits (Req64 rq 16)) then failWith stNotPermitted s
    else match respFits rq (16 + (if install then 0 else secretLen alg)) with
    | some st => failWith st s
    | none =>
      if !k.policy.getLsbD 5 ∨ k.isPublic then failWith stNotPermitted s
      else match secretCheck rq install (Req64 rq 16) (secretLen alg) s with
      | some (st, s) => failWith st s
      | none =>
        if k.retired then failWith stKeyRetired s
        else .wait { rq, note := [i, alg], store := k.material
                     work := [.op k.alg opAgree (opWords alg k.bits.toNat) (some i) false] } s

/-- The response that returns or installs a secret. -/
def secretDone (rq : Req) (install : Bool) (policy : BitVec 64) (secret mid : List Byte) (hasCt : Bool) (s : State) : CmdRes :=
  let tail (h n : Nat) : List Byte :=
    leBytes 8 h ++ (if hasCt then leBytes 4 mid.length ++ leBytes 4 n else leBytes 4 n ++ leBytes 4 0) ++ mid
  if !install then .done stOk 0 (tail 0 secret.length ++ secret) s
  else match installSecret rq policy secret s with
  | none => failWith stLimit (refuseRoom (rqSag rq) s)
  | some (i, s) => .done stOk 0 (tail (keyHandle s i).toNat 0) s

def finishPkAgree (t : Task) (s : State) : CmdRes :=
  let rq := t.rq
  match t.note with
  | [i, alg] =>
    let peer := rq.payload.drop 24
    let s := spendEphemeral i s
    let secret := stdAgree alg (secretLen alg) t.store peer
    if !agreeInputOk alg peer ∨ ((alg = 0x104 ∨ alg = 0x105) ∧ allZero secret) then failWith stReject s
    else secretDone rq (decide (rq.field 12 1 = 1)) (Req64 rq 16) secret [] false s
  | _ => failWith stInternal s

def execPkAgree (rq : Req) (s : State) : Answer := .next (runCommand specPkAgree rq (bodyPkAgree rq) s)

def specPkEncaps : CmdSpec :=
  { opcode := 0x0504, queue := true, scope := .saggar, owner := true, rings := 0xE, lengthOk := (24 ≤ ·)
    lockRefused := fun rq => decide (rq.field 2 1 = 1) }

def bodyPkEncaps (rq : Req) (s : State) : CmdRes :=
  let alg := rq.field 0 2
  let install := decide (rq.field 2 1 = 1)
  if rq.payload.length ≠ 24 + rq.field 16 4 then failWith stBadLength s
  else if !isMlKem alg ∨ 1 < rq.field 2 1 ∨ !rq.rsvd 3 5 ∨ !rq.rsvd 20 4 ∨ (install && !policyBits (Req64 rq 8)) then failWith stNotPermitted s
  else match respFits rq (16 + ciphertextLen alg + (if install then 0 else 32)) with
  | some st => failWith st s
  | none =>
    match secretCheck rq install (Req64 rq 8) 32 s with
    | some (st, s) => failWith st s
    | none =>
      match drawStatus s with
      | some st => failWith st s
      | none => .wait { rq, work := [.draw 32, .op (BitVec.ofNat 16 alg) opEncaps (opWords alg 0) none false] } s

def finishPkEncaps (t : Task) (s : State) : CmdRes :=
  let rq := t.rq
  let alg := rq.field 0 2
  let pub := rq.payload.drop 24
  if !mlkemOk alg pub then failWith stReject s
  else
    let r := stdEncaps alg (ciphertextLen alg) pub t.drawn
    secretDone rq (decide (rq.field 2 1 = 1)) (Req64 rq 8) r.2 r.1 true s

def execPkEncaps (rq : Req) (s : State) : Answer := .next (runCommand specPkEncaps rq (bodyPkEncaps rq) s)

def specPkDecaps : CmdSpec :=
  { opcode := 0x0505, queue := true, scope := .saggar, owner := true, rings := 0xE, lengthOk := (32 ≤ ·)
    lockRefused := fun _ => true }

def bodyPkDecaps (rq : Req) (s : State) : CmdRes :=
  let install := decide (rq.field 8 1 = 1)
  if rq.payload.length ≠ 32 + rq.field 24 4 then failWith stBadLength s
  else match findKey rq (Req64 rq 0) false s with
  | none => failWith stBadHandle s
  | some i =>
    let k := s.key i
    let alg := k.alg.toNat
    if 1 < rq.field 8 1 ∨ !rq.rsvd 9 7 ∨ !rq.rsvd 28 4 ∨ !isMlKem alg ∨ (install && !policyBits (Req64 rq 16)) then failWith stNotPermitted s
    else match respFits rq (16 + (if install then 0 else 32)) with
    | some st => failWith st s
    | none =>
      if rq.field 24 4 ≠ ciphertextLen alg then failWith stBadLength s
      else if !k.policy.getLsbD 6 then failWith stNotPermitted s
      else match secretCheck rq install (Req64 rq 16) 32 s with
      | some (st, s) => failWith st s
      | none =>
        if k.retired then failWith stKeyRetired s
        else .wait { rq, note := [i, alg], store := k.material
                     work := [.op k.alg opDecaps (opWords alg 0) (some i) false] } s

def finishPkDecaps (t : Task) (s : State) : CmdRes :=
  let rq := t.rq
  match t.note with
  | [i, alg] =>
    secretDone rq (decide (rq.field 8 1 = 1)) (Req64 rq 16) (stdDecaps alg t.store (rq.payload.drop 32)) [] false
      (spendEphemeral i s)
  | _ => failWith stInternal s

def execPkDecaps (rq : Req) (s : State) : Answer := .next (runCommand specPkDecaps rq (bodyPkDecaps rq) s)

/-! ### Raw leases (R287, R291) -/

def specPkLeaseRaw : CmdSpec :=
  { opcode := 0x0506, scope := .saggar, owner := true, rings := 0x2, lengthOk := (· = 8) }

/-- The free crucibles of the raw pool. -/
def poolList (s : State) : List Nat := (List.range 160).filter (poolFree s)

/-- The lease is granted: each crucible takes its slot length, is wiped and holds a token (R287). -/
def grantLease (rq : Req) (s : State) : CmdRes :=
  let n := rq.field 0 1
  let cs := (poolList s).take n
  let len := BitVec.ofNat 8 (rq.field 1 1)
  let start := (s.free 8).toNat
  let s := s.used 1
  if cs.length < n then failWith stBusy s
  else match freeIndex 160 161 start (fun i => (s.lease i).live || decide (255 < mapGet 0 s.vault.leaseGens i)) with
  | none => failWith stLimit s
  | some i =>
    let s := cs.foldl (fun s c =>
      let s := s.setCrucible c { s.crucible c with slotLen := len, lease := some i, saggar := rq.saggar.setWidth 12
                                                   rawQueue := [], retain := 0, expired := false }
      issueReserved (reserveToken (wipe c 0 s))) s
    let s := s.setLease i { saggar := rq.saggar.setWidth 12, crucibles := cs, slotLen := len, handle := leaseHandle s i
                            limit := BitVec.ofNat 32 (rq.field 4 4), granted := s.pwr.aon, live := true }
    .done stOk 0 (leBytes 8 (leaseHandle s i).toNat ++ padTo 8 ((cs.map fun c => BitVec.ofNat 8 c) ++
      List.replicate (8 - cs.length) 0xFF)) s

def bodyPkLeaseRaw (rq : Req) (s : State) : CmdRes :=
  let n := rq.field 0 1
  let len := rq.field 1 1
  let limit := rq.field 4 4
  if n < 1 ∨ 8 < n ∨ len < 1 ∨ 128 < len ∨ !rq.rsvd 2 2 ∨ limit < 1 ∨ 1000000 < limit then failWith stNotPermitted s
  else if !(s.saggar (rqSag rq)).policy.getLsbD 3 then failWith stNotPermitted s
  else if (poolList s).length < n then failWith stBusy s
  else if s.tal.hold ∨ s.tokensFree < n then .wait { rq, work := [.lease n] } s
  else grantLease rq s

def finishPkLeaseRaw (t : Task) (s : State) : CmdRes := grantLease t.rq s

def execPkLeaseRaw (rq : Req) (s : State) : Answer := .next (runCommand specPkLeaseRaw rq (bodyPkLeaseRaw rq) s)

def specPkReleaseRaw : CmdSpec :=
  { opcode := 0x0507, scope := .saggar, owner := true, rings := 0x2, lengthOk := (· = 8) }

/-- The lease a handle names. -/
def findLease (sag : BitVec 12) (h : BitVec 64) (s : State) : Option Nat :=
  match handleOk 0x8D 160 s.vault.leaseGens s h with
  | some i => if (s.lease i).live ∧ (s.lease i).saggar = sag then some i else none
  | none => none

def bodyPkReleaseRaw (rq : Req) (s : State) : CmdRes :=
  match findLease (rq.saggar.setWidth 12) (Req64 rq 0) s with
  | none => failWith stBadHandle s
  | some i =>
    let c := leaseCycles i s
    .done stOk 0 (leBytes 8 (c / 1500)) (endLease i false (chargeLease i c (s.used 1)))

def execPkReleaseRaw (rq : Req) (s : State) : Answer := .next (runCommand specPkReleaseRaw rq (bodyPkReleaseRaw rq) s)

end Sys2Proof.Machine
end

