-- ==== Sys2Proof/Machine/Tls.lean ====
section
/-! DEFINITION. TLS as the handshake service reads it (R296-R304): records, handshake messages, hellos, suites, groups,
schemes. What RFC 8446 computes stays uninterpreted (log entry 6). -/

namespace Sys2Proof.Machine

/-! ### Suites, groups, schemes (R297-R299) -/

def suiteCode (i : Nat) : Nat := 0x1301 + i
def suiteAlg (i : Nat) : Nat := i + 1
def suiteKeyLen (i : Nat) : Nat := if i = 0 then 16 else 32
/-- The KDF of a suite's hash, and the hash length. -/
def suiteKdf (i : Nat) : Nat := if i = 1 then 0x202 else 0x201
def suiteHash (i : Nat) : Nat := if i = 1 then 48 else 32

def groupCode (i : Nat) : Nat :=
  match i with | 0 => 0x11EC | 1 => 0x11EB | 2 => 0x11ED | 3 => 0x001D | 4 => 0x001E | 5 => 0x0017 | 6 => 0x0018 | _ => 0x0019

/-- The lattice and the curve part of a group. -/
def groupKem (i : Nat) : Option Nat := match i with | 0 | 1 => some 0x121 | 2 => some 0x122 | _ => none
def groupEc (i : Nat) : Nat :=
  match i with | 0 | 3 => 0x104 | 1 | 5 => 0x101 | 2 | 6 => 0x102 | 4 => 0x105 | _ => 0x103

/-- Bytes the key share of a group draws (R313). -/
def groupDraw (server : Bool) (i : Nat) : Nat :=
  opDraw (groupEc i) opKeyPair 0 + (if (groupKem i).isSome then (if server then 32 else 64) else 0)

/-- A curve and a lattice operation. -/
def tlsOp (alg type : Nat) : Work := .op (BitVec.ofNat 16 alg) type (opWords alg 0) none false

/-- Crucible operations of a group by role and step (R298). -/
def serverOps (i : Nat) : List Work :=
  (match groupKem i with | some k => [tlsOp k opEncaps] | none => []) ++
    [tlsOp (groupEc i) opKeyPair, tlsOp (groupEc i) opAgree]
def clientShareOps (i : Nat) : List Work :=
  (match groupKem i with | some k => [tlsOp k opKeyPair] | none => []) ++ [tlsOp (groupEc i) opKeyPair]
def clientSecretOps (i : Nat) : List Work :=
  (match groupKem i with | some k => [tlsOp k opDecaps] | none => []) ++ [tlsOp (groupEc i) opAgree]

/-- The schemes of an algorithm, in the order of R299. -/
def schemesOf (alg bits : Nat) : List Nat :=
  match alg with
  | 0x101 => [0x0403] | 0x102 => [0x0503] | 0x103 => [0x0603] | 0x106 => [0x0807] | 0x107 => [0x0808]
  | 0x110 => if 2048 ≤ bits then [0x0804, 0x0805, 0x0806] else []
  | 0x128 => [0x0904] | 0x129 => [0x0905] | 0x12A => [0x0906]
  | _ => []

/-- Digest length of a scheme, and its hash algorithm field. -/
def schemeDigest (x : Nat) : Nat := match x with | 0x0403 | 0x0804 => 32 | 0x0503 | 0x0805 => 48 | _ => 64
def schemeHash (x : Nat) : Nat := match x with | 0x0403 | 0x0804 => 0 | 0x0503 | 0x0805 => 1 | _ => 2

/-- Randomness of an own CertificateVerify (R313). -/
def schemeDraw (x : Nat) : Nat :=
  if x = 0x0807 ∨ x = 0x0808 then 0 else if x = 0x0804 ∨ x = 0x0805 ∨ x = 0x0806 then schemeDigest x + 32 else 32

/-- The lowest bit of a mask that satisfies a test. -/
def lowestBit (mask : BitVec 16) (p : Nat → Bool) : Option Nat := firstBelow 8 fun i => mask.getLsbD i && p i

/-- A mask uses only its first `n` bits, and one at least (R297, R298). -/
def maskOk (n : Nat) (m : BitVec 16) : Bool := decide (m ≠ 0) && decide (m.toNat < 2 ^ n)

/-! ### Records and messages -/

/-- Whole records of an input: content type and body; none where it does not consist of whole records (R301). -/
def tlsRecords : Nat → List Byte → Option (List (Nat × List Byte))
  | _, [] => some []
  | 0, _ => none
  | fuel + 1, bs =>
    let n := beNat (sliceBytes bs 3 2)
    if bs.length < 5 + n then none
    else (tlsRecords fuel (bs.drop (5 + n))).map fun r => ((bs.headD 0).toNat, (bs.drop 5).take n) :: r

def recordsOfInput (bs : List Byte) : Option (List (Nat × List Byte)) := tlsRecords (bs.length + 1) bs

/-- The whole handshake messages at the front of a byte string, with their types, and whether bytes remain. -/
def tlsMessages : Nat → List Byte → List (Nat × List Byte) × Bool
  | _, [] => ([], false)
  | 0, _ => ([], true)
  | fuel + 1, bs =>
    let n := beNat (sliceBytes bs 1 3)
    if bs.length < 4 + n then ([], true)
    else
      let r := tlsMessages fuel (bs.drop (4 + n))
      (((bs.headD 0).toNat, (bs.drop 4).take n) :: r.1, r.2)

/-- A vector with a length prefix of `n` bytes, and the rest. -/
def takeVec (n : Nat) (bs : List Byte) : Option (List Byte × List Byte) :=
  let l := beNat (bs.take n)
  if bs.length < n + l then none else some ((bs.drop n).take l, bs.drop (n + l))

/-- Pairs of bytes as numbers. -/
def u16s : List Byte → List Nat
  | a :: b :: rest => (256 * a.toNat + b.toNat) :: u16s rest
  | _ => []

/-- Entries of a 16-bit tag and a vector of 16-bit length: extensions, key shares. -/
def tlsEntries : Nat → List Byte → Option (List (Nat × List Byte))
  | _, [] => some []
  | 0, _ => none
  | fuel + 1, bs =>
    if bs.length < 4 then none
    else match takeVec 2 (bs.drop 2) with
    | none => none
    | some (v, rest) => (tlsEntries fuel rest).map fun r => (beNat (bs.take 2), v) :: r

/-- An extension of a number. -/
def extOf (e : List (Nat × List Byte)) (n : Nat) : Option (List Byte) := (e.find? fun x => x.1 = n).map (·.2)

/-- A hello as it was parsed: random, session id, suites, extensions. -/
structure Hello where
  random  : List Byte
  session : List Byte
  suites  : List Nat
  exts    : List (Nat × List Byte)

/-- Parses a ClientHello body. -/
def parseClientHello (bs : List Byte) : Option Hello :=
  if bs.length < 35 then none
  else match takeVec 1 (bs.drop 34) with
  | none => none
  | some (sid, r1) =>
    match takeVec 2 r1 with
    | none => none
    | some (suites, r2) =>
      match takeVec 1 r2 with
      | none => none
      | some (_, r3) =>
        match takeVec 2 r3 with
        | some (ex, []) =>
          (tlsEntries (ex.length + 1) ex).map fun exts =>
            { random := (bs.drop 2).take 32, session := sid, suites := u16s suites, exts }
        | _ => none

/-- Parses a ServerHello body. -/
def parseServerHello (bs : List Byte) : Option Hello :=
  if bs.length < 35 then none
  else match takeVec 1 (bs.drop 34) with
  | none => none
  | some (sid, r1) =>
    if r1.length < 3 then none
    else match takeVec 2 (r1.drop 3) with
    | some (ex, []) =>
      (tlsEntries (ex.length + 1) ex).map fun exts =>
        { random := (bs.drop 2).take 32, session := sid, suites := u16s (r1.take 2), exts }
    | _ => none

/-- The groups and the schemes a ClientHello lists, and its key shares. -/
def Hello.groups (h : Hello) : List Nat := match extOf h.exts 10 with | some v => u16s (v.drop 2) | none => []
def Hello.sigs (h : Hello) : List Nat := match extOf h.exts 13 with | some v => u16s (v.drop 2) | none => []
def Hello.shares (h : Hello) : List (Nat × List Byte) :=
  match extOf h.exts 51 with | some v => (tlsEntries (v.length + 1) (v.drop 2)).getD [] | none => []

/-- The shares of a group split into the lattice part and the curve part (R298). -/
def splitShare (server : Bool) (i : Nat) (share : List Byte) : List Byte × List Byte :=
  match groupKem i with
  | none => ([], share)
  | some k => let n := if server then publicLen k 0 else ciphertextLen k; (share.take n, share.drop n)

/-- What a crucible rejects in the peer's share (R276, R304). -/
def shareOk (server : Bool) (i : Nat) (share : List Byte) : Bool :=
  let p := splitShare server i share
  (match groupKem i with
    | none => true
    | some k => if server then mlkemOk k p.1 else decide (p.1.length = ciphertextLen k)) &&
    agreeInputOk (groupEc i) p.2

/-! ### Protected records -/

/-- A record opens under the handshake keys; the content and its type, padding removed. -/
def recordOpens (x : Handshake) (body : List Byte) : Bool := Config.standardBit 42 [x.random, x.script, x.flight, body]
def stripZeros (bs : List Byte) : List Byte := (bs.reverse.dropWhile (· == 0)).reverse
def recordText (x : Handshake) (body : List Byte) : Nat × List Byte :=
  let p := stripZeros (Config.standard 43 [x.random, x.script, x.flight, body])
  match p.getLast? with | some t => (t.toNat, p.dropLast) | none => (0, [])

/-- A failure of a handshake: status and detail (R304). -/
structure TlsFail where
  status : Nat
  detail : Nat

def reject (alert : Nat) : TlsFail := ⟨stReject, alert⟩

/-- An alert's content: the peer's description with bit 8. -/
def alertFail (body : List Byte) : TlsFail :=
  if body.length = 2 then ⟨stReject, 0x100 + (body.getD 1 0).toNat⟩ else reject 50

/-- One record of a flight enters the flight (R296, R301, R304). -/
def enterRecord (x : Handshake) (r : Nat × List Byte) : Except TlsFail Handshake :=
  if r.1 = 20 then (if r.2 = [1] then .ok x else .error (reject 10))
  else if r.1 = 21 then .error (alertFail r.2)
  else if r.1 = 22 then .ok { x with flight := x.flight ++ r.2 }
  else if r.1 ≠ 23 then .error (reject 10)
  else if !recordOpens x r.2 then
    (if x.server ∧ x.offered ∧ x.early + r.2.length ≤ 16384 then .ok { x with early := x.early + r.2.length }
     else .error ⟨stAuthFail, 20⟩)
  else
    let t := recordText x r.2
    if t.1 = 22 then .ok { x with flight := x.flight ++ t.2 }
    else if t.1 = 21 then .error (alertFail t.2)
    else .error (reject 10)

/-- All records of a flight, in order. -/
def enterRecords (x : Handshake) : List (Nat × List Byte) → Except TlsFail Handshake
  | [] => .ok x
  | r :: rest => match enterRecord x r with | .ok x => enterRecords x rest | .error e => .error e

/-- Plain records of a hello: every one a handshake record, or an alert (R301, R309). -/
def helloBytes : List (Nat × List Byte) → Except TlsFail (List Byte)
  | [] => .ok []
  | r :: rest =>
    if r.1 = 21 then .error (alertFail r.2)
    else if r.1 = 20 ∧ r.2 = [1] then helloBytes rest
    else if r.1 ≠ 22 then .error (reject 10)
    else match helloBytes rest with | .ok t => .ok (r.2 ++ t) | .error e => .error e

/-- Plain records that bring a second ClientHello, whole or in part; early data a client offered is discarded (R296, R301). -/
def enterHello (x : Handshake) : List (Nat × List Byte) → Except TlsFail Handshake
  | [] => .ok x
  | r :: rest =>
    if r.1 = 21 then .error (alertFail r.2)
    else if r.1 = 20 ∧ r.2 = [1] then enterHello x rest
    else if r.1 = 23 ∧ x.offered ∧ x.early + r.2.length ≤ 16384 then enterHello { x with early := x.early + r.2.length } rest
    else if r.1 ≠ 22 then .error (reject 10)
    else enterHello { x with flight := x.flight ++ r.2 } rest

/-- A ClientHello in whole records. -/
def readClientHello (input : List Byte) : Except TlsFail Hello :=
  match recordsOfInput input with
  | none => .error (reject 50)
  | some rs =>
    match helloBytes rs with
    | .error e => .error e
    | .ok bs =>
      match tlsMessages (bs.length + 1) bs with
      | ([(1, body)], false) => (match parseClientHello body with | some h => .ok h | none => .error (reject 50))
      | ((t, _) :: _, _) => .error (reject (if t = 1 then 50 else 10))
      | ([], _) => .error (reject 50)

/-! ### Certificates (R303) -/

/-- The certificate_list of a Certificate message. -/
def certList (body : List Byte) : Option (List Byte) :=
  match takeVec 1 body with
  | some (_, r) => (match takeVec 3 r with | some (l, []) => some l | _ => none)
  | none => none

/-- The first entry's certificate. -/
def firstCert (list : List Byte) : List Byte := match takeVec 3 list with | some (c, _) => c | none => []

/-- Algorithm, key bits and public key of an end-entity certificate: X.509 is an external standard. -/
def certAlg (c : List Byte) : Nat := Config.standardNat 44 [c]
def certBits (c : List Byte) : Nat := Config.standardNat 45 [c]
def certKey (c : List Byte) : List Byte := Config.standard 46 [c]

/-- Message types a flight admits, by role (R307, R310, R312). -/
def flightOrders (x : Handshake) : List (List Nat) :=
  if x.server then (if x.request then [[11, 15, 20], [11, 20]] else [[20]])
  else [[2, 8, 11, 15, 20], [2, 8, 13, 11, 15, 20]]

/-- What a flight amounts to. -/
inductive FlightState where
  | fail (e : TlsFail)
  /-- More records are to come. -/
  | more
  /-- It is whole: the peer's certificate_list, if any, scheme and signature of its CertificateVerify, and the schemes it
  lists where it asked for a certificate. -/
  | whole (list : List Byte) (scheme : Nat) (sig : List Byte) (asked : Option (List Nat))

/-- A message of a type in a list. -/
def msgOf (ms : List (Nat × List Byte)) (t : Nat) : Option (List Byte) := (ms.find? fun m => m.1 = t).map (·.2)

/-- The schemes a CertificateRequest lists. -/
def requestSchemes (body : List Byte) : Option (List Nat) :=
  match takeVec 1 body with
  | some (_, r) =>
    (match takeVec 2 r with
      | some (ex, []) => (tlsEntries (ex.length + 1) ex).map fun e =>
          match extOf e 13 with | some v => u16s (v.drop 2) | none => []
      | _ => none)
  | none => none

/-- Judges a flight so far: order, certificates, schemes (R303, R304). -/
def judgeFlight (x : Handshake) : FlightState :=
  let r := tlsMessages (x.flight.length + 1) x.flight
  let types := r.1.map (·.1)
  let orders := (flightOrders x).filter fun o => types.isPrefixOf o
  if orders = [] then .fail (reject 10)
  else if !(orders.contains types) then .more
  else if r.2 then .fail (reject 10)
  else match msgOf r.1 11 with
  | none => .whole [] 0 [] none
  | some body =>
    match certList body with
    | none => .fail (reject 50)
    | some list =>
      let asked := (msgOf r.1 13).bind requestSchemes
      if (msgOf r.1 13).isSome ∧ asked.isNone then .fail (reject 50)
      else if 32768 < list.length then .fail (reject 42)
      else if list = [] then
        (if !x.server then .fail (reject 50)
         else if types = [11, 15, 20] then .fail (reject 10)
         else if x.mandatory then .fail ⟨stAuthFail, 116⟩ else .whole [] 0 [] asked)
      else match msgOf r.1 15 with
      | none => .fail (reject 10)
      | some v =>
        let c := firstCert list
        let scheme := beNat (v.take 2)
        if schemesOf (certAlg c) (certBits c) = [] then .fail (reject 42)
        else match takeVec 2 (v.drop 2) with
        | some (sig, []) =>
          if (schemesOf (certAlg c) (certBits c)).contains scheme then .whole list scheme sig asked
          else .fail (reject 47)
        | _ => .fail (reject 50)

/-- The content that a CertificateVerify signs, and whether the peer's Finished matches. -/
def verifyContent (x : Handshake) : List Byte := Config.standard 47 [x.random, x.script, x.flight]
def finishedOk (x : Handshake) : Bool := Config.standardBit 48 [x.random, x.script, x.flight]

/-! ### Output (R302) -/

/-- One item of an output flight. -/
def tlsItem (kind : Nat) (v : List Byte) : List Byte := [BitVec.ofNat 8 kind, 0] ++ leBytes 2 v.length ++ v

/-- The ChangeCipherSpec record. -/
def ccsRecord : List Byte := [20, 3, 3, 0, 1, 1]

/-- The hello that the service sends, as kind-1 items: the ClientHello, a second one, a HelloRetryRequest. -/
def helloOut (what : Nat) (x : Handshake) : List Byte :=
  tlsItem 1 (Config.standard 50 [leBytes 1 what, leBytes 2 x.suites.toNat, leBytes 2 x.groups.toNat, leBytes 1 x.suite,
    leBytes 1 x.group, x.name, x.random, x.script])

/-- The server's flight: ServerHello, ChangeCipherSpec for a session id, the protected messages (R309). -/
def serverFlight (x : Handshake) (sid chain sig : List Byte) : List Byte :=
  tlsItem 1 (Config.standard 51 [leBytes 1 x.suite, leBytes 1 x.group, x.random, x.script]) ++
    (if sid = [] then [] else tlsItem 1 ccsRecord) ++
    Config.standard 52 [leBytes 1 x.suite, x.random, x.script, [if x.request then 1 else 0], chain, sig]

/-- The client's records: Certificate and CertificateVerify when asked for, then Finished (R312). -/
def clientFlight (x : Handshake) (asked : Bool) (chain sig : List Byte) : List Byte :=
  Config.standard 53 [leBytes 1 x.suite, x.random, x.script, x.flight, [if asked then 1 else 0], chain, sig]

end Sys2Proof.Machine
end

