-- ==== Sys2Proof/Machine/CmdHs.lean ====
section
/-! DEFINITION. The handshake commands (R194, R195, R296-R323). -/

namespace Sys2Proof.Machine

/-! ### Limits and draws -/

/-- Working slots of handshakes that are not complete (R306). -/
def incomplete (s : State) : Nat := mapCount (fun _ x => x.live && decide (x.state ≠ 0x100)) s.vault.shakes

/-- A BEGIN command finds room (R306); the handshakes that commands in progress begin count too. -/
def shakeRoom (h : Nat) (s : State) : Bool :=
  let begins := s.beginning fun _ => true
  decide (incomplete s + begins < 524288) && decide (mapCount (fun _ x => x.live) s.vault.shakes + begins < shakeRange) &&
    cacheRoom h 3 0 s

/-- A key can be a handshake credential (R300). -/
def credentialOk (k : Key) (server : Bool) : Bool :=
  k.policy.getLsbD 11 && !k.isPublic && decide (schemesOf k.alg.toNat k.bits.toNat ≠ []) && (!server || decide (k.chain ≠ []))

/-- A handshake takes a free index. -/
def createShake (x : Handshake) (s : State) : Option (Nat × State) :=
  let start := (s.free 22).toNat
  let s := s.used 1
  let taken (i : Nat) : Bool := (s.shake i).live || decide (255 < mapGet 0 s.vault.hsGens i)
  match freeIndex shakeRange (s.vault.shakes.length + s.vault.hsGens.length + 1) start taken with
  | none => none
  | some i => some (i, s.setShake i { x with live := true })

/-- The response of a BEGIN. -/
def beginResponse (i state : Nat) (out : List Byte) (s : State) : List Byte :=
  leBytes 8 (shakeHandle s i).toNat ++ leBytes 4 out.length ++ leBytes 2 state ++ leBytes 2 0 ++ out

/-! ### HS_SERVER_BEGIN (R297-R300, R309, R310) -/

def specHsServerBegin : CmdSpec :=
  { opcode := 0x0600, mailbox := false, queue := true, scope := .saggar, owner := true, flagMask := 0x300
    lengthOk := (16 ≤ ·), lockRefused := fun _ => true }

/-- What the server selects: suite, scheme, group, and the client's share of it where it sent one (R309). -/
def serverSelect (suites groups : BitVec 16) (k : Key) (h : Hello) : Except TlsFail (Nat × Nat × Nat × Option (List Byte)) :=
  let versions := match extOf h.exts 43 with | some v => u16s (v.drop 1) | none => []
  let scheme := h.sigs.find? fun x => (schemesOf k.alg.toNat k.bits.toNat).contains x
  if !versions.contains 0x0304 then .error (reject 70)
  else match lowestBit suites (fun i => decide (i < 3) && h.suites.contains (suiteCode i)), scheme with
  | some suite, some sch =>
    let share (i : Nat) : Option (List Byte) := extOf h.shares (groupCode i)
    (match lowestBit groups fun i => (share i).isSome with
      | some g => .ok (suite, sch, g, share g)
      | none =>
        match lowestBit groups fun i => h.groups.contains (groupCode i) with
        | some g => .ok (suite, sch, g, none)
        | none => .error (reject 40))
  | _, _ => .error (reject 40)

/-- The key a credential handle names, still usable. -/
def credKey (sag : BitVec 12) (h : BitVec 64) (s : State) : Option Nat :=
  match handleOk 0x8A keyRange s.vault.keyGens s h with
  | some i => let k := s.key i; if k.live ∧ k.saggar = sag ∧ !k.destroying then some i else none
  | none => none

/-- The signature of a CertificateVerify with a credential. -/
def signWork (k : Key) (i : Nat) : Work := .op k.alg opSign (opWords k.alg.toNat k.bits.toNat) (some i) false

def bodyHsServerBegin (rq : Req) (s : State) : CmdRes :=
  let suites := BitVec.ofNat 16 (rq.field 8 2)
  let groups := BitVec.ofNat 16 (rq.field 10 2)
  if rq.payload.length ≠ 16 + rq.field 12 4 then failWith stBadLength s
  else match findKey rq (Req64 rq 0) false s with
  | none => failWith stBadHandle s
  | some c =>
    let k := s.key c
    if !maskOk 3 suites ∨ !maskOk 8 groups ∨ (rq.flags.getLsbD 9 ∧ !rq.flags.getLsbD 8) ∨ !credentialOk k true then
      failWith stNotPermitted s
    else if k.retired then failWith stKeyRetired s
    else if !shakeRoom (rqSag rq) s then failWith stLimit s
    else match readClientHello (rq.payload.drop 16) with
    | .error e => .done e.status e.detail [] s
    | .ok h =>
      match serverSelect suites groups k h with
      | .error e => .done e.status e.detail [] s
      | .ok (_, sch, g, share) =>
        match drawStatus s with
        | some st => failWith st s
        | none =>
          .wait { rq, note := [keyRange, c], store := k.material
                  work := .draw (32 + groupDraw true g + schemeDraw sch) ::
                    (match share with | some _ => serverOps g ++ [signWork k c] | none => []) } s

/-- The signature bytes of an own CertificateVerify. -/
def ownSignature (k : Key) (scheme : Nat) (material random content : List Byte) : List Byte :=
  stdSign k.alg.toNat (signatureLen k.alg.toNat k.bits.toNat) (schemeHash scheme) (if k.alg = 0x110 then 1 else 0) material
    random content

def finishHsServerBegin (t : Task) (s : State) : CmdRes :=
  let rq := t.rq
  let suites := BitVec.ofNat 16 (rq.field 8 2)
  let groups := BitVec.ofNat 16 (rq.field 10 2)
  match t.note, readClientHello (rq.payload.drop 16) with
  | [_, c], .ok h =>
    let k := s.key c
    (match serverSelect suites groups k h with
      | .error e => .done e.status e.detail [] s
      | .ok (suite, sch, g, share) =>
        let x : Handshake :=
          { saggar := rq.saggar.setWidth 12, server := true, cred := Req64 rq 0, suites, groups, suite, group := g
            request := rq.flags.getLsbD 8, mandatory := rq.flags.getLsbD 9, scheme := sch, random := t.drawn
            script := rq.payload.drop 16, offered := (extOf h.exts 42).isSome
            state := if share.isSome then 2 else 1 }
        let bad := match share with | some v => !shareOk true g v | none => false
        if bad then .done stReject 47 [] s
        else
          let out := match share with
            | some _ => serverFlight x h.session k.chain (ownSignature k sch t.store t.drawn (verifyContent x))
            | none => helloOut 2 x
          match respFits rq (16 + out.length) with
          | some st => failWith st s
          | none =>
            match createShake { x with script := x.script ++ out } s with
            | none => failWith stLimit s
            | some (i, s) => .done stOk 0 (beginResponse i x.state.toNat out s) (reevaluateCone s))
  | _, _ => failWith stInternal s

def execHsServerBegin (rq : Req) (s : State) : Answer := .next (runCommand specHsServerBegin rq (bodyHsServerBegin rq) s)

/-! ### HS_CLIENT_BEGIN (R311) -/

def specHsClientBegin : CmdSpec :=
  { opcode := 0x0602, mailbox := false, queue := true, scope := .saggar, owner := true, lengthOk := (16 ≤ ·)
    lockRefused := fun _ => true }

/-- The reserve for one HelloRetryRequest: the largest other group of the mask (R313). -/
def retryReserve (groups : BitVec 16) (g : Nat) : Nat :=
  (List.range 8).foldl (fun n i => if groups.getLsbD i && decide (i ≠ g) then max n (groupDraw false i) else n) 0

/-- The scheme of a client's own signature is the peer's choice; its randomness is drawn for the largest (R313). -/
def credentialDraw (k : Key) : Nat := (schemesOf k.alg.toNat k.bits.toNat).foldl (fun n x => max n (schemeDraw x)) 0

def bodyHsClientBegin (rq : Req) (s : State) : CmdRes :=
  let suites := BitVec.ofNat 16 (rq.field 8 2)
  let groups := BitVec.ofNat 16 (rq.field 10 2)
  let name := rq.field 12 2
  let h := Req64 rq 0
  if rq.payload.length ≠ 16 + name then failWith stBadLength s
  else match (if h = 0 then some none else (findKey rq h false s).map some) with
  | none => failWith stBadHandle s
  | some ci =>
    let ok := match ci with | some c => credentialOk (s.key c) false | none => true
    let retired := match ci with | some c => (s.key c).retired | none => false
    if !maskOk 3 suites ∨ !maskOk 8 groups ∨ 255 < name ∨ !rq.rsvd 14 2 ∨ !ok then failWith stNotPermitted s
    else if retired then failWith stKeyRetired s
    else if !shakeRoom (rqSag rq) s then failWith stLimit s
    else match drawStatus s with
    | some st => failWith st s
    | none =>
      let g := (lowestBit groups fun _ => true).getD 0
      .wait { rq, note := [keyRange]
              work := .draw (64 + groupDraw false g + (match ci with | some c => credentialDraw (s.key c) | none => 0) +
                retryReserve groups g) :: clientShareOps g } s

def finishHsClientBegin (t : Task) (s : State) : CmdRes :=
  let rq := t.rq
  let groups := BitVec.ofNat 16 (rq.field 10 2)
  let x : Handshake :=
    { saggar := rq.saggar.setWidth 12, cred := Req64 rq 0, suites := BitVec.ofNat 16 (rq.field 8 2), groups
      group := (lowestBit groups fun _ => true).getD 0, random := t.drawn, name := rq.payload.drop 16, state := 3 }
  let out := helloOut 1 x
  match respFits rq (16 + out.length) with
  | some st => failWith st s
  | none =>
    match createShake { x with script := out } s with
    | none => failWith stLimit s
    | some (i, s) => .done stOk 0 (beginResponse i 3 out s) (reevaluateCone s)

def execHsClientBegin (rq : Req) (s : State) : Answer := .next (runCommand specHsClientBegin rq (bodyHsClientBegin rq) s)

/-! ### HS_SERVER_CONTINUE (R301-R304, R312, R316, R320) -/

def specHsServerContinue : CmdSpec :=
  { opcode := 0x0601, mailbox := false, queue := true, scope := .saggar, owner := true, lengthOk := (16 ≤ ·) }

/-- What the next step of a handshake that is not complete does. -/
inductive TlsPlan where
  | fail (e : TlsFail)
  /-- The flight is not whole: the state it leaves, after so many crucible operations. -/
  | more (x : Handshake) (work : List Work)
  /-- A second hello goes out (client). -/
  | retry (x : Handshake) (work : List Work)
  /-- The server's flight goes out. -/
  | flight (x : Handshake) (sid share : List Byte) (work : List Work)
  /-- The handshake completes: peer's list, scheme, signature, whether a certificate was asked for, and the scheme of an
  own CertificateVerify; the peer's key share where it came in the same step. -/
  | finish (x : Handshake) (list : List Byte) (scheme : Nat) (sig : List Byte) (asked : Bool) (own : Option Nat)
      (share : List Byte) (work : List Work)

/-- The operation that verifies the peer's CertificateVerify. -/
def verifyWork (list : List Byte) : List Work :=
  if list = [] then []
  else
    let c := firstCert list
    [.op (BitVec.ofNat 16 (certAlg c)) opVerify (opWords (certAlg c) (certBits c)) none false]

/-- The scheme a client signs with where it was asked: the first that the CertificateRequest lists and R299 allows for the
credential; no signature without a credential or a chain. The outer none: no common scheme. -/
def ownScheme (x : Handshake) (asked : Option (List Nat)) (cred : Option (Nat × Key)) : Option (Option Nat) :=
  match asked, cred with
  | some sigs, some (_, k) =>
    if x.server ∨ k.chain = [] then some none
    else (sigs.find? fun y => (schemesOf k.alg.toNat k.bits.toNat).contains y).map some
  | _, _ => some none

/-- The signature of a handshake's credential. -/
def credSign : Option (Nat × Key) → List Work
  | some (i, k) => [signWork k i]
  | none => []

/-- The plan once the peer's hello has been dealt with. -/
def planFlight (x : Handshake) (share : List Byte) (work : List Work) (cred : Option (Nat × Key)) : TlsPlan :=
  match judgeFlight x with
  | .fail e => .fail e
  | .more => .more x work
  | .whole list scheme sig asked =>
    match ownScheme x asked cred with
    | none => .fail (reject 40)
    | some own =>
      .finish x list scheme sig asked.isSome own share (work ++ verifyWork list ++ (if own.isSome then credSign cred else []))

/-- A ServerHello or HelloRetryRequest is the first message of a client's flight (R312). -/
def planServerHello (x : Handshake) (body : List Byte) (alone : Bool) (cred : Option (Nat × Key)) : TlsPlan :=
  match parseServerHello body with
  | none => .fail (reject 50)
  | some h =>
    let suite := lowestBit x.suites fun i => decide (i < 3) && h.suites.contains (suiteCode i)
    let share := (extOf h.exts 51).getD []
    match suite with
    | none => .fail (reject 47)
    | some su =>
      if Config.standardBit 31 [h.random] then
        (match lowestBit x.groups fun i => decide (beNat (share.take 2) = groupCode i) with
          | none => .fail (reject 47)
          | some g =>
            if x.retried ∨ !alone then .fail (reject 10)
            else if g = x.group then .fail (reject 47)
            else .retry { x with group := g, retried := true, flight := [] } (clientShareOps g))
      else if extOf h.exts 43 ≠ some [3, 4] then .fail (reject 70)
      else if beNat (share.take 2) ≠ groupCode x.group then .fail (reject 47)
      else planFlight { x with suite := su, state := 4 } (share.drop 4) (clientSecretOps x.group) cred

/-- A second ClientHello, whole or in part (R301, R309). -/
def planHello (y : Handshake) (cred : Option (Nat × Key)) : TlsPlan :=
  match tlsMessages (y.flight.length + 1) y.flight with
  | ([(1, body)], false) =>
    (match parseClientHello body with
      | none => .fail (reject 50)
      | some h =>
        match extOf h.shares (groupCode y.group) with
        | none => .fail (reject 47)
        | some share =>
          .flight { y with script := y.script ++ y.flight, flight := [], state := 2 } h.session share
            (serverOps y.group ++ credSign cred))
  | ([], _) => if y.flight.headD 1 = 1 then .more y [] else .fail (reject 10)
  | ((t, _) :: _, _) => .fail (reject (if t = 1 then 50 else 10))

/-- The plan of an input on a handshake that is not complete. -/
def tlsPlan (x : Handshake) (input : List Byte) (cred : Option (Nat × Key)) : TlsPlan :=
  match recordsOfInput input with
  | none => .fail (reject 50)
  | some rs =>
    if x.state = 1 then (match enterHello x rs with | .error e => .fail e | .ok y => planHello y cred)
    else match enterRecords x rs with
    | .error e => .fail e
    | .ok y =>
      if x.state = 3 then
        (match tlsMessages (y.flight.length + 1) y.flight with
          | ([], _) => .more y []
          | ((2, body) :: rest, part) => planServerHello y body (decide (rest = []) && !part) cred
          | _ => .fail (reject 10))
      else planFlight y [] [] cred

/-- The credential of a handshake, where it is still there. -/
def credOf (x : Handshake) (s : State) : Option (Nat × Key) := (credKey x.saggar x.cred s).map fun i => (i, s.key i)

/-- Post-handshake input: how many KeyUpdates, and whether one asks for an update (R320). -/
def postMessages (x : Handshake) (input : List Byte) : Except TlsFail (Nat × Bool) :=
  let r := tlsMessages (input.length + 1) input
  if r.2 then .error (reject 50)
  else r.1.foldl (fun (a : Except TlsFail (Nat × Bool)) (m : Nat × List Byte) =>
    match a with
    | .error e => .error e
    | .ok (n, ask) =>
      if m.1 = 24 then
        (if m.2 = [0] then .ok (n + 1, ask) else if m.2 = [1] then .ok (n + 1, true)
         else .error (reject (if m.2.length = 1 then 47 else 50)))
      else if m.1 = 4 ∧ !x.server then .ok (n, ask)
      else .error (reject 10)) (.ok (0, false))

/-- The HMAC jobs that derive one generation: secret, key, IV (R318, R319). -/
def generationWork (suite : Nat) : List Work :=
  [22, 14, 13].map fun n => .hash (BitVec.ofNat 16 (suiteKdf suite)) n none

/-- The job that protects a KeyUpdate record under a key. -/
def recordWork (suite key : Nat) : Work := .hash (BitVec.ofNat 16 (suiteAlg suite)) 11 (some key)

/-- The key of a session of a connection. -/
def connKey (ses : BitVec 64) (s : State) : Nat := handleIndex (s.session (handleIndex ses)).key

/-- A message is in progress on a session, or the previous generation's key is still held (R319). -/
def updateBlocked (x : Handshake) (ses : BitVec 64) (s : State) : Option Nat :=
  if (s.session (handleIndex ses)).cur.isSome then some stNotPermitted
  else if x.oldKey.isSome then some stLimit
  else none

/-- The handshake that a CONTINUE works on still stands (R323). -/
def shakeStands (i : Nat) (s : State) : Bool := (s.shake i).live && !(s.shake i).destroying

/-- A failure ends the handshake (R304). -/
def tlsEnd (i : Nat) (e : TlsFail) (s : State) : CmdRes := .done e.status e.detail [] (dropShake i s)

/-- The response of a CONTINUE. -/
def continueResponse (recv send : BitVec 64) (state : Nat) (out : List Byte) : List Byte :=
  leBytes 8 recv.toNat ++ leBytes 8 send.toNat ++ leBytes 4 out.length ++ leBytes 2 state ++ leBytes 2 0 ++ out

/-- A secret, key or IV derived from a traffic secret (RFC 8446 section 7). -/
def tlsExpand (suite len : Nat) (secret : List Byte) (label : String) : List Byte :=
  padTo len (Config.standard 55 [leBytes 2 (suiteKdf suite), leBytes 2 len, secret, ascii label])

/-- The usage limit of a send key and of a receive key (R317). -/
def sendLimit (g : Saggar) (suite : Nat) : Nat :=
  let d := if suite = 2 then 2 ^ 48 else 2 ^ 24
  (if g.hsLimitLog = 0 then d else min d (2 ^ g.hsLimitLog)) - 1
def recvLimit (g : Saggar) (suite : Nat) : Nat :=
  let d := classDefault (suiteAlg suite)
  if g.limitLog = 0 then d else min d (2 ^ g.limitLog)

/-- A traffic key enters one of the handshake's reserved entries (R316). -/
def installKey (i : Nat) (send : Bool) (secret : List Byte) (s : State) : Option (Nat × State) :=
  let x := s.shake i
  let g := s.saggar x.saggar.toNat
  let n := suiteKeyLen x.suite
  createKey { saggar := x.saggar, alg := BitVec.ofNat 16 (suiteAlg x.suite), bits := BitVec.ofNat 16 (8 * n)
              material := tlsExpand x.suite n secret "key", policy := if send then 0x11001 else 0x11002
              limit := BitVec.ofNat 64 (if send then sendLimit g x.suite else recvLimit g x.suite), conn := some i } s

/-- A traffic key and its session (R316). -/
def installSide (i : Nat) (send : Bool) (secret : List Byte) (s : State) : Option (Nat × State) :=
  let x := s.shake i
  match installKey i send secret s with
  | none => none
  | some (k, s) =>
    createSession { saggar := x.saggar, key := keyHandle s k, alg := BitVec.ofNat 16 (suiteAlg x.suite), decrypt := !send
                    tagLen := 16, nonce := tlsExpand x.suite 12 secret "iv", conn := some i } s

/-- The secrets of a side. -/
def sideSecret (x : Handshake) (send : Bool) : List Byte :=
  let n := suiteHash x.suite
  if send then sliceBytes x.secrets 0 n else sliceBytes x.secrets n n
def exporterSecret (x : Handshake) : List Byte := x.secrets.drop (2 * suiteHash x.suite)
def setSecret (x : Handshake) (send : Bool) (v : List Byte) : Handshake :=
  { x with secrets := (if send then v ++ sideSecret x false else sideSecret x true ++ v) ++ exporterSecret x }

/-- The handshake completes (R314, R316): secrets, keys, sessions, one handshake charged. -/
def completeShake (i : Nat) (x : Handshake) (out : List Byte) (s : State) : CmdRes :=
  let x := { x with state := 0x100, flight := [], random := []
                    secrets := padTo (3 * suiteHash x.suite) (Config.standard 54 [x.random, x.script, x.flight]) }
  let s1 := s.setShake i x
  match installSide i true (sideSecret x true) s1 with
  | none => failWith stInternal s
  | some (a, s2) =>
    match installSide i false (sideSecret x false) s2 with
    | none => failWith stInternal s
    | some (b, s3) =>
      let c : Charge := { handshakes := 1 }
      let s := chargeSaggar x.saggar.toNat c (countEngine c s3)
      let s := s.setShake i { s.shake i with sendSes := sessionHandle s a, recvSes := sessionHandle s b }
      .done stOk 0 (continueResponse (sessionHandle s b) (sessionHandle s a) 0x100 out) s

/-- The next generation of a side takes over its session; the old key goes when its jobs have ended (R319). -/
def switchSide (i : Nat) (send : Bool) (newKey : Nat) (s : State) : State :=
  let x := s.shake i
  let ses := handleIndex (if send then x.sendSes else x.recvSes)
  let old := handleIndex (s.session ses).key
  let secret := tlsExpand x.suite (suiteHash x.suite) (sideSecret x send) "traffic upd"
  let s := refuseWaiting (fun j => decide (j.key = some old)) stBadHandle s
  let held := keyHeld s old
  let s := retireTraffic old s
  let s := s.setSession ses { s.session ses with
    key := keyHandle s newKey, nonce := tlsExpand x.suite 12 secret "iv", high := none }
  let y := setSecret (s.shake i) send secret
  s.setShake i { y with prepared := if send then none else y.prepared, oldKey := if held then some old else y.oldKey }

/-- Derives and installs the next key of a side. -/
def nextKey (i : Nat) (send : Bool) (s : State) : Option (Nat × State) :=
  let x := s.shake i
  installKey i send (tlsExpand x.suite (suiteHash x.suite) (sideSecret x send) "traffic upd") s

/-- A KeyUpdate record protected under the send key at the sequence number after the highest used (R318). -/
def updateRecord (x : Handshake) (ask : Bool) (s : State) : List Byte :=
  let y := s.session (handleIndex x.sendSes)
  let seq := match y.high with | some h => h.toNat + 1 | none => 0
  let body := stdGcmEnc (s.key (handleIndex y.key)).material (leBytes 8 seq ++ y.nonce ++ leBytes 2 y.alg.toNat) []
    [24, 0, 0, 1, if ask then 1 else 0, 22]
  [23, 3, 3] ++ beBytes 2 body.length ++ body

/-- The receive side takes `n` generations. -/
def advanceRecv (i : Nat) : Nat → State → Option State
  | 0, s => some s
  | n + 1, s =>
    match nextKey i false s with
    | none => none
    | some (k, s) => advanceRecv i n (switchSide i false k s)

/-- The end of post-handshake input (R320). -/
def finishPost (i n : Nat) (own : Bool) (s : State) : CmdRes :=
  match advanceRecv i n s with
  | none => failWith stInternal s
  | some s1 =>
    let x := s1.shake i
    if !own then .done stOk 0 (continueResponse x.recvSes x.sendSes 0x100 []) s1
    else
      let r := updateRecord x false s1
      match nextKey i true s1 with
      | none => failWith stInternal s
      | some (k, s2) => .done stOk 0 (continueResponse x.recvSes x.sendSes 0x100 (tlsItem 1 r)) (switchSide i true k s2)

/-- The verdict on the peer's CertificateVerify and Finished (R303, R304). -/
def peerVerdict (x : Handshake) (list : List Byte) (scheme : Nat) (sig : List Byte) : Option TlsFail :=
  let c := firstCert list
  let content := verifyContent x
  if list ≠ [] ∧ !verifyInputOk (certAlg c) (schemeDigest scheme) false (certKey c) sig content then some (reject 47)
  else if list ≠ [] ∧ !stdVerify (certAlg c) (schemeHash scheme) (if certAlg c = 0x110 then 1 else 0) (certKey c) sig content then
    some ⟨stAuthFail, 51⟩
  else if !finishedOk x then some ⟨stAuthFail, 51⟩
  else none

def finishHsServerContinue (t : Task) (s : State) : CmdRes :=
  let rq := t.rq
  let input := rq.payload.drop 16
  match t.note with
  | [i, n, own] => if shakeStands i s then finishPost i n (decide (own = 1)) s else failWith stBadHandle s
  | [i] =>
    if !shakeStands i s then failWith stBadHandle s
    else
      let x := s.shake i
      let cred := (credKey x.saggar x.cred s).map s.key
      let keep (x : Handshake) (out : List Byte) : CmdRes :=
        match respFits rq (24 + out.length) with
        | some st => failWith st s
        | none =>
          .done stOk 0 (continueResponse 0 0 x.state.toNat out) (s.setShake i { x with script := x.script ++ out })
      match tlsPlan x input (credOf x s) with
      | .fail e => tlsEnd i e s
      | .more y _ => keep y []
      | .retry y _ => keep { y with script := y.script ++ input } (helloOut 3 y)
      | .flight y sid share _ =>
        if !shareOk true y.group share then tlsEnd i (reject 47) s
        else
          match cred with
          | none => failWith stBadHandle s
          | some k => keep y (serverFlight y sid k.chain (ownSignature k y.scheme t.store y.random (verifyContent y)))
      | .finish y list scheme sig asked own share _ =>
        if share ≠ [] ∧ !shareOk false y.group share then tlsEnd i (reject 47) s
        else match peerVerdict y list scheme sig with
        | some e => tlsEnd i e s
        | none =>
          let sent := match own, cred with
            | some sch, some k => ownSignature k sch t.store y.random (verifyContent y)
            | _, _ => []
          let chain := match cred with | some k => k.chain | none => []
          let out := (if list = [] then [] else tlsItem 2 list) ++ (if y.server then [] else clientFlight y asked chain sent)
          match respFits rq (24 + out.length) with
          | some st => failWith st s
          | none => completeShake i { y with script := y.script ++ input } out s
  | _ => failWith stInternal s

def bodyHsServerContinue (rq : Req) (s : State) : CmdRes :=
  let input := rq.payload.drop 16
  if rq.payload.length ≠ 16 + rq.field 8 4 then failWith stBadLength s
  else match findShake (rq.saggar.setWidth 12) (Req64 rq 0) s with
  | none => failWith stBadHandle s
  | some i =>
    let x := s.shake i
    if !rq.rsvd 12 4 then failWith stNotPermitted s
    else if x.state = 0x100 then
      (if s.bk.lock ≠ 0 then failWith stNotPermitted s
       else match postMessages x input with
       | .error e => tlsEnd i e s
       | .ok (n, ask) =>
         let own := ask && x.prepared.isNone
         match (if n = 0 then none else updateBlocked x x.recvSes s), (if own then updateBlocked x x.sendSes s else none) with
         | some st, _ => failWith st s
         | none, some st => failWith st s
         | none, none =>
           match respFits rq (24 + (if own then 31 else 0)) with
           | some st => failWith st s
           | none =>
             waitOr finishHsServerContinue { rq, note := [i, n, if own then 1 else 0]
                                             work := ((List.range n).flatMap fun _ => generationWork x.suite) ++
                                               (if own then generationWork x.suite ++ [recordWork x.suite (connKey x.sendSes s)] else []) } s)
    else match tlsPlan x input (credOf x s) with
    | .fail e => tlsEnd i e s
    | .more _ work | .retry _ work | .flight _ _ _ work | .finish _ _ _ _ _ _ _ work =>
      waitOr finishHsServerContinue
        { rq, note := [i], work
          store := match credKey x.saggar x.cred s with | some c => (s.key c).material | none => [] } s

def execHsServerContinue (rq : Req) (s : State) : Answer :=
  .next (runCommand specHsServerContinue rq (bodyHsServerContinue rq) s)

/-! ### HS_KEY_UPDATE (R318, R319, R321) -/

def specHsKeyUpdate : CmdSpec :=
  { opcode := 0x0603, mailbox := false, queue := true, scope := .saggar, owner := true, lengthOk := (· = 16)
    lockRefused := fun _ => true }

/-- The command or the internal work that prepares an update of connection `i`. -/
def preparing (i : Nat) (s : State) : List Nat :=
  (s.tasks.filter fun e => decide (e.2.opcode = 0x8002) && decide (e.2.note = [i])).map (·.1)

def finishHsKeyUpdate (t : Task) (s : State) : CmdRes :=
  match t.note with
  | [i, _] =>
    if !shakeStands i s then failWith stBadHandle s
    else
      let x := s.shake i
      match updateBlocked x x.sendSes s with
      | some st => failWith st s
      | none =>
        match x.prepared with
        | some (r, k) => .done stOk 0 (leBytes 4 r.length ++ leBytes 4 0 ++ r) (switchSide i true k s)
        | none =>
          let r := updateRecord x (decide (t.rq.field 8 1 = 1)) s
          match nextKey i true s with
          | none => failWith stInternal s
          | some (k, s) => .done stOk 0 (leBytes 4 r.length ++ leBytes 4 0 ++ r) (switchSide i true k s)
  | _ => failWith stInternal s

def bodyHsKeyUpdate (rq : Req) (s : State) : CmdRes :=
  match findSession (rq.saggar.setWidth 12) (Req64 rq 0) s with
  | none => failWith stBadHandle s
  | some ses =>
    let y := s.session ses
    let conn := y.conn.filter fun i => decide (handleIndex (s.shake i).sendSes = ses) && shakeStands i s && !y.decrypt
    match conn with
    | none =>
      if 1 < rq.field 8 1 ∨ !rq.rsvd 9 7 then failWith stNotPermitted s
      else (match respFits rq 35 with | some st => failWith st s | none => failWith stNotPermitted s)
    | some i =>
      let x := s.shake i
      if !rq.rsvd 9 7 ∨ (x.prepared.isNone ∧ 1 < rq.field 8 1) then failWith stNotPermitted s
      else match respFits rq 35 with
      | some st => failWith st s
      | none =>
        match updateBlocked x x.sendSes s with
        | some st => failWith st s
        | none =>
          if x.prepared.isSome then finishHsKeyUpdate { rq, note := [i, 0] } s
          else if preparing i s ≠ [] then .wait { rq, note := [i, 0], work := [.drain (preparing i s)] } s
          else .wait { rq, note := [i, 1]
                       work := generationWork x.suite ++ [recordWork x.suite (connKey x.sendSes s)] } s

def execHsKeyUpdate (rq : Req) (s : State) : Answer := .next (runCommand specHsKeyUpdate rq (bodyHsKeyUpdate rq) s)

/-- KEYUPDATE_PREPARE: on the retirement of a connection's send key the service derives the next generation and protects
a KeyUpdate record under the retired key (R318). -/
def execKeyupdatePrepare (handshake : BitVec 24) (s : State) : Answer :=
  let i := handshake.toNat
  let x := s.shake i
  let k := connKey x.sendSes s
  .next (if shakeStands i s && decide (x.state = 0x100) && x.prepared.isNone && x.oldKey.isNone && (s.key k).retired &&
      decide (preparing i s = []) then
    addTask { opcode := 0x8002, silent := true, note := [i], work := generationWork x.suite ++ [recordWork x.suite k]
              rq := { route := .ring (.service 0) 1, flags := 0, tag := 0, saggar := x.saggar.setWidth 16, reserved := 0
                      length := 0, payload := [], data := [], respAddr := 0, respRoom := 0, dmaFails := false } } s
  else s)

def finishPrepare (t : Task) (s : State) : CmdRes :=
  match t.note with
  | [i] =>
    if !shakeStands i s then failWith stBadHandle s
    else if !(s.key (connKey (s.shake i).sendSes s)).retired then .done stOk 0 [] s
    else
      let r := updateRecord (s.shake i) false s
      (match nextKey i true s with
        | none => failWith stInternal s
        | some (k, s) => .done stOk 0 [] (s.setShake i { s.shake i with prepared := some (r, k) }))
  | _ => failWith stInternal s

/-! ### HS_EXPORT_SECRET (R322) -/

def specHsExportSecret : CmdSpec :=
  { opcode := 0x0604, queue := true, scope := .saggar, owner := true, lengthOk := (16 ≤ ·), lockRefused := fun _ => true }

/-- The connection that a handshake handle or either session handle names. -/
def exportConn (rq : Req) (s : State) : Option (Option Nat) :=
  let h := Req64 rq 0
  match findShake (rq.saggar.setWidth 12) h s with
  | some i => some (some i)
  | none => (findSession (rq.saggar.setWidth 12) h s).map fun ses => (s.session ses).conn

def bodyHsExportSecret (rq : Req) (s : State) : CmdRes :=
  let label := rq.field 8 2
  let ctx := rq.field 10 2
  let len := rq.field 12 2
  if rq.payload.length ≠ 16 + label + ctx then failWith stBadLength s
  else match exportConn rq s with
  | none => failWith stBadHandle s
  | some c =>
    if label < 1 ∨ 255 < label ∨ 1024 < ctx ∨ len < 1 ∨ 64 < len ∨ !rq.rsvd 14 2 then failWith stNotPermitted s
    else match respFits rq len with
    | some st => failWith st s
    | none =>
      match c with
      | none => failWith stNotPermitted s
      | some i =>
        let x := s.shake i
        if x.state ≠ 0x100 ∨ !(s.saggar (rqSag rq)).policy.getLsbD 1 then failWith stNotPermitted s
        else
          let kdf := BitVec.ofNat 16 (suiteKdf x.suite)
          let h := suiteHash x.suite
          .wait { rq, note := [i]
                  work := [.hash (if h = 48 then 9 else 8) ctx none, .hash kdf (11 + label + h) none, .hash kdf (19 + h) none] } s

def finishHsExportSecret (t : Task) (s : State) : CmdRes :=
  match t.note with
  | [i] =>
    if !shakeStands i s then failWith stBadHandle s
    else
      let label := (t.rq.payload.drop 16).take (t.rq.field 8 2)
      let ctx := t.rq.payload.drop (16 + t.rq.field 8 2)
      .done stOk 0 (padTo (t.rq.field 12 2) (Config.standard 56
        [leBytes 2 (t.rq.field 12 2), exporterSecret (s.shake i), label, ctx])) s
  | _ => failWith stInternal s

def execHsExportSecret (rq : Req) (s : State) : Answer := .next (runCommand specHsExportSecret rq (bodyHsExportSecret rq) s)

/-! ### HS_ABORT and expiry (R305, R323) -/

def specHsAbort : CmdSpec := { opcode := 0x0605, queue := true, scope := .saggar, owner := true, lengthOk := (· = 8) }

/-- The two sessions of a connection. -/
def connSessions (i : Nat) (s : State) : List Nat :=
  (s.vault.sessions.filter fun e => e.2.live && decide (e.2.conn = some i)).map (·.1)

/-- The handshake and, where it was complete, its sessions are scrubbed. -/
def scrubShake (i : Nat) (s : State) : State :=
  dropShake i ((connSessions i s).foldl (fun s x => dropSession x s) s)

/-- A job works for a handshake or for one of its sessions. -/
def shakeJob (i : Nat) (s : State) (j : Job) : Bool :=
  (match j.session with | some x => (connSessions i s).contains x | none => false) ||
    (match j.task with
      | some t => let y := s.task t; (decide (y.opcode.toNat / 256 = 6) || decide (y.opcode = 0x8002)) && decide (y.note.head? = some i)
      | none => false)

def bodyHsAbort (rq : Req) (s : State) : CmdRes :=
  match findShake (rq.saggar.setWidth 12) (Req64 rq 0) s with
  | none => failWith stBadHandle s
  | some i =>
    let s := s.setShake i { s.shake i with destroying := true }
    let s := (connSessions i s).foldl (fun s x => s.setSession x { s.session x with destroying := true }) s
    let s := refuseWaiting (shakeJob i s) stBadHandle s
    let held := holders (shakeJob i s) s
    if held = [] then .done stOk 0 [] (scrubShake i s)
    else .wait { rq, effected := true, work := [.drain held], note := [i] } s

def finishHsAbort (t : Task) (s : State) : CmdRes :=
  match t.note with | [i] => .done stOk 0 [] (scrubShake i s) | _ => failWith stInternal s

def execHsAbort (rq : Req) (s : State) : Answer := .next (runCommand specHsAbort rq (bodyHsAbort rq) s)

/-- HANDSHAKE_EXPIRY: 10 s after the last command that named it, an incomplete handshake is destroyed (R305). -/
def execHandshakeExpiry (handshake : BitVec 24) (s : State) : Answer :=
  let i := handshake.toNat
  let busy := s.tasks.any fun e => decide (e.2.opcode.toNat / 256 = 6) && decide (e.2.note.head? = some i)
  .next (if (s.shake i).live && decide ((s.shake i).state ≠ 0x100) && !busy then dropShake i s else s)

end Sys2Proof.Machine
end

