-- ==== Sys2Proof/Machine/CmdTal.lean ====
section
/-! DEFINITION. The tally commands and the tally's own events (R196, R201, R362-R380). -/

namespace Sys2Proof.Machine

/-! ### Closing a span -/

/-- Every lease is charged up to now (R293): its cycles so far are a free value. -/
def chargeLeases (s : State) : State :=
  s.vault.leases.foldl (fun s e => if e.2.live then chargeLease e.1 (leaseCycles e.1 s) (s.used 1) else s) s

/-- Closes the open span after so many minutes, leases charged up to the close. -/
def closeNow (span : Nat) (s : State) : State := if s.tal.isOpen then closeSpan span (chargeLeases s) else s

/-- Ticks at which the open span's last minute ends, in UTC. -/
def spanEnd (s : State) : Int := ((s.tal.first.toNat + s.tal.target : Nat) : Int) * minuteTicks

/-- SPAN_CLOSE: the end of the open span's last minute; the next span opens at that instant (R363). The event says that
the time has come: the timebase stands at least there. -/
def execSpanClose (s : State) : Answer :=
  .next (if !s.tal.isOpen then s
    else
      let due := spanEnd s - s.tal.offset
      let s := if (s.pwr.aon.toNat : Int) < due then
        { s with pwr := { s.pwr with aon := BitVec.ofInt 48 due } } else s
      let s := closeNow s.tal.target s
      openSpan s.minute s)

/-- RECORDS_READABLE: the records of the closed spans are signed and journalled; the host is told (R371). -/
def execRecordsReadable (s : State) : Answer :=
  let signing := s.jobs.any fun e => e.2.overhead && e.2.task.isNone
  .next (if signing || decide (s.tal.unreadable = 0) then s
    else notifyGlobal { s with tal := { s.tal with unreadable := 0 } })

/-- ACK_STATE_JOURNAL: the acknowledgement state enters the journal; spans wholly acknowledged under it may leave it
(R380). -/
def execAckStateJournal (s : State) : Answer :=
  .next (if s.tal.ackDue then
    { s with tal := { s.tal with
        ackDue := false, ackJournal := s.tal.acked
        journal := s.tal.journal.filter fun j => notAcked s.tal.acked j.last.toNat ||
          decide (s.minute.toNat < j.first.toNat + 60) } }
  else s)

/-- BYTE_SECOND_TICK: each millisecond, the granules of every saggar add their bytes to its byte-milliseconds (R372). -/
def execByteSecondTick (s : State) : Answer :=
  .next ((List.range 4096).foldl (fun s h =>
    let n := 4096 * mapGet 0 s.lanes.facet h + 65536 * mapGet 0 s.lanes.spill h
    if n = 0 then s
    else
      let c : Charge := { byteMs := (n : Int) }
      chargeSaggar h c (countEngine c s)) s)

/-! ### TAL_READ, TAL_ACK, TAL_GET_SEAL -/

def specTalRead : CmdSpec := { opcode := 0x0700, queue := true, phys := true, lengthOk := (· = 4) }

/-- A broken-seal record. -/
def TallyRecord.broken (r : TallyRecord) : Bool := decide (r.kind = 5) || decide (r.kind = 6)

/-- The records that are readable: those of spans signed and journalled (R371). -/
def readable (s : State) : List TallyRecord := s.tal.records.take (s.tal.records.length - s.tal.unreadable)

def bodyTalRead (rq : Req) (s : State) : CmdRes :=
  let n := rq.field 0 2
  let top := match rq.route with | .queue _ _ => 255 | _ => 7
  if n < 1 ∨ top < n ∨ !rq.rsvd 2 2 then failWith stNotPermitted s
  else
    let rs := (readable s).take n
    match respFits rq (8 + 256 * rs.length) with
    | some st => failWith st s
    | none =>
      let returned := match rs.getLast?, s.tal.returned with
        | some r, some v => some (if v.toNat < r.seq.toNat then r.seq else v)
        | some r, none => some r.seq
        | none, v => v
      .done (if rs.any TallyRecord.broken then stBrokenSeal else stOk) 0
        (leBytes 2 rs.length ++ leBytes 6 0 ++ rs.flatMap recordBytes) { s with tal := { s.tal with returned } }

def execTalRead (rq : Req) (s : State) : Answer := .next (runCommand specTalRead rq (bodyTalRead rq) s)

def specTalAck : CmdSpec := { opcode := 0x0701, queue := true, phys := true, lengthOk := (· = 8) }

def bodyTalAck (rq : Req) (s : State) : CmdRes :=
  let n := rq.field 0 8
  match respFits rq 8 with
  | some st => failWith st s
  | none =>
    if !notAcked s.tal.acked n then .done stOk 0 (leBytes 8 0) s
    else if (match s.tal.returned with | some r => decide (r.toNat < n) | none => true) then failWith stNotPermitted s
    else
      let keep := s.tal.records.filter fun r => decide (n < r.seq.toNat)
      let freed := s.tal.records.length - keep.length
      .done stOk 0 (leBytes 8 freed) (backlogHold { s with tal := { s.tal with
        records := keep, released := s.tal.released + freed, acked := some (BitVec.ofNat 64 n), ackDue := true } })

def execTalAck (rq : Req) (s : State) : Answer := .next (runCommand specTalAck rq (bodyTalAck rq) s)

def specTalGetSeal : CmdSpec := { opcode := 0x0702, phys := true, side := true, lengthOk := (· = 0) }

def bodyTalGetSeal (_rq : Req) (s : State) : CmdRes :=
  let n := s.brokenSeals
  .done (if n = 0 then stOk else stBrokenSeal) 0
    (leBytes 8 s.tal.checkMinute.toNat ++ [if s.tal.checkBroken then 1 else 0] ++ leBytes 7 0 ++ leBytes 4 n ++ leBytes 4 0) s

def execTalGetSeal (rq : Req) (s : State) : Answer := .next (runCommand specTalGetSeal rq (bodyTalGetSeal rq) s)

/-! ### SYS_SET_TIME (R362, R364) -/

def specSysSetTime : CmdSpec := { opcode := 0x0102, phys := true, lengthOk := (· = 16) }

def bodySysSetTime (rq : Req) (s : State) : CmdRes :=
  let ticks : Int := (rq.field 0 8 : Int) * 32768
  let set (s : State) : State :=
    { s with tal := { s.tal with timeSet := true, offset := ticks - (s.pwr.aon.toNat : Int) } }
  if !rq.rsvd 8 8 then failWith stNotPermitted s
  else if !s.tal.isOpen then .done stOk 0 [] (set s)
  else
    let old := s.minute.toNat
    let new := (ticks / minuteTicks).toNat
    if new = old then .done stOk 0 [] (set s)
    else
      let flagged (s : State) : State := { s with tal := { s.tal with flags := s.tal.flags ||| 4 } }
      if old < new then
        let s := set (closeNow s.spanMinutes (flagged s))
        .done stOk 0 [] (openSpan s.minute s)
      else if 3600 * 32768 < spanEnd s - ticks then failWith stNotPermitted s
      else .done stOk 0 [] (set (flagged s))

def execSysSetTime (rq : Req) (s : State) : Answer := .next (runCommand specSysSetTime rq (bodySysSetTime rq) s)


end Sys2Proof.Machine
end

