-- ==== Sys2Proof/Machine/CmdEnt.lean ====
section
/-! DEFINITION. The entropy subsystem (R387-R410): its commands, blocks, instances, withholding. -/

namespace Sys2Proof.Machine

/-! ### Pairs, blocks, instances -/

/-- Pairs in use. -/
def State.pairsInUse (s : State) : Nat := 8 - popCount s.ent.failed

/-- The state of R392 changes; a change raises event 272. -/
def setEntState (v : BitVec 2) (s : State) : State :=
  if s.ent.state = v then s else noteHealth s (raisePlain 272 { s with ent := { s.ent with state := v } })

/-- A command in progress gets on without one block of its reseed: whether it needs more (R398). -/
def reseedTask (s : State) : Option (Nat × Nat) :=
  s.tasks.findSome? fun e => match e.2.work with | .reseed n :: _ => some (e.1, n) | _ => none

/-- The input of an ENT_RESEED (R196). -/
def reseedInput (rq : Req) : List Byte := rq.payload.drop 4

/-- A reseed of every instance is done: the command completes, its input stays in force (R396, R398). -/
def endReseed (id : Nat) (s : State) : State :=
  finishTask id stOk 0 [] { s with ent := { s.ent with input := reseedInput (s.task id).rq } }

/-- One block arrives at the compute die: a waiting reseed takes it, else it enters the pool of 64, from which the next
instance is instantiated with two blocks (R389, R393, R398). The order of the first two is a choice (log entry 60). -/
def enterBlock (s : State) : State :=
  match reseedTask s with
  | some (id, n) =>
    if n ≤ 1 then endReseed id s else s.setTask id { s.task id with work := [.reseed (n - 1)] }
  | none =>
    let e := { s.ent with pool := min 64 (s.ent.pool + 1) }
    if 2 ≤ e.pool ∧ e.inst < 64 then
      let s := { s with ent := { e with pool := e.pool - 2, inst := e.inst + 1, counter := mapDel e.counter e.inst } }
      if s.ent.inst = 64 then setEntState 1 s else s
    else { s with ent := e }

/-- Requests start as long as instances, engines and requests are there (R400). -/
def startDraws (s : State) : State := (List.range 4).foldl (fun s _ => startDraw s) s

/-- `n` blocks arrive. -/
def enterBlocks (n : Nat) (s : State) : State := startDraws ((List.range n).foldl (fun s _ => enterBlock s) s)

/-- SOURCE_BLOCK: each pair in use completes a block; the vault die buffers them while the link is down (R389, R404). -/
def execSourceBlock (s : State) : Answer :=
  let n := s.pairsInUse
  .next (if s.ent.state = 3 ∨ (s.ent.state ≠ 1 ∧ !s.ent.tested) then s
    else if s.fabric.linkUp then enterBlocks n s
    else { s with ent := { s.ent with buffered := min 128 (s.ent.buffered + n) } })

/-- The blocks that the vault die buffered arrive once the link is up (R404). -/
def deliverBuffered (s : State) : State :=
  enterBlocks s.ent.buffered { s with ent := { s.ent with buffered := 0 } }

/-! ### Withholding (R394, R403) -/

/-- A draw that no host command waits for: it parks again instead of ending its command (R332, R356). -/
def patient (s : State) (r : DrawReq) : Bool :=
  match r.task with | some t => decide ((s.task t).opcode = 0x0201) | none => true

/-- Parked requests complete with ENTROPY_WITHHELD. -/
def withholdParked (s : State) : State :=
  let rs := s.ent.parked
  let s := { s with ent := { s.ent with parked := rs.filter (patient s) } }
  rs.foldl (fun s r => if patient s r then s else
    match r.task with | some t => failTask t stEntropyWithheld 0 s | none => s) s

/-- Steps 2 to 4 of R394: generations stop, their bytes are overhead, requests are withheld, the instances go and the
pool is flushed. -/
def stopDraws (s : State) : State :=
  let rs := s.ent.gen.map (·.2)
  let s := { s with ent := { s.ent with
    gen := [], parked := rs ++ s.ent.parked, inst := 0, pool := 0, buffered := 0, counter := [], addDue := 0 } }
  let s := rs.foldl (fun s r => chargeOverhead (entropyCharge r.bytes) (countInflight (entropyCharge r.bytes).neg s)) s
  let s := withholdParked s
  match reseedTask s with
  | some (id, _) => finishTask id stEntropyWithheld 0 [] s
  | none => s

/-- An RSA key generation that runs stops after its current candidate (R278). -/
def stopSearches (s : State) : State :=
  let search (t : Task) : Bool :=
    match t.work, t.job with
    | .op alg type _ _ _ :: _, some j => decide (alg = 0x110) && decide (type = opKeyPair) && (s.job j).unit.isSome
    | _, _ => false
  { s with tasks := mapAll {} (fun _ t => if search t then { t with fate := some stEntropyWithheld } else t) s.tasks }

/-- Steps 2 to 5: recovery on the pairs that remain, or state 3. -/
def entropyScrub (s : State) : State :=
  let s := stopSearches (stopDraws s)
  let s := { s with ent := { s.ent with tested := false } }
  setEntState (if s.pairsInUse < 4 then 3 else 2) s

/-- The source stops at the entry to cone 3 or 4 (R404); at the exit the subsystem starts up again. -/
def entropyGate (s : State) : State :=
  { s with ent := { s.ent with inst := 0, pool := 0, buffered := 0, counter := [], addDue := 0, tested := false } }
def entropyWake (s : State) : State := setEntState 0 { s with ent := { s.ent with tested := false } }

/-- HEALTH_FAILURE of a pair in use (R390, R394). -/
def execHealthFailure (pair : BitVec 3) (test : HealthTest) (s : State) : Answer :=
  let e := s.ent
  let after := decide (e.state = 1) || ((decide (e.state = 0) || decide (e.state = 2)) && e.tested)
  .next (if !after || e.failed.getLsbD pair.toNat then s
    else
      let (bit, source) : Nat × Nat :=
        match test with | .repetition => (0, 269) | .proportion => (1, 269) | .alive => (2, 270) | .lock => (3, 271)
      let s := { s with ent := { e with
        failed := setBit e.failed pair.toNat true, pair, tests := setBit e.tests bit true, fails := e.fails + 1 } }
      entropyScrub (raisePlain source s))

/-- DRBG_REQUEST_START: the request that is due starts (R400). -/
def execDrbgRequestStart (s : State) : Answer := .next (startDraw s)

/-- A write of ENT_TESTCTL: Bisque only; MODE 3 leaves it; a change acts as a lock-and-scrub (R407, R408). -/
def writeTestctl (v : Word) (s : State) : State :=
  let mode : BitVec 2 := v.setWidth 2
  if s.lcs.state ≠ 1 ∨ mode = 3 ∨ mode = s.ent.mode then s
  else entropyScrub { s with ent := { s.ent with mode } }

/-! ### Commands -/

def specEntGetBytes : CmdSpec :=
  { opcode := 0x0800, queue := true, scope := .saggar, owner := true, rings := 0xE, lengthOk := (· = 4) }

def bodyEntGetBytes (rq : Req) (s : State) : CmdRes :=
  let n := rq.field 0 4
  if n < 1 ∨ 65536 < n then failWith stNotPermitted s
  else match respFits rq n with
  | some st => failWith st s
  | none =>
    match drawStatus s with
    | some st => failWith st s
    | none => .wait { rq, work := [.draw n] } s

/-- The bytes are delivered: ENT_HOST counts them (R402). -/
def finishEntGetBytes (t : Task) (s : State) : CmdRes :=
  .done stOk 0 t.drawn { s with ent := { s.ent with host := s.ent.host + BitVec.ofNat 64 t.drawn.length } }

def execEntGetBytes (rq : Req) (s : State) : Answer := .next (runCommand specEntGetBytes rq (bodyEntGetBytes rq) s)

def specEntReseed : CmdSpec := { opcode := 0x0801, phys := true, lengthOk := fun n => decide (4 ≤ n) && decide (n ≤ 260) }

def bodyEntReseed (rq : Req) (s : State) : CmdRes :=
  let n := rq.field 0 2
  let e := s.ent
  if rq.payload.length ≠ 4 + n then failWith stBadLength s
  else if 256 < n ∨ !rq.rsvd 2 2 then failWith stNotPermitted s
  else match drawStatus s with
  | some st => failWith st s
  | none =>
    if e.state = 1 ∧ s.lcs.state ≠ 1 then
      .done stOk 0 [] { s with ent := { e with input := reseedInput rq, addDue := BitVec.allOnes 64 } }
    else
      let take := min e.pool e.inst
      let s := { s with ent := { e with pool := e.pool - take, counter := [], addDue := 0 } }
      if take = e.inst then .done stOk 0 [] { s with ent := { s.ent with input := reseedInput rq } }
      else .wait { rq, work := [.reseed (e.inst - take)] } (raisePlain 273 s)

def execEntReseed (rq : Req) (s : State) : Answer := .next (runCommand specEntReseed rq (bodyEntReseed rq) s)

def specEntStatus : CmdSpec := { opcode := 0x0802, any := true, side := true, lengthOk := (· = 0) }

def bodyEntStatus (_rq : Req) (s : State) : CmdRes :=
  let e := s.ent
  .done stOk 0 (leBytes 1 e.state.toNat ++ leBytes 1 e.failed.toNat ++ leBytes 1 e.inst ++ [0] ++ leBytes 4 e.fails.toNat ++
    leBytes 8 e.host.toNat) s

def execEntStatus (rq : Req) (s : State) : Answer := .next (runCommand specEntStatus rq (bodyEntStatus rq) s)

end Sys2Proof.Machine
end

