-- ==== Sys2Proof/Machine/Abandon.lean ====
section
/-! DEFINITION. Abandoned jobs and commands, and the reset of a host function (R169, R228, R229, R244, R284, R374). -/

namespace Sys2Proof.Machine

/-- A job that runs is abandoned: its unit stops and is wiped, its token returns (R284). After a function reset the saggar
is charged what was executed, which is a free value; after a power fail or a scrub all activity is overhead (R374). -/
def abandonRunning (power : Bool) (id n : Nat) (s : State) : State :=
  let j := s.job id
  let dest : Option Nat := if power || j.overhead then none else some j.saggar.toNat
  let count (s : State) : State :=
    if j.overhead then s else chargeSaggar j.saggar.toNat { abandoned := 1 } (countEngine { abandoned := 1 } s)
  let s :=
    if j.onLane then
      let bytes := (s.free 64).toNat % (j.bytes + 1)
      let cls := laneClass j.alg.toNat
      chargeTo dest (laneCharge cls bytes) (freeLane n cls bytes (s.used 1))
    else
      let ran := (s.free 64).toNat % (opCycles j.alg.toNat j.type j.w 1 + 1)
      let s := freeCrucible n (ran + 1164) (s.used 1)
      let s := chargeTo dest (cycleCharge (ran + 1164)) s
      chargeOverhead (opCharge j.type) (countInflight (opCharge j.type).neg s)
  endJob id (count s)

/-- A job is abandoned, whether it runs or waits. -/
def abandonJob (power : Bool) (id : Nat) (s : State) : State :=
  match (s.job id).unit with
  | some n => abandonRunning power id n s
  | none => dropJob id s

/-- A draw of a command that is gone is nobody's: a parked one is dropped, one in generation becomes overhead. -/
def detachDraws (tid : Nat) (s : State) : State :=
  { s with ent := { s.ent with
      parked := s.ent.parked.filter fun r => decide (r.task ≠ some tid)
      gen := s.ent.gen.map fun e => (e.1, if e.2.task = some tid then { e.2 with task := none } else e.2) } }

/-- Flash work of a command that is gone goes on for nobody. -/
def detachFlash (tid : Nat) (s : State) : State :=
  let off (o : FlashOp) : FlashOp := if o.task = some tid then { o with task := none } else o
  { s with flash := { s.flash with prog := s.flash.prog.map off, era := s.flash.era.map off, queue := s.flash.queue.map off } }

/-- The message a data descriptor works on is discarded (R228, R244). -/
def discardOf (t : Task) (s : State) : State :=
  match t.desc, t.note with
  | some d, m :: _ => endMessage (handleIndex d.session) m s
  | _, _ => s

/-- A command in progress goes without a response: its job is abandoned, what it waits for forgets it. -/
def killTask (power : Bool) (tid : Nat) (s : State) : State :=
  let t := s.task tid
  let s := match t.job with | some j => abandonJob power j s | none => s
  let s := discardOf t s
  let s := detachFlash tid (detachDraws tid s)
  let s := if t.reserved then releaseReservation s else s
  let s := match t.work with
    | .lease _ :: _ => (List.range t.phase).foldl (fun s _ => releaseReservation s) s
    | _ => s
  { s with tasks := mapDel s.tasks tid }

/-- A command in progress is cancelled before its effect point, or runs on and delivers nothing (R169). -/
def cancelTask (power : Bool) (tid : Nat) (s : State) : State :=
  let t := s.task tid
  if t.effected ∧ t.opcode ≠ 0x8000 then s.setTask tid { t with silent := true } else killTask power tid s

/-- The commands in progress that came from a host function. -/
def fnTasks (f : Nat) (s : State) : List Nat :=
  (s.tasks.filter fun e => decide (reqFn e.2.rq s = some f) && decide (e.2.opcode ≠ 0x8002)).map (·.1)

/-- A queue pair of a function after its reset: owner and binding remain (R228). -/
def resetQp (x : QueuePair) : QueuePair := { assigned := x.assigned, owner := x.owner, bound := x.bound }

/-- Reservations a queue pair holds for descriptors not taken up. -/
def QueuePair.held_ (x : QueuePair) : Nat := x.reserved + x.fetched.length

/-- Gives back `n` reservations. -/
def releaseMany (n : Nat) (s : State) : State := (List.range n).foldl (fun s _ => releaseReservation s) s

/-- Every window of the recorder closes (R92, R549). -/
def closeWindows (s : State) : State :=
  { s with evr := { s.evr with windows := mapAll {} (fun _ w => { w with isOpen := false }) s.evr.windows } }

/-- The quorum session closes (R495). -/
def closeQuorum (s : State) : State :=
  if s.cards.isOpen then
    { s with cards := { s.cards with
        isOpen := false, collected := 0, ports := mapAll {} (fun _ p => { p with quorum := false }) s.cards.ports } }
  else s

/-- The messages in progress that started on a queue pair of function `f` are discarded (R228, R244). -/
def discardFnMessages (f : Nat) (s : State) : State :=
  let mine (g : Msg) : Bool := match g.qp with
    | some q => (s.qp q.toNat).assigned && decide ((s.qp q.toNat).owner.toNat = f)
    | none => false
  s.vault.sessions.foldl (fun s e =>
    (e.2.msgs.filter fun m => mine m.2).foldl (fun s m => endMessage e.1 m.1 s) s) s

/-- The reset of function `f` (R169, R228). DMB_CTRL and HIF_QSEL stay as they are. -/
def resetFn (f : Nat) (s : State) : State :=
  let s := discardFnMessages f ((fnTasks f s).foldl (fun s t => cancelTask false t s) s)
  let mine (x : QueuePair) : Bool := x.assigned && decide (x.owner.toNat = f)
  let n := s.hif.qps.foldl (fun n e => if mine e.2 then n + e.2.held_ else n) 0
  let s := releaseMany n { s with hif := { s.hif with
    qps := mapAll {} (fun _ x => if mine x then resetQp x else x) s.hif.qps } }
  let x := s.fn f
  let m := x.mailbox
  settleCurrent <| closeQuorum (closeWindows (s.setFn f { x with
    msix := [], pba := 0
    mailbox := { m with req := [], resp := [], lastStatus := 0, seq := 0, state := 0, task := none } }))

/-- What PCIE_PERST_N and the events of R206 do (R229): every function, the owners, the notification vector and the
bindings; the configuration fields return to their reset values (PRESUMED from the PCIe standard, log entry 62). -/
def resetHost (s : State) : State :=
  let s := (List.range 64).foldl (fun s f => resetFn f s) s
  { s with hif := { s.hif with
      qps := [], gevecIe := false, gevecVec := 0, vfEnable := false, exhausted := false
      fns := mapAll {} (fun _ x => { x with
        memEnable := false, busMaster := false, msixEnable := false, dState := 0, qsel := 0 }) s.hif.fns
      ltrEnable := false, ltrSnoop := 0, ltrNoSnoop := 0, linkUp := false, l12 := false, l2 := false } }

/-- FUNCTION_LEVEL_RESET: event 12, the reset of R228, and the function's own configuration fields (PRESUMED from the PCIe
standard, log entry 62). -/
def execFunctionLevelReset (fn : BitVec 6) (s : State) : Answer :=
  let f := fn.toNat
  .next (if !s.fnExists f then s
    else
      let s := resetFn f (raiseEvent 12 (detail [(2, f)]) s)
      s.setFn f { s.fn f with memEnable := false, busMaster := false, msixEnable := false, dState := 0 })

/-! ### SYS_RESET_FUNCTION (R191, R228) -/

def specSysResetFunction : CmdSpec := { opcode := 0x0103, any := true, lengthOk := (· = 4) }

def bodySysResetFunction (rq : Req) (s : State) : CmdRes :=
  let f := rq.field 0 2
  let allowed := match reqFn rq s with | some g => decide (g = 0) || decide (g = f) | none => false
  if f < 1 ∨ 63 < f ∨ !rq.rsvd 2 2 ∨ !s.fnExists f ∨ !allowed then failWith stNotPermitted s
  else .done stOk 0 [] (resetFn f (raiseEvent 12 (detail [(2, f)]) s))

/-- A function that resets itself receives no response (R169). -/
def execSysResetFunction (rq : Req) (s : State) : Answer :=
  let s' := runCommand specSysResetFunction rq (bodySysResetFunction rq) s
  .next (match takeUp 0x0103 rq s, reqFn rq s with
    | (s1, true), some g =>
      if (preCheck specSysResetFunction rq s1).isNone ∧ g = rq.field 0 2 ∧ 1 ≤ g ∧ g ≤ 63 ∧ rq.rsvd 2 2 then
        (match bodySysResetFunction rq s1 with | .done _ _ _ s2 => s2 | .wait _ s2 => s2)
      else s'
    | _, _ => s')

end Sys2Proof.Machine
end

