-- ==== Sys2Proof/Machine/Tamper.lean ====
section
/-! DEFINITION. Tamper alarms, the two responses, the backup log (R447-R463), and what the responses do in the lanes,
the crucibles, the vault, the handshakes and the entropy subsystem (R182, R248, R286, R315, R359, R403, R456, R457). -/

namespace Sys2Proof.Machine

/-! ### Commands that end at once -/

/-- A command in progress ends with a status before its next job starts: whatever it waits for forgets it. -/
def endTask (tid status : Nat) (s : State) : State :=
  let t := s.task tid
  let s := detachFlash tid (detachDraws tid s)
  let s := match t.work with
    | .lease _ :: _ => (List.range t.phase).foldl (fun s _ => releaseReservation s) s
    | _ => s
  let s := match t.job with | some j => abandonJob true j s | none => s
  let s := if t.opcode = 0x8000 ∧ t.reserved then releaseReservation s else s
  failTask tid status 0 s

/-- The commands the vault refuses while it is locked (R182). -/
def refusedLocked (opcode : Nat) (rq : Req) : Bool :=
  if opcode = 0x0200 then true
  else if opcode / 256 = 3 then decide (opcode ≠ 0x0304) && decide (opcode ≠ 0x0305)
  else if opcode = 0x0402 then decide (rq.field 8 1 = 1)
  else if opcode = 0x0501 then decide (rq.field 0 8 ≠ 0)
  else if opcode = 0x0504 then decide (rq.field 2 1 = 1)
  else if opcode = 0x0B11 then decide (rq.field 0 1 = 2)
  else [0x0400, 0x0403, 0x0500, 0x0502, 0x0503, 0x0505, 0x0600, 0x0602, 0x0603, 0x0604, 0x0B12].contains opcode

/-! ### Units and slices (R23, R533, R535) -/

/-- The unit's number in State.roles. -/
def unitNumber (cls : UnitClass) (i : Nat) : Nat := match cls with | .lane => i | .service => 100 + i | .crucible => 1000 + i

/-- The class of a code. -/
def classOf (n : Nat) : UnitClass := match n with | 0 => .lane | 1 => .crucible | _ => .service

/-- A unit's state is scrubbed (R23): a lane's slots and context store, a service core's registers and memory, a crucible's
operand memory and registers; it reloads the image in force where an activation waits for it (R579). -/
def scrubUnit (u : Nat) (s : State) : State :=
  let s := { s with upd := { s.upd with reload := s.upd.reload.erase u } }
  if u < 100 then s.setLane u { s.lane u with saggar := 0, slots := [], contexts := [] }
  else if u < 1000 then
    let base := 0x20000000 + (u - 100) * 0x40000
    { s with mem := memClear s.mem base (base + 0x40000), cores := mapDel s.cores u }
  else wipe (u - 1000) 0 s

def State.request (s : State) (id : Nat) : BstRequest := mapGet {} s.bst.requests id
def State.setRequest (s : State) (id : Nat) (r : BstRequest) : State :=
  { s with bst := { s.bst with requests := mapPut s.bst.requests id r } }

/-- A number enters a rising list. -/
def insertSorted (n : Nat) : List Nat → List Nat
  | [] => [n]
  | m :: rest => if n ≤ m then n :: m :: rest else m :: insertSorted n rest

/-- A slice is displaced: its request waits again (R20, R533). -/
def displace (id : Nat) (s : State) : State :=
  let r := s.request id
  let s := scrubUnit (unitNumber (classOf r.cls.toNat) r.unit.toNat) s
  let s := s.setRequest id { r with state := 4 }
  { s with bst := { s.bst with running := s.bst.running.erase id, waiting := insertSorted id s.bst.waiting } }

/-- The slices of lanes and crucibles stop and wait again (R535). -/
def displaceSlices (s : State) : State :=
  (s.bst.running.filter fun id => decide ((s.request id).cls.toNat ≤ 1)).foldl (fun s id => displace id s) s

/-! ### The lock response on the compute die -/

/-- A chunk whose job has not started leaves its message as it was before it (R238, R456). -/
def undoChunk (t : Task) (s : State) : State :=
  match t.desc, t.note with
  | some d, m :: h :: _ =>
    let i := handleIndex d.session
    let x := s.session i
    if DataDescFirst d then
      s.setSession i { x with
        msgs := mapDel x.msgs m, cur := if x.cur = some m then none else x.cur
        high := if x.high ≠ some d.seq then x.high else if h = 0 then none else some (BitVec.ofNat 64 (h - 1)) }
    else
      s.setSession i { x with
        msgs := mapMod {} x.msgs m fun g => { g with text := g.text - d.length.toNat }, cur := some m }
  | _, _ => s

/-- The job of a command has started. -/
def jobStarted (t : Task) (s : State) : Bool := match t.job with | some j => (s.job j).unit.isSome | none => false

/-- The incomplete handshake a step works on. -/
def stepShake (t : Task) (s : State) : Bool :=
  decide (t.opcode = 0x0601) && (match t.note with | i :: _ => decide ((s.shake i).state ≠ 0x100) | [] => false)

/-- What the lock does to one command in progress: a descriptor or a job that has not started ends with TAMPER_LOCKED; one
that has started runs to its end, and a command that would need more goes no further. -/
def lockTask (tid : Nat) (s : State) : State :=
  let t := s.task tid
  let waitsKey := match t.job with | some j => (s.job j).keyWait | none => false
  if t.opcode = 0x8000 then
    (if jobStarted t s then s
     else match t.job with
      | some j =>
        if (match t.work with | .lane :: _ => true | _ => false) then
          failTask tid stTamperLocked 0 (undoChunk t (s.setJob j { s.job j with session := none }))
        else s
      | none => s)
  else if waitsKey then endTask tid stTamperLocked s
  else if stepShake t s then
    (if jobStarted t s then s.setTask tid { t with fate := some stTamperLocked } else endTask tid stTamperLocked s)
  else if refusedLocked t.opcode.toNat t.rq && !t.effected then
    (if !jobStarted t s then endTask tid stTamperLocked s
     else if t.work.length ≤ 1 then s
     else s.setTask tid { t with fate := some stTamperLocked })
  else s

/-- The lock response on the compute die: sessions freeze, incomplete handshakes go, jobs that have not started end (R182,
R248, R286, R315, R359, R456). -/
def lockEffects (s : State) : State :=
  let s := (s.tasks.map (·.1)).reverse.foldl (fun s t => lockTask t s) s
  let s := (s.vault.shakes.filter fun e => e.2.live && decide (e.2.state ≠ 0x100)).foldl (fun s e => dropShake e.1 s) s
  { s with vault := { s.vault with
      sessions := mapAll {} (fun _ x => if x.live then { x with frozen := true } else x) s.vault.sessions } }

/-- Sessions go back to their state at the unlock (R456). -/
def thaw (s : State) : State :=
  { s with vault := { s.vault with
      sessions := mapAll {} (fun _ x => { x with frozen := false }) s.vault.sessions } }

/-- The lock-and-scrub response on the compute die: every job is abandoned, its command completes with TAMPER_LOCKED, the
lanes are cleared, leases, saggars and all they held go (R248, R286, R359, R403, R457). -/
def scrubEffects (s : State) : State :=
  let live := (s.jobs.map (·.1)).reverse
  let s := live.foldl (fun s j => match (s.job j).task with
    | some _ => s
    | none => if (s.job j).unit.isSome then addSignJobs 1 (abandonJob true j s) else s) s
  let held (t : Task) : Bool := t.opcode = 0x8000 || t.job.isSome || (!t.effected && decide (t.opcode ≠ 0x1001))
  let s := ((s.tasks.filter fun e => held e.2).map (·.1)).reverse.foldl (fun s t => endTask t stTamperLocked s) s
  let s := (s.vault.leases.map (·.1)).foldl (fun s l => endLease l true (chargeLease l (leaseCycles l s) (s.used 1))) s
  let s := ((s.vault.saggars.filter fun e => e.2.live).map (·.1)).foldl (fun s h => scrubSaggar h s) s
  let s := { s with lanes := { s.lanes with
      lane := mapAll {} (fun _ l => { l with saggar := 0, slots := [], contexts := [] }) s.lanes.lane } }
  entropyScrub (displaceSlices { s with vault := { s.vault with kekValid := false, roots := false } })

/-- The compute die is clocked: it acts on the tamper line at once, else at its next exit or boot (R455, R462). -/
def computeOn (s : State) : Bool := s.pwr.released && decide (s.pwr.cone.toNat ≤ 2)

/-- What a lock state asks of the compute die. -/
def applyLock (s : State) : State :=
  let s := { s with vault := { s.vault with lockSeen := s.bk.lock } }
  if s.bk.lock = 0 then s
  else
    raiseEvent 254 (detail [(1, s.bk.lock.toNat)])
      (if s.bk.lock = 2 then lockEffects (scrubEffects s) else lockEffects s)

/-! ### Alarms -/

/-- A detector runs (R449). -/
def detectorRuns (d : Nat) (s : State) : Bool :=
  let mains := s.sup.vddVault || s.sup.vddHold
  if s.bk.fuseDis.getLsbD d then false
  else match d with
  | 0 | 1 | 3 | 4 => mains
  | 2 => s.sup.vddVault
  | 6 => mains && decide (s.pwr.cone.toNat ≤ 3)
  | 7 => mains
  | 5 | 8 | 9 | 10 | 11 | 12 | 13 => mains || s.sup.vbat
  | _ => false

/-- The class of a detector. -/
def Backup.cls (b : Backup) (d : Nat) : Nat := b.classes.toNat / 4 ^ d % 4

/-- The supply the backup domain runs from (R463). -/
def supplyCode (s : State) : Nat := if s.sup.vddVault then 0 else if s.sup.vddHold then 1 else 2

/-- TAMPER_N follows the lock state while VDD_VAULT is present (R458). -/
def drivePin (s : State) : State :=
  { s with pins := { s.pins with tamper := decide (s.bk.lock ≠ 0) && s.sup.vddVault } }

/-- An alarm joins the log entry of its ember cycle (R463). -/
def gather (d cls : Nat) (designs : BitVec 2) (s : State) : State :=
  let b := s.bk
  let fresh : TamperEntry :=
    { mask := BitVec.ofNat 16 (2 ^ d), cls := BitVec.ofNat 8 cls, time := BitVec.ofNat 32 (s.pwr.aon.toNat / 65536)
      lockseq := b.lockseq, supply := BitVec.ofNat 8 (supplyCode s), design := designs.setWidth 8 }
  let due := match b.due.getLast? with
    | some e =>
      if e.mask.toNat < 2 ^ 14 then
        changeLastEntry (fun e => { e with
          mask := e.mask ||| fresh.mask, cls := BitVec.ofNat 8 (max e.cls.toNat cls), lockseq := b.lockseq
          design := e.design ||| fresh.design }) b.due
      else b.due ++ [fresh]
    | none => [fresh]
  { s with bk := { b with due } }
where
  /-- Changes the newest entry that waits. -/
  changeLastEntry (f : TamperEntry → TamperEntry) : List TamperEntry → List TamperEntry
    | [] => []
    | [e] => [f e]
    | e :: rest => e :: changeLastEntry f rest

/-! ### The debug session (R483, R484) -/

/-- Every unit under debug is scrubbed and returns in the spare role (R483). -/
def releaseDebug (s : State) : State :=
  ((s.roles.filter fun e => decide (e.2 = .debug)).map (·.1)).foldl (fun s u => (scrubUnit u s).setRole u .spare) s

/-- A debug session closes (R484). -/
def closeDebug (s : State) : State :=
  if !s.lcs.isOpen then s
  else raisePlain 295 (releaseDebug { s with lcs := { s.lcs with isOpen := false, rights := 0, signer := false } })

/-- The lock state takes a class (R453, R454). -/
def takeClass (cls : Nat) (s : State) : State :=
  let b := s.bk
  if cls = 0 ∨ (cls = 1 ∧ b.lock ≠ 0) then s
  else
    let before := s
    let advance := decide (b.lock = 0)
    let s := { s with bk := { b with
      lock := if cls = 2 then 2 else 1
      lockseq := if advance then b.lockseq + 1 else b.lockseq
      copyDue := b.copyDue || advance
      seed := if cls = 2 then [] else b.seed
      saveKey := if cls = 2 then [] else b.saveKey } }
    let s := if cls = 2 then
        closeDebug { s with vault := { s.vault with kekValid := false }, pwr := { s.pwr with saved := false } } else s
    let s := noteHealth before (drivePin s)
    let s := if s.bk.lock = before.bk.lock then s else closeQuorum s
    if computeOn s then applyLock s else s

/-- TMP_UNLOCK commands under way end with NOT_PERMITTED: an alarm came before their effect point (R468). -/
def stopUnlock (s : State) : State :=
  ((s.tasks.filter fun e => decide (e.2.opcode = 0x1001) && !e.2.effected).map (·.1)).foldl
    (fun s t => endTask t stNotPermitted s) s

/-- An alarm of detector `d` in the designs given (R452). -/
def alarm (d : Nat) (designs : BitVec 2) (s : State) : State :=
  let cls := s.bk.cls d
  let b := s.bk
  let s := { s with bk := { b with
    latch := setBit b.latch d true
    designA := if designs.getLsbD 0 then setBit b.designA d true else b.designA
    designB := if designs.getLsbD 1 then setBit b.designB d true else b.designB } }
  let s := if s.sup.vddVault ∨ s.sup.vddHold then raisePlain (280 + d) s else s
  let s := if cls = 0 then s else stopUnlock s
  gather d cls designs (takeClass cls s)

/-- TAMPER_ALARM: a detector that runs alarms in one design or both (R448, R450, R452). -/
def execTamperAlarm (d : BitVec 4) (designs : BitVec 2) (under : Bool) (s : State) : Answer :=
  let i := d.toNat
  .next (if !detectorRuns i s || decide (designs = 0) || (s.bk.disarmed && under && decide (i ≤ 2)) then s
    else alarm i designs { s with bk := { s.bk with active := setBit s.bk.active i true } })

/-- DETECTOR_STIMULUS: the designs given did not respond to the built-in stimulus, on main power (R448). -/
def execDetectorStimulus (d : BitVec 4) (designs : BitVec 2) (s : State) : Answer :=
  .next (if !detectorRuns d.toNat s || decide (designs = 0) || !(s.sup.vddVault || s.sup.vddHold) then s else alarm d.toNat designs s)

/-- TAMPER_ALARM_END: the detector is quiet again. -/
def execTamperAlarmEnd (d : BitVec 4) (s : State) : Answer :=
  .next { s with bk := { s.bk with active := setBit s.bk.active d.toNat false } }

/-! ### The backup log -/

/-- An entry enters the ring of 16, merging as a repeat where it equals the newest (R463). -/
def enterTamper (e : TamperEntry) (b : Backup) : Backup :=
  let add : Backup := { b with log := (b.log ++ [{ e with seq := b.next }]).drop (b.log.length - 15), next := b.next + 1 }
  match b.log.getLast? with
  | some n =>
    if n.mask = e.mask ∧ n.cls = e.cls ∧ e.mask.toNat < 2 ^ 14 then
      { b with log := b.log.dropLast ++ [{ n with repeats := BitVec.ofNat 8 (min 255 (n.repeats.toNat + 1)) }] }
    else add
  | none => add

/-- TAMPER_LOG_ENTRY: the ember cycle ends and its entries are written (R463, R469). -/
def execTamperLogEntry (s : State) : Answer :=
  .next (if s.bk.due = [] then s
    else
      let b := s.bk.due.foldl (fun b e => enterTamper e b) s.bk
      { s with bk := { b with due := [], hours := s.lcs.hours } })

/-- A start of the backup domain: without the validity pattern every backup field takes its default, the lock state is 2
and the backup-lost entry is the first of the log (R461). -/
def startBackup (s : State) : State :=
  let b := s.bk
  (if b.valid then s
    else
      let entry : TamperEntry :=
        { mask := 0x8000, cls := 2, time := 0, supply := BitVec.ofNat 8 (supplyCode s) }
      drivePin { s with
        bk := { valid := true, log := [entry], next := 1, fuseDis := b.fuseDis, seqCopy := b.seqCopy
                classCopy := b.classCopy, freshSeq := true, active := b.active }
        tal := { s.tal with timeSet := false, offset := 0 }
        fabric := { s.fabric with starts := 0 }
        flash := { s.flash with groups := mapAll {} (fun _ g => { g with fails := 0, lockout := false }) s.flash.groups }
        pwr := { s.pwr with aon := 0, ratio := Config.fusedRatio, rstCause := 1, saved := false } })

/-- BACKUP_DOMAIN_START (R461). Without main power and VDD_HOLD a start says that VBAT was absent too, and the content is
lost (R65, log entry 121). -/
def execBackupDomainStart (s : State) : Answer :=
  .next (startBackup (if s.sup.vddVault || s.sup.vddHold then s else { s with bk := { s.bk with valid := false } }))

/-- LOCKSEQ_COPY_WRITE: the copy of LOCKSEQ in the flash follows an advance (R461). -/
def execLockseqCopyWrite (s : State) : Answer :=
  .next (if s.bk.copyDue && s.sup.vddVault then
    { s with bk := { s.bk with copyDue := false, seqCopy := some s.bk.lockseq } } else s)

/-! ### The unlock (R326, R359, R467) -/

/-- Whether a BBKR's check value fails. -/
def Backup.noSeed (b : Backup) : Bool := decide (b.seed = [])

/-- The vault creates a KEK seed where none is valid, once it is unlocked and the source has passed its test (R326); in
Shard it derives no KEK (R477). -/
def makeSeed (s : State) : State :=
  if s.lcs.state = 3 then s
  else if s.bk.noSeed && decide (s.bk.lock = 0) && s.ent.tested then
    raiseEvent 249 0 (drawOverhead 32 ({ s with
      bk := { s.bk with seed := s.freeBytes 32 }
      vault := { s.vault with kekValid := true, roots := true, seedDue := false } }.used 1))
  else if s.bk.noSeed then { s with vault := { s.vault with seedDue := true } }
  else s

/-- The record that decides a saggar id under the KEK in force: its newest root or tombstone (R330). -/
def decidingRecord (h : Nat) (s : State) : Option LogRecord :=
  (s.vault.log.filter fun r => decide (r.saggar.toNat = h) && decide (r.type ≠ 2) && decide (r.seed = s.bk.seed)).foldl
    (fun b r => match b with | some q => if q.seq < r.seq then some r else some q | none => some r) none

/-- The settings record that applies over a root record. -/
def applyingRecord (root : LogRecord) (s : State) : Option LogRecord :=
  (s.vault.log.filter fun r => decide (r.saggar = root.saggar) && decide (r.type = 2) && decide (r.seed = s.bk.seed) &&
      decide (root.seq < r.seq)).foldl
    (fun b r => match b with | some q => if q.seq < r.seq then some r else some q | none => some r) none

/-- The vault reads the saggar log: each saggar of a root record exists with its owner and settings (R330, R359). -/
def readLog (s : State) : State :=
  let ignored := (s.vault.log.filter fun r => decide (r.seed ≠ s.bk.seed)).length
  let s := if ignored = 0 then s else raiseEvent 248 (detail [(4, ignored)]) s
  let s := (List.range 4096).foldl (fun s h =>
    match decidingRecord h s with
    | some r =>
      if r.type ≠ 1 ∨ (s.saggar h).live then s
      else
        let q := (applyingRecord r s).getD r
        s.setSaggar h { live := true, owner := r.owner, weight := q.weight, quota := q.quota, policy := q.policy, root := r.root }
    | none => s) s
  { s with vault := { s.vault with kekValid := true, roots := true } }

/-- The write of lock state 0 (R467): latches and BACKUP_LOST clear, the unlock is logged, the vault gets its KEK back. -/
def unlock (s : State) : State :=
  let b := s.bk
  let before := s
  let entry : TamperEntry :=
    { mask := 0x4000, cls := 3, time := BitVec.ofNat 32 (s.pwr.aon.toNat / 65536), lockseq := b.lockseq
      supply := BitVec.ofNat 8 (supplyCode s) }
  let s := { s with bk := { b with
    lock := 0, latch := 0, designA := 0, designB := 0, lost := false, due := b.due ++ [entry]
    seqCopy := some b.lockseq, copyDue := false } }
  let s := closeQuorum (drivePin (thaw { s with vault := { s.vault with lockSeen := 0 } }))
  let s := noteHealth before (raiseEvent 254 0 s)
  if s.bk.noSeed then makeSeed s
  else if s.vault.roots then { s with vault := { s.vault with kekValid := true } }
  else readLog s

end Sys2Proof.Machine
end

