-- ==== Sys2Proof/Machine/CmdFlash.lean ====
section
/-! DEFINITION. The flash controller's commands, its protection groups and its erase suspend (R433-R446), and the memory
subsystem's events (R420-R424). -/

namespace Sys2Proof.Machine

/-! ### The register interface -/

/-- FLC_CMD: 1 programs the page of FLC_ADDR from FLC_BUF, 2 erases its sector; a kind that runs already sets ERR, a check
that fails gives its RESULT (R433, R435). -/
def flashCommand (op : Nat) (s : State) : State :=
  let f := s.flash
  let addr := f.addr.toNat * 256
  let o : FlashOp :=
    if op = 2 then { erase := true, addr := addr / 4096 * 4096, byReg := true }
    else { addr, bytes := (List.range 64).flatMap fun i => leBytes 4 (mapGet 0 f.buf i).toNat, byReg := true }
  if op ≠ 1 ∧ op ≠ 2 then s
  else if (if op = 2 then f.era.isSome else f.prog.isSome) then { s with flash := { f with err := true } }
  else match flashCheck o s with
  | some r => flashRefused r { s with flash := { f with result := BitVec.ofNat 4 r } }
  | none =>
    if op = 2 then { s with flash := { f with era := some o } } else { s with flash := { f with prog := some o } }

/-! ### Reads and the erase suspend (R431, R436) -/

/-- Areas whose page layout no chapter states (configuration, journal, recorder, repair maps): a read brings free bytes. -/
def openArea (off : Nat) : Bool :=
  (decide (0x800000 ≤ off) && decide (off < 0x900000)) || (decide (0xD00000 ≤ off) && decide (off < 0x1040000))

/-- A read of a bank in which an erase runs suspends it. -/
def suspendErase (off : Nat) (s : State) : State :=
  match s.flash.era with
  | some o =>
    if physSector (o.addr / 4096) s % 4 = physSector (off / 4096) s % 4 then
      { s with flash := { s.flash with suspended := true } } else s
  | none => s

/-- `n` bytes of the read window at an offset. -/
def windowRead (off n : Nat) (s : State) : List Byte × State :=
  let s' := suspendErase off s
  if openArea off then (s'.freeBytes n, s'.used 1) else (flashRead off n s', s')

/-- ERASE_RESUME: the last pending read of the bank is done. -/
def execEraseResume (s : State) : Answer := .next { s with flash := { s.flash with suspended := false } }

/-- BACKGROUND_REERASE: the erase of an erase-pending sector starts when no erase runs (R440). -/
def execBackgroundReerase (sector : BitVec 13) (s : State) : Answer :=
  .next (if s.flash.erasePending.contains sector.toNat && s.flash.era.isNone then
    { s with flash := { s.flash with era := some { erase := true, addr := sector.toNat * 4096 } } } else s)

/-! ### Protection groups (R443) -/

def groupHash (g : Nat) (pw : List Byte) : List Byte := stdHash 8 32 (serialBytes ++ [BitVec.ofNat 8 g] ++ pw)

def specFlsProtect : CmdSpec := { opcode := 0x0902, phys := true, lengthOk := (· = 24) }

/-- A range of operator sectors overlaps no group but `g` and stays below sector 3,776. -/
def rangeOk (g first count : Nat) (s : State) : Bool :=
  decide (first + count ≤ 3776) &&
    !(s.flash.groups.any fun e => decide (e.1 ≠ g) && decide (e.2.state ≠ 0) &&
      decide (first < e.2.first.toNat + e.2.count.toNat) && decide (e.2.first.toNat < first + count))

def bodyFlsProtect (rq : Req) (s : State) : CmdRes :=
  let g := rq.field 0 1
  let first := rq.field 4 2
  let count := rq.field 6 2
  let pw := rq.bytes 8 16
  let x : FlashGroup := mapGet {} s.flash.groups g
  let put (x : FlashGroup) : CmdRes :=
    .done stOk 0 [] { s with flash := { s.flash with groups := mapSet {} s.flash.groups g x } }
  if 63 < g ∨ 1 < rq.field 1 1 ∨ !rq.rsvd 2 2 then failWith stNotPermitted s
  else if rq.field 1 1 = 0 then (if x.state = 0 then failWith stNotPermitted s else put { x with state := 2, table := x.table.map fun t => (t.1, t.2.1, 2) })
  else if x.state = 2 then failWith stLocked s
  else if count = 0 then put { fails := x.fails, lockout := x.lockout }
  else if !rangeOk g first count s ∨ allZero pw then failWith stNotPermitted s
  else put { x with
    first := BitVec.ofNat 12 first, count := BitVec.ofNat 12 count, hash := groupHash g pw
    state := if x.state = 3 then 3 else 1, table := none }

def execFlsProtect (rq : Req) (s : State) : Answer := .next (runCommand specFlsProtect rq (bodyFlsProtect rq) s)

def specFlsUnlockGroup : CmdSpec := { opcode := 0x0903, phys := true, lengthOk := (· = 20) }

def bodyFlsUnlockGroup (rq : Req) (s : State) : CmdRes :=
  let g := rq.field 0 1
  let x : FlashGroup := mapGet {} s.flash.groups g
  let put (x : FlashGroup) : State := { s with flash := { s.flash with groups := mapSet {} s.flash.groups g x } }
  if 63 < g ∨ !rq.rsvd 1 3 ∨ x.state.toNat < 2 ∨ x.lockout then failWith stNotPermitted s
  else if groupHash g (rq.bytes 4 16) = x.hash then .done stOk 0 [] (put { x with state := 3, fails := 0 })
  else
    let x := { x with fails := x.fails + 1, lockout := decide (8 ≤ x.fails + 1) }
    .done stAuthFail 0 [] (if x.fails = 8 then raisePlain 279 (put x) else put x)

def execFlsUnlockGroup (rq : Req) (s : State) : Answer :=
  .next (runCommand specFlsUnlockGroup rq (bodyFlsUnlockGroup rq) s)

/-- UNLOCK_LOCKOUT_EXPIRY: one hour after the last failure the group takes passwords again. -/
def execUnlockLockoutExpiry (group : BitVec 6) (s : State) : Answer :=
  .next { s with flash := { s.flash with
    groups := mapMod {} s.flash.groups group.toNat fun x => { x with lockout := false } } }

/-- The registers of a group as the group table gives them; a group opened by password is locked again (R443, R445). -/
def FlashGroup.loaded (x : FlashGroup) : FlashGroup :=
  let t := x.table.getD (x.first, x.count, x.state)
  { x with first := t.1, count := t.2.1, state := if t.2.2 = 3 then 2 else t.2.2, table := none }

/-- The groups after a reset that keeps only what POR_N keeps. -/
def relockGroups (s : State) : State :=
  { s with flash := { s.flash with groups := mapAll {} (fun _ x => x.loaded) s.flash.groups } }

/-! ### The memory subsystem -/

/-- CHANNEL_FAILING: more than 64 line reads failed within 1 s (R424). -/
def execChannelFailing (channel : BitVec 4) (s : State) : Answer :=
  let c := channel.toNat
  .next (if !s.msub.trained.getLsbD c || s.msub.failing.getLsbD c then s
    else raisePlain 262 { s with
      msub := { s.msub with failing := setBit s.msub.failing c true, recorded := setBit s.msub.recorded c true }
      lanes := { s.lanes with spillEn := false } })

/-- A retraining of a channel starts (R423). -/
def startRetrain (c : Nat) (task : Option Nat) (s : State) : State :=
  raisePlain 263 { s with msub := { s.msub with retrain := some { channel := c, task } } }

/-- DRIFT_CHECK: drift above 15 % of a unit interval retrains the channel, or waits while another is retrained (R422,
R423). -/
def execDriftCheck (channel : BitVec 4) (driftPercent : Nat) (s : State) : Answer :=
  let c := channel.toNat
  .next (if !s.msub.trained.getLsbD c || decide (driftPercent ≤ 15) then s
    else
      let s := raisePlain 265 s
      if s.msub.retrain.isNone then startRetrain c none s
      else if s.msub.waiting.contains c then s
      else { s with msub := { s.msub with waiting := s.msub.waiting ++ [c] } })

/-- A counter that saturates. -/
def bump (top : Nat) (m : FMap Nat) (c : Nat) : FMap Nat := mapMod 0 m c fun n => min top (n + 1)

/-- RETRAIN_STEP: one step; the last one ends the retraining, and the next that waits starts (R423). -/
def execRetrainStep (passes last : Bool) (s : State) : Answer :=
  .next (match s.msub.retrain with
    | none => s
    | some r =>
      let failed := r.failed || !passes
      if !last then { s with msub := { s.msub with retrain := some { r with failed } } }
      else
        let m := s.msub
        let s := { s with msub := { m with
          retrain := none, retrains := bump 255 m.retrains r.channel
          failSteps := if failed then bump 255 m.failSteps r.channel else m.failSteps } }
        let s := if failed then raisePlain 264 s else s
        let s := raisePlain 263 s
        let s := match r.task with | some t => finishTask t stOk 0 [] s | none => s
        match s.msub.waiting with
        | c :: rest => startRetrain c none { s with msub := { s.msub with waiting := rest } }
        | [] => s)

/-- ZQ_CALIBRATION: the channel's drivers are calibrated (R422); no register and no datum shows it. -/
def execZqCalibration (_channel : BitVec 4) (s : State) : Answer := .next s

end Sys2Proof.Machine
end

