-- ==== Sys2Proof/Machine/CmdTmp.lean ====
section
/-! DEFINITION. The tamper commands (R202, R459, R465-R469). -/

namespace Sys2Proof.Machine

def specTmpStatus : CmdSpec := { opcode := 0x1000, phys := true, side := true, lengthOk := (· = 0) }

/-- The mask of detectors that satisfy a test. -/
def detectorMask (p : Nat → Bool) : BitVec 14 := BitVec.ofNat 14 ((List.range 14).foldl (fun n d => if p d then n + 2 ^ d else n) 0)

/-- TMP_ACTIVE: detectors that run and alarm now (R449). -/
def State.tmpActive (s : State) : BitVec 14 := detectorMask fun d => s.bk.active.getLsbD d && detectorRuns d s

/-- TMP_LATCH: latches of detectors that no fuse disables (R451). -/
def State.tmpLatch (s : State) : BitVec 14 := s.bk.latch &&& ~~~s.bk.fuseDis

def bodyTmpStatus (rq : Req) (s : State) : CmdRes :=
  let b := s.bk
  let bytes := [b.lock.setWidth 8, 0] ++ leBytes 2 s.tmpActive.toNat ++ leBytes 2 s.tmpLatch.toNat ++
    leBytes 2 b.fuseDis.toNat ++ leBytes 1 b.log.length ++ leBytes 7 0 ++ leBytes 4 b.hours.toNat ++ leBytes 12 0
  let clears := match reqFn rq s with | some f => decide (f = 0) | none => false
  .done stOk 0 bytes (if clears then
    { s with bk := { b with
        latch := b.latch &&& ~~~(detectorMask fun d => !s.tmpActive.getLsbD d && decide (b.cls d = 0)) } } else s)

def execTmpStatus (rq : Req) (s : State) : Answer := .next (runCommand specTmpStatus rq (bodyTmpStatus rq) s)

/-! ### TMP_SET_RESPONSE and TMP_CLASS (R459) -/

/-- Classes may be lowered in this life-cycle state. -/
def State.classFree (s : State) : Bool := decide (s.lcs.state = 0) || decide (s.lcs.state = 1)

/-- The class of one detector in a word of classes. -/
def putClass (w : BitVec 28) (d c : Nat) : BitVec 28 :=
  BitVec.ofNat 28 (w.toNat - w.toNat / 4 ^ d % 4 * 4 ^ d + c * 4 ^ d)

/-- A class is set, and copied to the flash. -/
def setClasses (w : BitVec 28) (s : State) : State := { s with bk := { s.bk with classes := w, classCopy := some w } }

def specTmpSetResponse : CmdSpec := { opcode := 0x1002, phys := true, lengthOk := (· = 4) }

def bodyTmpSetResponse (rq : Req) (s : State) : CmdRes :=
  let d := rq.field 0 1
  let c := rq.field 1 1
  if 13 < d ∨ 2 < c ∨ !rq.rsvd 2 2 then failWith stNotPermitted s
  else if !s.classFree ∧ c < s.bk.cls d then failWith stNotPermitted s
  else .done stOk 0 [] (setClasses (putClass s.bk.classes d c) s)

def execTmpSetResponse (rq : Req) (s : State) : Answer := .next (runCommand specTmpSetResponse rq (bodyTmpSetResponse rq) s)

/-- A write of TMP_CLASS: a field of 3 is unchanged; where classes may not be lowered the higher one is kept. -/
def writeClass (v : Word) (s : State) : State :=
  setClasses ((List.range 14).foldl (fun w d =>
    let c := v.toNat / 4 ^ d % 4
    if c = 3 ∨ (!s.classFree ∧ c < s.bk.cls d) then w else putClass w d c) s.bk.classes) s

/-! ### TMP_UNLOCK (R465-R468) -/

/-- The custodian set: M, N and the keys; none where none is enrolled. -/
def State.custodians (s : State) : Option (Nat × Nat × List Byte) :=
  let v := mapGet [] s.flash.items 0x1000
  if v = [] then none else some (leField v 0 1, leField v 1 1, v.drop 4)

/-- The key of custodian `i`. -/
def custodianKey (keys : List Byte) (i : Nat) : List Byte := sliceBytes keys (65 * i) 65

/-- The statement a custodian signs. -/
def unlockStatement (s : State) (i : Nat) : List Byte :=
  ascii "SXT4192-UNLOCK" ++ serialBytes ++ leBytes 2 s.bk.lockseq.toNat ++ leBytes 1 i

/-- A custodian's signature verifies. -/
def custodianOk (s : State) (keys : List Byte) (i : Nat) (sig : List Byte) : Bool :=
  stdVerify 0x101 0 0 (custodianKey keys i) sig (stdHash 8 32 (unlockStatement s i))

def specTmpUnlock : CmdSpec := { opcode := 0x1001, phys := true, lengthOk := fun n => decide (12 ≤ n) && decide (n ≤ 556) }

/-- Custodian index and signature of entry `j` of the evidence. -/
def evidenceIndex (rq : Req) (j : Nat) : Nat := rq.field (12 + 68 * j) 1
def evidenceSig (rq : Req) (j : Nat) : List Byte := rq.bytes (16 + 68 * j) 64

/-- A verification of a custodian's signature as a crucible operation of overhead. -/
def custodianWork : Work := .op 0x101 opVerify 4 none true

def finishTmpUnlock (t : Task) (s : State) : CmdRes :=
  let rq := t.rq
  let k := rq.field 8 1
  let good := match s.custodians with
    | some (_, _, keys) => (List.range k).all fun j => custodianOk s keys (evidenceIndex rq j) (evidenceSig rq j)
    | none => true
  if !good then failWith stAuthFail s else .done stOk 0 [] (unlock s)

def bodyTmpUnlock (rq : Req) (s : State) : CmdRes :=
  let len := rq.field 0 4
  let k := rq.field 8 1
  let active := s.tmpActive
  if rq.payload.length ≠ 8 + len ∨ 8 < k ∨ len ≠ 4 + 68 * k then failWith stBadLength s
  else if !rq.rsvd 4 4 ∨ !rq.rsvd 9 3 then failWith stNotPermitted s
  else if s.bk.lock = 0 ∨ (List.range 14).any (fun d => active.getLsbD d && decide (s.bk.cls d ≠ 0)) then
    failWith stNotPermitted s
  else if s.cards.isOpen ∨ (s.tasks.any fun e => decide (e.2.opcode = 0x1001)) then failWith stBusy s
  else match s.custodians with
  | none => finishTmpUnlock { rq } s
  | some (m, n, _) =>
    let ids := (List.range k).map (evidenceIndex rq)
    if k < m ∨ !decide ids.Nodup ∨ ids.any (fun i => decide (n ≤ i)) then failWith stAuthFail s
    else .wait { rq, work := List.replicate k custodianWork } s

def execTmpUnlock (rq : Req) (s : State) : Answer := .next (runCommand specTmpUnlock rq (bodyTmpUnlock rq) s)

end Sys2Proof.Machine
end

