-- ==== Sys2Proof/Machine/Cards.lean ====
section
/-! DEFINITION. The custodian ports and the archive port (R489-R509). -/

namespace Sys2Proof.Machine

def State.port (s : State) (n : Nat) : CardPort := mapGet {} s.cards.ports n
def State.setPort (s : State) (n : Nat) (p : CardPort) : State :=
  { s with cards := { s.cards with ports := mapSet {} s.cards.ports n p } }

/-! ### The answer to reset (R489, R491, R492) -/

/-- Interface characters of one group, where present: TA, TB, TC, TD. -/
abbrev AtrGroup := Option Nat × Option Nat × Option Nat × Option Nat

/-- The interface groups that a format nibble announces, and the characters after them; none where the string is too
short. -/
def atrGroups : Nat → Nat → List Nat → Option (List AtrGroup × List Nat)
  | 0, _, rest => some ([], rest)
  | fuel + 1, y, rest =>
    let take (b : Nat) (r : List Nat) : Option (Option Nat × List Nat) :=
      if y / b % 2 = 1 then (match r with | x :: t => some (some x, t) | [] => none) else some (none, r)
    match take 1 rest with
    | none => none
    | some (a, r) =>
      match take 2 r with
      | none => none
      | some (b, r) =>
        match take 4 r with
        | none => none
        | some (c, r) =>
          match take 8 r with
          | none => none
          | some (none, r) => some ([(a, b, c, none)], r)
          | some (some d, r) => (atrGroups fuel (d / 16) r).map fun g => ((a, b, c, some d) :: g.1, g.2)

/-- The groups of a valid ATR: TS, the lengths and TCK agree (R491, R492). -/
def parseAtr (atr : List Byte) : Option (List AtrGroup) :=
  match atr.map (·.toNat) with
  | ts :: t0 :: rest =>
    if ts ≠ 0x3B ∧ ts ≠ 0x3F ∨ 33 < atr.length then none
    else match atrGroups 32 (t0 / 16) rest with
    | none => none
    | some (groups, tail) =>
      let check := groups.any fun g => match g.2.2.2 with | some d => decide (d % 16 ≠ 0) | none => false
      if tail.length ≠ t0 % 16 + (if check then 1 else 0) then none
      else if check ∧ (t0 :: rest).foldl (fun x b => x ^^^ b) 0 ≠ 0 then none
      else some groups
  | _ => none

/-- The protocols an ATR offers: T=0 where no TD1 names one. -/
def atrOffers (groups : List AtrGroup) (proto : Nat) : Bool :=
  match groups.filterMap fun g => g.2.2.2 with
  | [] => decide (proto = 0)
  | ds => ds.any fun d => decide (d % 16 = proto)

/-- F of TA1 is 372, 512, 558 or 744 and D is 1, 2, 4 or 8 (R489). -/
def factorsOk (ta1 : Nat) : Bool := [0, 1, 2, 3, 9].contains (ta1 / 16) && [1, 2, 3, 4].contains (ta1 % 16)

/-- TA1 of an ATR, if any. -/
def atrTa1 (groups : List AtrGroup) : Option Nat := match groups with | g :: _ => g.1 | [] => none

/-- The ATR asks for nothing that R489 excludes: a specific mode names the requested protocol and factors of the list, and
T=1 uses LRC. -/
def atrFits (groups : List AtrGroup) (proto : Nat) : Bool :=
  let specific := match groups with
    | _ :: g :: _ => (match g.1 with
      | some ta2 => decide (ta2 % 16 = proto) && (match atrTa1 groups with | some t => factorsOk t | none => true)
      | none => true)
    | _ => true
  let lrc := match groups with
    | _ :: _ :: g :: _ => (match g.2.2.1 with | some tc3 => decide (tc3 % 2 = 0) | none => true)
    | _ => true
  specific && (decide (proto = 0) || lrc)

/-! ### The quorum session and the ports -/

/-- A command runs on the port (R493). -/
def portBusy (n : Nat) (s : State) : Bool :=
  s.tasks.any fun e => decide (e.2.opcode = 0x0B01) && decide (e.2.rq.field 0 1 = n)

/-- A card goes out of service (R492). -/
def portFails (n : Nat) (s : State) : State :=
  raisePlain 304 (s.setPort n { s.port n with isOn := false, failed := true, out := true })

def specCcpActivate : CmdSpec := { opcode := 0x0B00, phys := true, flagMask := 0x0100, lengthOk := (· = 4) }

/-- The port joins the quorum session, opening it where none is open (R495). -/
def joinQuorum (n : Nat) (s : State) : State :=
  let s := s.setPort n { s.port n with quorum := true }
  if s.cards.isOpen then s else { s with cards := { s.cards with isOpen := true, collected := 0 } }

def bodyCcpActivate (rq : Req) (card : CardAtr) (s : State) : CmdRes :=
  let n := rq.field 0 1
  let proto := rq.field 2 1
  let p := s.port n
  if 1 < n ∨ 1 < rq.field 1 1 ∨ 1 < proto ∨ !rq.rsvd 3 1 then failWith stNotPermitted s
  else if portBusy n s then failWith stBusy s
  else if !p.present then failWith stCardRemoved s
  else
    let p := { p with isOn := false }
    let s := s.setPort n p
    if !card.present then failWith stCardRemoved s
    else match (if card.answered then parseAtr card.atr else none) with
    | none => failWith stCardRemoved (portFails n s)
    | some groups =>
      if !atrOffers groups proto ∨ !atrFits groups proto then failWith stNotPermitted s
      else
        let fidi := match atrTa1 groups with
          | some t => if factorsOk t ∧ card.fidi.toNat = t then card.fidi else 0x11
          | none => 0x11
        let s := s.setPort n { p with
          isOn := true, classC := decide (rq.field 1 1 = 1), t1 := decide (proto = 1), fidi, out := false }
        .done stOk 0 (leBytes 1 card.atr.length ++ leBytes 3 0 ++ card.atr) (if rq.flags.getLsbD 8 then joinQuorum n s else s)

def execCcpActivate (rq : Req) (card : CardAtr) (s : State) : Answer :=
  .next (runCommand specCcpActivate rq (bodyCcpActivate rq card) s)

def specCcpApdu : CmdSpec :=
  { opcode := 0x0B01, phys := true, flagMask := 0x0F00, lengthOk := fun n => decide (12 ≤ n) && decide (n ≤ 269) }

/-- The response APDU in the layout of R202. -/
def apduReply (bytes : List Byte) : List Byte := leBytes 4 bytes.length ++ bytes

def bodyCcpApdu (rq : Req) (card : CardReply) (s : State) : CmdRes :=
  let n := rq.field 0 1
  let len := rq.field 4 4
  let p := s.port n
  let statement := rq.flags.getLsbD 8
  let i := rq.flags.toNat / 512 % 8
  if rq.payload.length ≠ 8 + len ∨ len < 4 ∨ 261 < len then failWith stBadLength s
  else if 1 < n ∨ !rq.rsvd 1 3 then failWith stNotPermitted s
  else if portBusy n s then failWith stBusy s
  else if !p.present || p.out then failWith stCardRemoved s
  else if !p.isOn then failWith stNotPermitted s
  else if statement ∧ (len ≠ 4 ∨ !s.cards.isOpen ∨ !p.quorum ∨ s.bk.lock = 0) then failWith stNotPermitted s
  else match card with
  | .removed => failWith stCardRemoved
      (raisePlain (302 + n) (s.setPort n { p with isOn := false, present := false, removed := true }))
  | .timeout | .failed => failWith stCardRemoved (portFails n s)
  | .answer bytes =>
    let signed := decide (bytes.length = 66) && decide (bytes.drop 64 = [0x90, 0x00])
    if statement && signed && s.custodians.isSome then
      .wait { rq, effected := true, work := [custodianWork], store := bytes, note := [i] } s
    else .done stOk 0 (apduReply bytes) s

/-- The signature of a statement APDU is checked against the custodian set (R497). -/
def finishCcpApdu (t : Task) (s : State) : CmdRes :=
  match s.custodians, t.note with
  | some (_, n, keys), i :: _ =>
    if i < n ∧ custodianOk s keys i (t.store.take 64) then
      .done stOk 0 (apduReply t.store) (if s.cards.isOpen then
        { s with cards := { s.cards with collected := setBit s.cards.collected i true } } else s)
    else failWith stAuthFail s
  | _, _ => .done stOk 0 (apduReply t.store) s

def execCcpApdu (rq : Req) (card : CardReply) (s : State) : Answer :=
  .next (runCommand specCcpApdu rq (bodyCcpApdu rq card) s)

def specCcpDeactivate : CmdSpec := { opcode := 0x0B02, phys := true, flagMask := 0x0100, lengthOk := (· = 4) }

def bodyCcpDeactivate (rq : Req) (s : State) : CmdRes :=
  let n := rq.field 0 1
  let p := s.port n
  if 1 < n ∨ !rq.rsvd 1 3 then failWith stNotPermitted s
  else if portBusy n s then failWith stBusy s
  else if !p.present || p.out then failWith stCardRemoved s
  else
    let s := s.setPort n { p with isOn := false }
    .done stOk 0 [] (if rq.flags.getLsbD 8 then closeQuorum s else s)

def execCcpDeactivate (rq : Req) (s : State) : Answer := .next (runCommand specCcpDeactivate rq (bodyCcpDeactivate rq) s)

/-- CARD_TIMEOUT: a limit of R492 passed on an active port. -/
def execCardTimeout (port : BitVec 1) (s : State) : Answer :=
  .next (if (s.port port.toNat).isOn then portFails port.toNat s else s)

/-- QUORUM_SESSION_TIMEOUT: 30 minutes without a command on a port of the session (R495). -/
def execQuorumSessionTimeout (s : State) : Answer := .next (closeQuorum s)

/-! ### The archive port -/

/-- ARC_MOUNT and what it finds (R498, R499). -/
def specArcMount : CmdSpec := { opcode := 0x0B10, phys := true, lengthOk := (· = 0) }

/-- The highest bus mode item 0x0000_0B20 allows. -/
def State.topMode (s : State) : Nat := match mapGet [] s.flash.items 0x0B20 with | b :: _ => b.toNat | [] => 1

/-- The part is between blocks of an export. -/
def State.exporting (s : State) : Bool := s.cards.running.isSome

def bodyArcMount (_rq : Req) (card : ArchiveCard) (s : State) : CmdRes :=
  let c := s.cards
  if s.exporting then failWith stBusy s
  else if !c.present then failWith stCardRemoved s
  else match card with
  | .absent => failWith stCardRemoved s
  | .unusable => failWith stNotPermitted { s with cards := { c with mounted := false } }
  | .usable cid csize xc top =>
    let mode := min s.topMode top.toNat
    let cap := (csize.toNat + 1) * 1024
    .done stOk 0 (leBytes 8 cap ++ [if xc then 1 else 0, BitVec.ofNat 8 mode] ++ leBytes 6 0)
      { s with cards := { c with
        mounted := true, capacity := cap, xc, mode := BitVec.ofNat 2 mode, cid } }

def execArcMount (rq : Req) (card : ArchiveCard) (s : State) : Answer :=
  .next (runCommand specArcMount rq (bodyArcMount rq card) s)

/-- The kiln key (R502). -/
def kilnMac (body : List Byte) : List Byte := padTo 32 (Config.standard 110 [ascii "SXT4192 kiln v1", body])

/-- Records of source 2: per existing saggar its deciding root and the settings that apply (R503). -/
def exportRecords (s : State) : List Byte :=
  (List.range 4096).flatMap fun h =>
    match decidingRecord h s with
    | some r =>
      if (s.saggar h).live then
        logBytes r ++ (match applyingRecord r s with | some q => logBytes q | none => [])
      else []
    | none => []

/-- Bytes of an export of a source. -/
def exportSize (source : Nat) (records : List Byte) : Nat :=
  match source with | 0 => 0x200000 | 1 => 0x100000 | 2 => records.length | _ => 0xEC0000

/-- Payload bytes per block. -/
def exportStride (source : Nat) : Nat := if source = 2 then 3840 else 4032

/-- Blocks of an export. -/
def exportBlocks (source : Nat) (records : List Byte) : Nat :=
  (exportSize source records + exportStride source - 1) / exportStride source

/-- The kiln block with a number of an export (R501). -/
def kilnBlock (e : Export_) (seq : Nat) (s : State) : List Byte × State :=
  let off := (seq - e.first) * exportStride e.source
  let n := min (exportStride e.source) (exportSize e.source e.records - off)
  let data := match e.source with
    | 2 => ((e.records.drop off).take n, s)
    | src => windowRead ((match src with | 0 => 0xD00000 | 1 => 0xF00000 | _ => operatorBase) + off) n s
  let flags := (if seq = e.first then 1 else 0) + (if seq = e.last then 2 else 0)
  let body := [0x4B, 0x49, 0x4C, 0x4E] ++ leBytes 2 1 ++ leBytes 1 e.source ++ leBytes 1 flags ++ leBytes 8 seq ++
    leBytes 8 e.id ++ leBytes 4 off ++ leBytes 2 n ++ leBytes 2 0 ++ padTo 4032 data.1
  (body ++ kilnMac body, data.2)

def specArcExport : CmdSpec :=
  { opcode := 0x0B11, phys := true, lengthOk := (· = 16), lockRefused := fun rq => decide (rq.field 0 1 = 2) }

/-- The payload of ARC_EXPORT and ARC_IMPORT: blocks and the last number (R507). -/
def archivePayload (from_ next : Nat) : List Byte := leBytes 8 (next - from_) ++ leBytes 8 (next + 2 ^ 64 - 1)

def bodyArcExport (rq : Req) (s : State) : CmdRes :=
  let src := rq.field 0 1
  let first := rq.field 8 8
  let c := s.cards
  if s.lcs.state = 3 ∨ 3 < src ∨ 1 < rq.field 1 1 ∨ !rq.rsvd 2 6 then failWith stNotPermitted s
  else if !c.mounted then failWith stCardRemoved s
  else if s.exporting then failWith stBusy s
  else if rq.field 1 1 = 0 then
    let records := if src = 2 then exportRecords s else []
    let blocks := exportBlocks src records
    if c.capacity < 2056 + 8 * (first + blocks - 1) then failWith stLimit s
    else
      let e : Export_ :=
        { source := src, id := s.pwr.aon.toNat + 2 ^ 48 * c.exports.toNat, first, next := first, last := first + blocks - 1
          top := first, records, cid := c.cid, task := s.taskIds, from_ := first }
      let s := { s with cards := { c with running := some e, suspended := none, exports := c.exports + 1, next := BitVec.ofNat 64 first } }
      if blocks = 0 then
        .done stOk 0 (archivePayload first first) (raisePlain 307 { s with cards := { s.cards with running := none } })
      else .wait { rq, effected := true, work := [.card] } s
  else match c.suspended with
  | none => failWith stNotPermitted s
  | some e =>
    if e.source ≠ src ∨ first < e.first ∨ e.top < first ∨ c.cid ≠ e.cid then failWith stNotPermitted s
    else .wait { rq, effected := true, work := [.card] } { s with cards := { c with
      running := some { e with next := first, task := s.taskIds, from_ := first }, suspended := none
      next := BitVec.ofNat 64 first } }

def execArcExport (rq : Req) (s : State) : Answer := .next (runCommand specArcExport rq (bodyArcExport rq) s)

/-- The archive card is gone, or counts as gone: an export is suspended, its command completes with CARD_REMOVED (R500,
R505, R507). -/
def archiveRemoved (s : State) : State :=
  let s := raisePlain 305 { s with cards := { s.cards with removed := s.cards.removed || s.cards.mounted, mounted := false } }
  match s.cards.running with
  | none => s
  | some e =>
    finishTask e.task stCardRemoved 0 (archivePayload e.from_ e.next)
      (raisePlain 307 { s with cards := { s.cards with running := none, suspended := some e } })

/-- A CRC error on the archive port (R500, R509). -/
def archiveCrc (s : State) : State := raisePlain 306 { s with cards := { s.cards with crcErr := true } }

/-- The block of an export that the card now holds; the last one ends the export (R504). -/
def blockWritten (e : Export_) (s : State) : State :=
  let b := kilnBlock e e.next s
  let s := b.2.emit (.kiln (2048 + 8 * e.next) b.1)
  let next := e.next + 1
  let s := { s with cards := { s.cards with next := BitVec.ofNat 64 next } }
  if e.next < e.last then { s with cards := { s.cards with running := some { e with next, top := max e.top next } } }
  else
    finishTask e.task stOk 0 (archivePayload e.from_ next)
      (raisePlain 307 { s with cards := { s.cards with running := none } })

/-- KILN_BLOCK_WRITTEN: the card ends its busy phase, after a first CRC status error or none; or the block fails twice, or
the card gives no answer, and it counts as removed (R500, R504). -/
def execKilnBlockWritten (write : BlockWrite) (s : State) : Answer :=
  .next (match s.cards.running with
    | none => s
    | some e =>
      match write with
      | .written => blockWritten e s
      | .repeated => blockWritten e (archiveCrc s)
      | .crcFailed => archiveRemoved (archiveCrc s)
      | .noAnswer => archiveRemoved s)

/-- An export under way is abandoned with its suspended state (R507). -/
def dropExport (s : State) : State :=
  let s' := { s with cards := { s.cards with running := none, suspended := none } }
  match s.cards.running with
  | some e => { s' with tasks := mapDel s'.tasks e.task }
  | none => s'

def specArcUnmount : CmdSpec := { opcode := 0x0B13, phys := true, lengthOk := (· = 0) }

def bodyArcUnmount (_rq : Req) (s : State) : CmdRes :=
  if s.exporting then failWith stBusy s
  else .done stOk 0 [] { s with cards := { s.cards with mounted := false, suspended := none } }

def execArcUnmount (rq : Req) (s : State) : Answer := .next (runCommand specArcUnmount rq (bodyArcUnmount rq) s)

/-! ### ARC_IMPORT (R506) -/

/-- A block passes the checks of R506: `prev` is the export id and the number expected, none for the first block. -/
def importBlockOk (first : Nat) (prev : Option (Nat × Nat)) (b : List Byte) : Bool :=
  decide (b.length = 4096) && decide (kilnMac (b.take 4064) = b.drop 4064) &&
    decide (b.take 6 = [0x4B, 0x49, 0x4C, 0x4E, 1, 0]) && decide (leField b 6 1 = 2) &&
    (match prev with
      | none => decide (leField b 7 1 % 2 = 1) && decide (leField b 8 8 = first)
      | some (id, seq) => decide (leField b 16 8 = id) && decide (leField b 8 8 = seq))

/-- One saggar-log record of a good block: skipped where its tag fails or its id exists, else written anew (R506). -/
def importRecord (existing : List Nat) (r : List Byte) (s : State) : State :=
  let h := leField r 2 2
  let type := leField r 0 1
  let kek := vaultKek s.bk.seed
  let aad := r.take 48 ++ (if type = 1 then [] else (r.drop 48).take 32) ++ (r.drop 80).take 160
  let ct := (if type = 1 then (r.drop 48).take 32 else []) ++ r.drop 240
  let nonce := (r.drop 224).take 12
  if !stdGcmOk kek nonce aad ct then raiseEvent 255 (detail [(2, h), (2, 0x0B12)]) s
  else if 4095 < h ∨ existing.contains h then s
  else
    let mk (n : Nat) : LogRecord :=
      { type := BitVec.ofNat 8 type, saggar := BitVec.ofNat 12 h, seq := n, minute := s.minute
        owner := BitVec.ofNat 6 (leField r 24 2)
        weight := BitVec.ofNat 16 (if type = 1 then leField r 26 2 else leField r 24 2)
        quota := BitVec.ofNat 32 (leField r 28 4), policy := BitVec.ofNat 64 (leField r 32 8)
        root := if type = 1 then stdGcmDec kek nonce aad ct else [], seed := s.bk.seed }
    let s := writeLog mk s
    let g := s.saggar h
    if type = 1 then
      s.setSaggar h { live := true, owner := (mk 0).owner, weight := (mk 0).weight, quota := (mk 0).quota
                      policy := (mk 0).policy, root := (mk 0).root, created := true }
    else if type = 2 ∧ g.live then
      s.setSaggar h { g with weight := (mk 0).weight, quota := (mk 0).quota, policy := (mk 0).policy }
    else s

/-- The blocks of an import in order: the number after the last good one, whether a check failed, and whether the block with
flag 1 was reached. -/
def importBlocks (first : Nat) (existing : List Nat) : List (List Byte) → Option (Nat × Nat) → State →
    Nat × Bool × Bool × State
  | [], prev, s => ((match prev with | some (_, q) => q | none => first), false, false, s)
  | b :: rest, prev, s =>
    let at_ := match prev with | some (_, q) => q | none => first
    if !importBlockOk first prev b then (at_, true, false, s)
    else
      let n := leField b 28 2 / 256
      let s := (List.range n).foldl (fun s i => importRecord existing ((b.drop (32 + 256 * i)).take 256) s) s
      if leField b 7 1 / 2 % 2 = 1 then (at_ + 1, false, true, s)
      else importBlocks first existing rest (some (leField b 16 8, at_ + 1)) s

def specArcImport : CmdSpec := { opcode := 0x0B12, phys := true, lengthOk := (· = 16), lockRefused := fun _ => true }

def bodyArcImport (rq : Req) (blocks : List (List Byte)) (removed : Bool) (s : State) : CmdRes :=
  let first := rq.field 8 8
  if s.lcs.state = 3 ∨ rq.field 0 1 ≠ 2 ∨ !rq.rsvd 1 7 then failWith stNotPermitted s
  else if !s.cards.mounted then failWith stCardRemoved s
  else if s.exporting then failWith stBusy s
  else
    let existing := (s.vault.saggars.filter fun e => e.2.live).map (·.1)
    let r := importBlocks first existing blocks none s
    let payload := archivePayload first r.1
    let s := { r.2.2.2 with cards := { r.2.2.2.cards with next := BitVec.ofNat 64 r.1 } }
    if r.2.1 then .done stAuthFail 0 payload (raisePlain 307 s)
    else if !r.2.2.1 ∧ removed then
      .done stCardRemoved 0 payload (raisePlain 307 (archiveRemoved s))
    else if !r.2.2.1 then .done stAuthFail 0 payload (raisePlain 307 s)
    else .done stOk 0 payload (raisePlain 307 s)

def execArcImport (rq : Req) (blocks : List (List Byte)) (removed : Bool) (s : State) : Answer :=
  .next (runCommand specArcImport rq (bodyArcImport rq blocks removed) s)

end Sys2Proof.Machine
end

