-- ==== Sys2Proof/Machine/CmdLc.lean ====
section
/-! DEFINITION. Life cycle and debug authorisation (R471-R488). -/

namespace Sys2Proof.Machine

/-! ### The fuses (R472-R474) -/

/-- The pattern of a fuse group. -/
def fusePattern (g : Nat) : Nat :=
  match g with | 0 => 0xA5C396E15A3C691E | 1 => 0x3C691EA5C396E15A | _ => 0x96E15A3C691EA5C3

/-- The 64 bits of a group in one copy. -/
def fuseGroup (w : BitVec 192) (g : Nat) : Nat := w.toNat / 2 ^ (64 * g) % 2 ^ 64

/-- The state two copies decode as: the number of leading groups that hold their pattern, 0xFF for every invalid reading. -/
def decodeFuses (a b : BitVec 192) : BitVec 8 :=
  let has (g : Nat) : Bool := decide (fuseGroup a g = fusePattern g)
  let good (g : Nat) : Bool := decide (fuseGroup a g = fuseGroup b g) && (decide (fuseGroup a g = 0) || has g)
  if !(good 0 && good 1 && good 2) then 0xFF
  else if (has 1 && !has 0) || (has 2 && !(has 0 && has 1)) then 0xFF
  else BitVec.ofNat 8 ((if has 0 then 1 else 0) + (if has 1 then 1 else 0) + (if has 2 then 1 else 0))

/-- The fuse read of a boot: the margined read decides, and a fuse that reads differently at the two levels makes the state
invalid (R473, R474). -/
def readFuses (s : State) : State :=
  let l := s.lcs
  let err := decide (l.otpA ≠ l.normA) || decide (l.otpB ≠ l.normB)
  raisePlain 294 { s with lcs := { l with
    marginErr := err, state := if err then 0xFF else decodeFuses l.otpA l.otpB } }

/-! ### The debug session (R481-R485) -/

/-- The nonce is replaced (R200). -/
def freshNonce (s : State) : State := { s with lcs := { s.lcs with nonce := s.free 128 } }.used 1

/-- A session closes where the operating hours have passed its last hour. -/
def checkHours (s : State) : State :=
  if s.lcs.isOpen && decide (s.lcs.state ≠ 0) && decide (s.lcs.lastHour.toNat < s.lcs.hours.toNat) then closeDebug s else s

/-- LCS_HOURS_TICK: one more whole hour of a released compute die (R479). -/
def execLcsHoursTick (s : State) : Answer :=
  .next (if s.pwr.released then checkHours { s with lcs := { s.lcs with hours := s.lcs.hours + 1 } } else s)

/-- DEBUG_SESSION_EXPIRY. -/
def execDebugSessionExpiry (s : State) : Answer := .next (checkHours s)

/-- Units of a class. -/
def unitCount : UnitClass → Nat | .lane => 16 | .service => 28 | .crucible => 160

/-- DEBUG_HALT_REQUEST: the unit leaves both roles and halts; in Fired an active unit is not taken (R481, R483). -/
def execDebugHaltRequest (cls : UnitClass) (unit : BitVec 8) (s : State) : Answer :=
  let u := unitNumber cls unit.toNat
  let r := s.role u
  let allowed := s.lcs.isOpen && s.lcs.rights.getLsbD 2 && decide (cls ≠ .lane) && decide (unit.toNat < unitCount cls) &&
    (decide (s.lcs.state ≠ 2) || decide (r = .spare) || decide (r = .retired)) &&
    !(decide (cls = .crucible) && (s.crucible unit.toNat).lease.isSome)
  .next (if !allowed then s
    else
      let s := if r = .retired then s else s.setRole u .debug
      { s with cores := mapMod {} s.cores u fun k => { k with running := false } })

/-! ### LC_GET_STATE and LC_TRANSITION -/

def specLcGetState : CmdSpec := { opcode := 0x0A00, any := true, side := true, lengthOk := (· = 0), exempt := true }

def bodyLcGetState (_rq : Req) (s : State) : CmdRes :=
  .done stOk 0 ([s.lcs.state, if s.lcs.isOpen then 1 else 0] ++ leBytes 6 0 ++ leBytes 16 s.lcs.nonce.toNat) s

def execLcGetState (rq : Req) (s : State) : Answer := .next (runCommand specLcGetState rq (bodyLcGetState rq) s)

def specLcTransition : CmdSpec := { opcode := 0x0A01, phys := true, lengthOk := (8 ≤ ·) }

/-- A move R475 permits. -/
def moveOk (from_ dest : Nat) : Bool :=
  (decide (from_ = 0) && decide (dest = 1)) || (decide (from_ = 1) && decide (dest = 2)) || (decide (from_ < 3) && decide (dest = 3))

/-- The key that signs an authorisation or a certificate: the Semixia key, or the operator debug key where enrolled. -/
def signerKey (semixia : Nat) (operator : Bool) (s : State) : List Byte :=
  if operator then mapGet [] s.flash.items 0x0A10 else padTo 97 (Config.standard semixia [])

/-- Byte `off` to `off + n` of a string as a number. -/
def at_ (bs : List Byte) (off n : Nat) : Nat := leField bs off n

/-- Check 4 of R476 but for the signature. -/
def authFields (target : Nat) (a : List Byte) (s : State) : Bool :=
  decide (at_ a 0 2 = 2) && decide (at_ a 2 1 = target) && decide ((a.drop 4).take 16 = serialBytes) &&
    decide ((a.drop 20).take 16 = leBytes 16 s.lcs.nonce.toNat) &&
    (decide (at_ a 3 1 = 0) || (decide (at_ a 3 1 = 1) && decide (s.lcs.state = 2) && decide (target = 3) &&
      decide (mapGet [] s.flash.items 0x0A10 ≠ [])))

/-- The signature of 160 bytes of authorisation or certificate under a key. -/
def signedOk (key a : List Byte) : Bool := stdVerify 0x102 1 0 key (a.drop 64) (stdHash 9 48 (a.take 64))

/-- A P-384 verification of the part's own. -/
def p384Work : Work := .op 0x102 opVerify 6 none true

/-- What the fuse operand leaves in the two copies of a group: ones, and only where the pattern has them (R472, R477 step
2). A fuse that took at the normal level alone reads differently at the margin level (R474). -/
def burnGroup (g : Nat) (note : List Nat) (s : State) : State :=
  let l := s.lcs
  let p : BitVec 192 := BitVec.ofNat 192 (fusePattern g * 2 ^ (64 * g))
  let put (a b na nb : BitVec 192) : State := { s with lcs := { l with
    otpA := l.otpA ||| (a &&& p), otpB := l.otpB ||| (b &&& p)
    normA := l.normA ||| ((a ||| na) &&& p), normB := l.normB ||| ((b ||| nb) &&& p) } }
  match note with
  | [1, a, b, na, nb] => put (BitVec.ofNat 192 a) (BitVec.ofNat 192 b) (BitVec.ofNat 192 na) (BitVec.ofNat 192 nb)
  | _ => put p p 0 0

/-- Steps 1 to 5 of R477. -/
def transition (target : Nat) (note : List Nat) (s : State) : CmdRes :=
  let s := if 2 ≤ target then
    closeDebug { s with bk := { s.bk with seed := [], saveKey := [] }, pwr := { s.pwr with saved := false } } else s
  let s := raisePlain 294 (burnGroup (target - 1) note s)
  let got := (decodeFuses s.lcs.otpA s.lcs.otpB).toNat
  let s := { s with lcs := { s.lcs with resetDue := true } }
  if got ≠ target then .done stInternal 2 [] s
  else .done stOk 0 [] (if target = 3 then { s with lcs := { s.lcs with rootDis := true } } else s)

def bodyLcTransition (rq : Req) (fuses : FuseOutcome) (s : State) : CmdRes :=
  let len := rq.field 4 4
  let target := rq.field 0 1
  let a := rq.bytes 8 160
  if rq.payload.length ≠ 8 + len then failWith stBadLength s
  else if !rq.rsvd 1 3 then failWith stNotPermitted s
  else
    let s := raisePlain 294 s
    if len ≠ 160 then failWith stBadLength (raisePlain 294 s)
    else if !moveOk s.lcs.state.toNat target ∨ s.pwr.holdAbsent then failWith stNotPermitted (raisePlain 294 s)
    else if (s.tasks.any fun e => [0x0A01, 0x0A02, 0x0F01, 0x0F02].contains e.2.opcode.toNat) then
      failWith stBusy (raisePlain 294 s)
    else if !authFields target a s then failWith stAuthFail (raisePlain 294 (freshNonce s))
    else .wait { rq, work := [p384Work], note := match fuses with
    | .burnt => [0]
    | .weak x y nx ny => [1, x.toNat, y.toNat, nx.toNat, ny.toNat] } s

def finishLcTransition (t : Task) (s : State) : CmdRes :=
  let a := t.rq.bytes 8 160
  if signedOk (signerKey (if at_ a 3 1 = 0 then 102 else 103) (decide (at_ a 3 1 = 1)) s) a then
    transition (t.rq.field 0 1) t.note s
  else failWith stAuthFail (raisePlain 294 (freshNonce s))

def execLcTransition (rq : Req) (fuses : FuseOutcome) (s : State) : Answer :=
  .next (runCommand specLcTransition rq (bodyLcTransition rq fuses) s)

/-! ### DBG_PRESENT_CERT and DBG_CLOSE -/

def specDbgPresentCert : CmdSpec := { opcode := 0x0A02, phys := true, lengthOk := (8 ≤ ·) }

/-- Check 3 of R482 but for the signature. -/
def certFields (a : List Byte) (s : State) : Bool :=
  decide (at_ a 0 2 = 1) && decide ((a.drop 4).take 16 = serialBytes) &&
    decide ((a.drop 20).take 16 = leBytes 16 s.lcs.nonce.toNat) &&
    (decide (at_ a 2 1 = 0) || (decide (at_ a 2 1 = 1) && decide (s.lcs.state ≠ 1) &&
      decide (mapGet [] s.flash.items 0x0A10 ≠ [])))

/-- A failed certificate replaces the nonce and raises event 295. -/
def certFails (status : Nat) (s : State) : CmdRes := failWith status (raisePlain 295 (freshNonce s))

def bodyDbgPresentCert (rq : Req) (s : State) : CmdRes :=
  let len := rq.field 0 4
  if rq.payload.length ≠ 8 + len then failWith stBadLength s
  else if !rq.rsvd 4 4 then failWith stNotPermitted s
  else if len ≠ 160 then certFails stBadLength s
  else if s.lcs.isOpen ∨ (s.tasks.any fun e => decide (e.2.opcode = 0x0A01)) then certFails stBusy s
  else if !certFields (rq.bytes 8 160) s then certFails stAuthFail s
  else .wait { rq, work := [p384Work] } s

/-- Rights that the life-cycle state permits (R481). -/
def rightsPermitted (state : BitVec 8) : Nat := if state = 2 then 0x0F else if state.toNat ≤ 3 then 0xFF else 0

def finishDbgPresentCert (t : Task) (s : State) : CmdRes :=
  let a := t.rq.bytes 8 160
  let operator := decide (at_ a 2 1 = 1)
  if !signedOk (signerKey 103 operator s) a then certFails stAuthFail s
  else if s.lcs.hours.toNat < at_ a 44 4 ∨ at_ a 48 4 < s.lcs.hours.toNat ∨ s.lcs.cycles.toNat < at_ a 52 4 ∨
      at_ a 56 4 < s.lcs.cycles.toNat then certFails stAuthFail s
  else
    let rights := BitVec.ofNat 8 (at_ a 36 8) &&& BitVec.ofNat 8 (rightsPermitted s.lcs.state)
    let s := freshNonce s
    .done stOk 0 (leBytes 8 rights.toNat) (if rights = 0 then s
      else raisePlain 295 { s with lcs := { s.lcs with
        isOpen := true, rights, signer := operator, lastHour := BitVec.ofNat 32 (at_ a 48 4) } })

def execDbgPresentCert (rq : Req) (s : State) : Answer :=
  .next (runCommand specDbgPresentCert rq (bodyDbgPresentCert rq) s)

def specDbgClose : CmdSpec := { opcode := 0x0A03, phys := true, lengthOk := (· = 0) }

def bodyDbgClose (_rq : Req) (s : State) : CmdRes := .done stOk 0 [] (closeDebug s)

def execDbgClose (rq : Req) (s : State) : Answer := .next (runCommand specDbgClose rq (bodyDbgClose rq) s)

end Sys2Proof.Machine
end

