-- ==== Sys2Proof/Machine/CmdTag.lean ====
section
/-! DEFINITION. The rack tag: its air interface, its memory and the wired commands (R510-R530). The air protocol's state
diagram is that of ISO/IEC 18000-63, which R511 names (log entry 63). -/

namespace Sys2Proof.Machine

/-! ### Memory (R513-R517) -/

/-- CRC-16 of the standard over words in transmitted order. -/
def crc16 (words : List (BitVec 16)) : BitVec 16 :=
  ~~~(words.foldl (fun (r : BitVec 16) w =>
    (List.range 16).foldl (fun (r : BitVec 16) i =>
      let top := r.getLsbD 15 != w.getLsbD (15 - i)
      if top then (r <<< 1) ^^^ 0x1021 else r <<< 1) r) 0xFFFF)

/-- Words of a bank. -/
def bankSize (bank : Nat) : Nat := match bank with | 0 => 4 | 1 => 10 | 2 => 16 | _ => 256

/-- The mirror, words 0x00 to 0x0F (R527). -/
def mirrorWord (t : Tag) (w : Nat) : BitVec 16 :=
  let m := (List.range 15).map fun i => t.mirror.getD i 0
  if w = 15 then crc16 m else m.getD w 0

/-- A word of a bank as it reads where reading is permitted. -/
def tagWord (t : Tag) (bank w : Nat) : BitVec 16 :=
  match bank with
  | 0 => if w < 2 then 0 else mapGet 0 t.mem w
  | 1 =>
    if w = 0 then crc16 ((List.range 9).map fun i => mapGet 0 t.mem (0x101 + i)) else mapGet 0 t.mem (0x100 + w)
  | 2 =>
    if w = 0 then 0xE20E else if w = 1 then 0x7192
    else if w < 10 then BitVec.ofNat 16 (beNat ((serialBytes.drop (2 * (w - 2))).take 2))
    else if w = 10 then revisionCode.setWidth 16
    else if w = 11 then 0x4192 else 0
  | _ => if w < 16 then mirrorWord t w else mapGet 0 t.mem (0x300 + w)

/-- The access password. -/
def Tag.password (t : Tag) : Nat := (tagWord t 0 2).toNat * 65536 + (tagWord t 0 3).toNat

/-- A write of a word is permitted in the secured state and to TAG_WRITE (R514, R517). -/
def tagWritable (t : Tag) (bank w : Nat) (v : BitVec 16) : Bool :=
  match bank with
  | 1 => decide (1 ≤ w) && (decide (w ≠ 1) || decide (v.toNat / 256 = (tagWord t 1 1).toNat / 256))
  | 3 => decide (16 ≤ w)
  | _ => false

/-- The logical row a word lies in. -/
def tagRow (bank w : Nat) : Nat := if bank = 3 then w / 16 else 0

/-- Physical rows in use, and the erased ones. -/
def Tag.rowOf (t : Tag) (l : Nat) : Nat := mapGet l t.rows l
def Tag.inUse (t : Tag) : List Nat := (List.range 16).map t.rowOf
def Tag.erased (t : Tag) : List Nat :=
  (List.range 80).filter fun r => !t.inUse.contains r && !t.released.contains r && !t.retired.contains r

/-- The erased rows a change of `n` rows programs, in turn: those that take the program, and those that fail it twice. -/
def programRows (worn : List Nat) : Nat → List Nat → List Nat × List Nat
  | 0, _ => ([], [])
  | _, [] => ([], [])
  | n + 1, r :: rest =>
    if worn.contains r then
      let p := programRows worn (n + 1) rest
      (p.1, r :: p.2)
    else
      let p := programRows worn n rest
      (r :: p.1, p.2)

/-- The logical rows that words of a bank touch. -/
def touchedRows (bank ptr n : Nat) : List Nat :=
  (List.range 16).filter fun l => (List.range n).any fun i => decide (tagRow bank (ptr + i) = l)

def State.withTag (s : State) (t : Tag) : State := { s with tag := t }

/-- An event of the tag is raised while the vault die is powered (R530). -/
def tagEvent (n : Nat) (s : State) : State := if s.sup.vddVault then raisePlain n s else s

/-- One change of words of a bank (R521): new rows, the commit record, the old rows released. Rows that fail their margined
read twice are retired. Refused where erased rows are too few at its start or run out (R522); the rows programmed until
then hold nothing in force and are released (log entry 128). -/
def tagChange (bank ptr : Nat) (words : List (BitVec 16)) (worn : List (BitVec 7)) (s : State) : Bool × State :=
  let t := s.tag
  let rows := touchedRows bank ptr words.length
  if t.erased.length < rows.length then (false, s)
  else
    let p := programRows (worn.map (·.toNat)) rows.length t.erased
    let s := p.2.foldl (fun s _ => tagEvent 311 s) s
    let t := { t with retired := t.retired ++ p.2 }
    if p.1.length < rows.length then
      (false, tagEvent 311 (s.withTag { t with released := t.released ++ p.1 }))
    else
      (true, s.withTag { t with
        mem := (words.zipIdx).foldl (fun m e => mapSet 0 m (256 * bank + ptr + e.2) e.1) t.mem
        rows := (rows.zip p.1).foldl (fun m e => mapPut m e.1 e.2) t.rows
        released := t.released ++ rows.map t.rowOf
        commits := t.commits + 1 })

/-! ### Wired commands -/

def specTagRead : CmdSpec := { opcode := 0x0C00, phys := true, side := true, lengthOk := (· = 8) }

/-- A range a wired command names lies in its bank. -/
def wiredRange (rq : Req) : Bool :=
  let b := rq.field 0 1
  decide (1 ≤ b) && decide (b ≤ 3) && rq.rsvd 1 1 && rq.rsvd 6 2 && decide (1 ≤ rq.field 4 2) &&
    decide (rq.field 4 2 ≤ 256) && decide (rq.field 2 2 + rq.field 4 2 ≤ bankSize b)

/-- Words as bytes, big-endian. -/
def wordBytes (ws : List (BitVec 16)) : List Byte := ws.flatMap fun w => beBytes 2 w.toNat

def bodyTagRead (rq : Req) (s : State) : CmdRes :=
  let n := rq.field 4 2
  if !wiredRange rq then failWith stNotPermitted s
  else match respFits rq (2 * n) with
  | some st => failWith st s
  | none => .done stOk 0 (wordBytes ((List.range n).map fun i => tagWord s.tag (rq.field 0 1) (rq.field 2 2 + i))) s

def execTagRead (rq : Req) (s : State) : Answer := .next (runCommand specTagRead rq (bodyTagRead rq) s)

def specTagWrite : CmdSpec :=
  { opcode := 0x0C01, phys := true, lengthOk := fun n => decide (10 ≤ n) && decide (n ≤ 520) && decide (n % 2 = 0) }

/-- The words a TAG_WRITE carries. -/
def writeWords (rq : Req) : List (BitVec 16) :=
  (List.range (rq.field 4 2)).map fun i => BitVec.ofNat 16 (beNat (rq.bytes (8 + 2 * i) 2))

/-- A wired change completes with BUSY where erased rows are too few. -/
def wiredChange (bank ptr : Nat) (words : List (BitVec 16)) (worn : List (BitVec 7)) (s : State) : CmdRes :=
  match tagChange bank ptr words worn s with
  | (true, s) => .done stOk 0 [] s
  | (false, s) => failWith stBusy s

def bodyTagWrite (rq : Req) (worn : List (BitVec 7)) (s : State) : CmdRes :=
  let b := rq.field 0 1
  let ptr := rq.field 2 2
  let ws := writeWords rq
  if rq.payload.length ≠ 8 + 2 * rq.field 4 2 then failWith stBadLength s
  else if !wiredRange rq then failWith stNotPermitted s
  else if !(ws.zipIdx.all fun e => tagWritable s.tag b (ptr + e.2) e.1) then failWith stNotPermitted s
  else wiredChange b ptr ws worn s

def execTagWrite (rq : Req) (worn : List (BitVec 7)) (s : State) : Answer :=
  .next (runCommand specTagWrite rq (bodyTagWrite rq worn) s)

def specTagSetPassword : CmdSpec := { opcode := 0x0C02, phys := true, lengthOk := (· = 4) }

/-- The password travels as a 32-bit payload field; word 2 holds its high half (R175, R516). -/
def bodyTagSetPassword (rq : Req) (worn : List (BitVec 7)) (s : State) : CmdRes :=
  let p := rq.field 0 4
  wiredChange 0 2 [BitVec.ofNat 16 (p / 65536), BitVec.ofNat 16 p] worn s

def execTagSetPassword (rq : Req) (worn : List (BitVec 7)) (s : State) : Answer :=
  .next (runCommand specTagSetPassword rq (bodyTagSetPassword rq worn) s)

/-! ### The field, power, flags (R512, R518, R523) -/

/-- Any supply of R510 is there. -/
def tagPowered (s : State) : Bool := s.sup.vddVault || s.tag.field || (s.sup.vddHold && s.pwr.commit.isSome)

def execFieldPresent (s : State) : Answer :=
  .next (if s.tag.field then s else tagEvent 308 (s.withTag { s.tag with field := true, phase := .ready }))

/-- FIELD_LOST: the RF circuits stop; without another supply S0 is lost at once (R510, R518). -/
def execFieldLost (s : State) : Answer :=
  .next (if !s.tag.field then s
    else
      let s := s.withTag { s.tag with field := false, phase := .ready }
      tagEvent 308 (if tagPowered s then s else s.withTag { s.tag with flags := setBit s.tag.flags 0 false }))

/-- ACCESS_LOCKOUT_EXPIRY: 200 ms after a wrong password. -/
def execAccessLockoutExpiry (s : State) : Answer := .next (s.withTag { s.tag with timed := false })

/-- A flag reverts: A, or deasserted. -/
def revertFlag (f : TagFlag) (t : Tag) : Tag :=
  match f with
  | .s0 => { t with flags := setBit t.flags 0 false }
  | .s1 => { t with flags := setBit t.flags 1 false }
  | .s2 => { t with flags := setBit t.flags 2 false }
  | .s3 => { t with flags := setBit t.flags 3 false }
  | .sl => { t with sl := false }

/-- SESSION_FLAG_EXPIRY: S1 expires powered or not, every other flag only without supply (R518). -/
def execSessionFlagExpiry (flag : TagFlag) (s : State) : Answer :=
  .next (if flag = .s1 ∨ !tagPowered s then s.withTag (revertFlag flag s.tag) else s)

/-- TAG_POWER_UP: the tag finds its record in force; the rows and the record slot that a change cut short left in part are
released; the supply has come back (R516, R523). -/
def execTagPowerUp (partly : List (BitVec 7)) (slot : Bool) (s : State) : Answer :=
  let rows := (partly.map (·.toNat)).filter fun r => s.tag.erased.contains r
  let t := { s.tag with
    phase := .ready, cycled := false, recovered := slot || decide (rows ≠ []), released := s.tag.released ++ rows }
  let s := rows.foldl (fun s _ => tagEvent 311 s) (s.withTag t)
  .next (if slot then tagEvent 311 s else s)

/-- ROW_ERASE: a released row is erased in the background (R521). -/
def execRowErase (row : BitVec 7) (s : State) : Answer :=
  .next (if tagPowered s then s.withTag { s.tag with released := s.tag.released.erase row.toNat } else s)

/-- MIRROR_SNAPSHOT: words 0x00 to 0x0E from the backup domain (R527, R528). -/
def execMirrorSnapshot (s : State) : Answer :=
  let b := s.bk
  let supply := if s.sup.vddVault then 0 else if s.sup.vddHold then 1 else if s.sup.vbat then 2 else 3
  let cell : BitVec 14 := 0x3F20
  let act := if s.sup.vddVault || s.sup.vddHold then s.tmpActive else s.tmpActive &&& cell
  let entry : List (BitVec 16) :=
    match b.log.getLast? with
    | none => List.replicate 8 0
    | some e =>
      let bytes := leBytes 4 e.seq.toNat ++ leBytes 2 e.mask.toNat ++ [e.cls, e.repeats] ++ leBytes 4 e.time.toNat ++
        leBytes 2 e.lockseq.toNat ++ [e.supply, e.design]
      (List.range 8).map fun i => BitVec.ofNat 16 (beNat ((bytes.drop (2 * i)).take 2))
  let words : List (BitVec 16) :=
    [BitVec.ofNat 16 ((if b.lost then 0x8000 else 0) + supply * 0x1000 + b.lock.toNat), s.tmpLatch.setWidth 16,
     act.setWidth 16, BitVec.ofNat 16 (b.classes.toNat / 65536), BitVec.ofNat 16 b.classes.toNat, b.lockseq,
     BitVec.ofNat 16 b.log.length] ++ entry
  .next (s.withTag { s.tag with mirror := words })

/-- BACKUP_NO_ANSWER: the content counts as lost, and the next start finds no validity pattern (R529). -/
def execBackupNoAnswer (s : State) : Answer :=
  .next { s with tag := { s.tag with mirror := [0xF002] }, bk := { s.bk with valid := false } }

/-! ### Inventory (R511, ISO/IEC 18000-63) -/

/-- A reply with a new random number. -/
def newRn (ph : TagState) (s : State) : State :=
  let rn : BitVec 16 := s.free 16
  ((s.withTag { s.tag with phase := ph, rn }).used 1).emit (.tagReply [rn])

/-- The flag of a session, or SL. -/
def tagFlag (t : Tag) (f : TagFlag) : Bool :=
  match f with
  | .s0 => t.flags.getLsbD 0 | .s1 => t.flags.getLsbD 1 | .s2 => t.flags.getLsbD 2 | .s3 => t.flags.getLsbD 3 | .sl => t.sl

/-- Sets a flag: for a session, true is A; for SL, true is asserted. -/
def putFlag (f : TagFlag) (v : Bool) (t : Tag) : Tag :=
  match f with
  | .s0 => { t with flags := setBit t.flags 0 (!v) }
  | .s1 => { t with flags := setBit t.flags 1 (!v) }
  | .s2 => { t with flags := setBit t.flags 2 (!v) }
  | .s3 => { t with flags := setBit t.flags 3 (!v) }
  | .sl => { t with sl := v }

/-- Whether a flag is A, or SL asserted. -/
def flagIsA (f : TagFlag) (t : Tag) : Bool := match f with | .sl => t.sl | _ => !tagFlag t f

/-- The action of a Select: true asserts, false deasserts, none negates or leaves. -/
def selectAction (action : Nat) (matching : Bool) (f : TagFlag) (t : Tag) : Tag :=
  let neg := putFlag f (!flagIsA f t) t
  match action, matching with
  | 0, true | 1, true | 4, false | 6, false => putFlag f true t
  | 0, false | 2, false | 4, true | 5, true => putFlag f false t
  | 3, true | 7, false => neg
  | _, _ => t

def execSelect (flag : TagFlag) (action : BitVec 3) (matching : Bool) (s : State) : Answer :=
  .next (if !s.tag.field then s
    else s.withTag { selectAction action.toNat matching flag s.tag with phase := .ready })

/-- The slot of a round: reply at 0, else arbitrate. -/
def enterRound (slot : BitVec 15) (s : State) : State :=
  let s := s.withTag { s.tag with slot }
  if slot = 0 then newRn .reply s else s.withTag { s.tag with phase := .arbitrate }

/-- A tag that was singulated flips its inventoried flag when its session's next round command arrives. -/
def singulated (t : Tag) : Bool := decide (t.phase = .acknowledged) || decide (t.phase = .opened) || decide (t.phase = .secured)
def flipFlag (t : Tag) : Tag := { t with flags := setBit t.flags t.session.toNat (!t.flags.getLsbD t.session.toNat) }

/-- The slot drawn for a Q: its low Q bits. -/
def drawnSlot (q : BitVec 4) (slot : BitVec 15) : BitVec 15 := BitVec.ofNat 15 (slot.toNat % 2 ^ q.toNat)

def execQuery (sel session : BitVec 2) (target : Bool) (q : BitVec 4) (slot : BitVec 15) (s : State) : Answer :=
  let t := if singulated s.tag && decide (s.tag.session = session) then flipFlag s.tag else s.tag
  let takes := (decide (sel.toNat < 2) || decide (t.sl = decide (sel = 3))) && decide (t.flags.getLsbD session.toNat = target)
  let t := { t with session, q }
  .next (if !s.tag.field then s
    else if takes then enterRound (drawnSlot q slot) (s.withTag t)
    else s.withTag { t with phase := .ready })

def execQueryadjust (session : BitVec 2) (updn : BitVec 3) (slot : BitVec 15) (s : State) : Answer :=
  let t := s.tag
  let q : BitVec 4 := if updn = 6 ∧ t.q ≠ 15 then t.q + 1 else if updn = 3 ∧ t.q ≠ 0 then t.q - 1 else t.q
  .next (if !t.field ∨ session ≠ t.session ∨ t.phase = .ready ∨ !(updn = 0 ∨ updn = 3 ∨ updn = 6) then s
    else if singulated t then s.withTag { flipFlag t with phase := .ready }
    else enterRound (drawnSlot q slot) (s.withTag { t with q }))

def execQueryrep (session : BitVec 2) (s : State) : Answer :=
  let t := s.tag
  .next (if !t.field ∨ session ≠ t.session ∨ t.phase = .ready then s
    else if singulated t then s.withTag { flipFlag t with phase := .ready }
    else if t.phase = .reply then s.withTag { t with phase := .arbitrate, slot := 0x7FFF }
    else enterRound (t.slot - 1) s)

/-- The PC and EPC words that answer an ACK. -/
def epcReply (t : Tag) : List (BitVec 16) :=
  ((List.range 9).map fun i => tagWord t 1 (1 + i)) ++ [tagWord t 1 0]

def execAck (rn : BitVec 16) (s : State) : Answer :=
  let t := s.tag
  .next (if !t.field ∨ t.phase = .ready ∨ t.phase = .arbitrate then s
    else if rn ≠ t.rn then s.withTag { t with phase := .arbitrate }
    else (s.withTag { t with phase := if t.phase = .reply then .acknowledged else t.phase }).emit (.tagReply (epcReply t)))

def execNak (s : State) : Answer :=
  .next (if !s.tag.field ∨ s.tag.phase = .ready then s else s.withTag { s.tag with phase := .arbitrate })

def execReqRn (rn : BitVec 16) (s : State) : Answer :=
  let t := s.tag
  .next (if !t.field then s
    else match t.phase with
    | .reply => s.withTag { t with phase := .arbitrate }
    | .acknowledged =>
      if rn ≠ t.rn then s else newRn (if t.password = 0 then .secured else .opened) s
    | .opened | .secured =>
      if rn ≠ t.rn then s else (s.used 1).emit (.tagReply [s.free 16])
    | _ => s)

/-! ### Access commands -/

/-- An access command outside open and secured: reply and acknowledged fall back to arbitrate. -/
def accessElsewhere (s : State) : State :=
  match s.tag.phase with
  | .reply | .acknowledged => s.withTag { s.tag with phase := .arbitrate }
  | _ => s

/-- An access command in open or secured with the handle in force. -/
def withHandle (handle : BitVec 16) (body : State → State) (s : State) : State :=
  let t := s.tag
  if !t.field then s
  else if t.phase = .opened ∨ t.phase = .secured then (if handle = t.rn then body s else s)
  else accessElsewhere s

def execRead (bank : BitVec 2) (ptr : Nat) (count : BitVec 8) (handle : BitVec 16) (s : State) : Answer :=
  let b := bank.toNat
  let n := if count = 0 then bankSize b - ptr else count.toNat
  .next (withHandle handle (fun s =>
    if bankSize b < ptr + n ∨ bankSize b ≤ ptr then s.emit (.tagError 3)
    else if b = 0 ∧ 2 < ptr + n then s.emit (.tagError 4)
    else s.emit (.tagReply ((List.range n).map fun i => tagWord s.tag b (ptr + i)))) s)

/-- A field Write or BlockWrite (R512, R517, R521, R522). -/
def fieldWrite (bank : BitVec 2) (ptr : Nat) (data : List (BitVec 16)) (weak : Bool) (worn : List (BitVec 7)) (s : State) :
    State :=
  let b := bank.toNat
  let t := s.tag
  if weak then s.emit (.tagError 0x0B)
  else if bankSize b < ptr + data.length then s.emit (.tagError 3)
  else if t.phase ≠ .secured ∨ !(data.zipIdx.all fun e => tagWritable t b (ptr + e.2) e.1) then s.emit (.tagError 4)
  else match tagChange b ptr data worn s with
  | (false, s) => s.emit (.tagError 0)
  | (true, s) =>
    let s := if s.sup.vddVault then s.withTag { s.tag with fieldWrite := true } else s
    (tagEvent 309 s).emit (.tagReply [])

def execWrite (bank : BitVec 2) (ptr : Nat) (data : BitVec 16) (handle : BitVec 16) (weakField : Bool)
    (worn : List (BitVec 7)) (s : State) : Answer :=
  .next (withHandle handle (fieldWrite bank ptr [data] weakField worn) s)

/-- A BlockWrite of other than 1 to 16 words is an invalid command (R511). -/
def execBlockwrite (bank : BitVec 2) (ptr : Nat) (data : List (BitVec 16)) (handle : BitVec 16) (weakField : Bool)
    (worn : List (BitVec 7)) (s : State) : Answer :=
  .next (withHandle handle (fun s =>
    if 1 ≤ data.length ∧ data.length ≤ 16 then fieldWrite bank ptr data weakField worn s
    else s.withTag { s.tag with phase := .arbitrate }) s)

def execAccess (password : BitVec 32) (handle : BitVec 16) (s : State) : Answer :=
  .next (if s.tag.timed ∨ s.tag.cycled then s
    else withHandle handle (fun s =>
      let t := s.tag
      if password.toNat = t.password then (s.withTag { t with phase := .secured }).emit (.tagReply [t.rn])
      else
        let s := s.withTag { t with
          phase := .arbitrate, timed := true, cycled := true, pwdFail := true
          pwdFails := if s.sup.vddVault ∧ t.pwdFails ≠ 0xFFFF then t.pwdFails + 1 else t.pwdFails }
        tagEvent 310 s) s)

def execInvalidCommand (s : State) : Answer :=
  .next (if !s.tag.field then s
    else match s.tag.phase with
    | .ready | .arbitrate => s
    | _ => s.withTag { s.tag with phase := .arbitrate })

end Sys2Proof.Machine
end

