-- ==== Sys2Proof/Machine/Units.lean ====
section
/-! DEFINITION. The roles of lanes, crucibles and service cores: rotation, qualification, retirement (R18-R24, R266, R532,
R536). -/

namespace Sys2Proof

/-- The class number of R531. -/
def UnitClass.code : UnitClass → Nat | .lane => 0 | .crucible => 1 | .service => 2

end Sys2Proof

namespace Sys2Proof.Machine

/-- A unit is marked unqualified. -/
def unqualified (cls : UnitClass) (i : Nat) (s : State) : Bool :=
  match cls with
  | .lane => s.bst.unqualLane.getLsbD i
  | .crucible => s.bst.unqualCru.getLsbD i
  | .service => s.bst.unqualSvc.getLsbD i

def setUnqualified (cls : UnitClass) (i : Nat) (v : Bool) (s : State) : State :=
  match cls with
  | .lane => { s with bst := { s.bst with unqualLane := setBit s.bst.unqualLane i v } }
  | .crucible => { s with bst := { s.bst with unqualCru := setBit s.bst.unqualCru i v } }
  | .service => { s with bst := { s.bst with unqualSvc := setBit s.bst.unqualSvc i v } }

/-- A unit runs a job, a raw lease or a service request. -/
def unitBusy (cls : UnitClass) (i : Nat) (s : State) : Bool :=
  match cls with
  | .lane => (s.lane i).busy
  | .crucible => (s.crucible i).busy || (s.crucible i).lease.isSome
  | .service => false

/-- The request whose slice runs on a unit. -/
def sliceOn (cls : UnitClass) (i : Nat) (s : State) : Option Nat :=
  s.bst.running.find? fun id =>
    decide ((s.request id).cls.toNat = cls.code) && decide ((s.request id).unit.toNat = i)

/-- A unit is wanted for work: a slice on it gives way. -/
def claimUnit (cls : UnitClass) (i : Nat) (s : State) : State :=
  match sliceOn cls i s with | some id => displace id s | none => s

/-- A request enters the queue under the next id (R537). -/
def enqueue (r : BstRequest) (s : State) : Nat × State :=
  let id := s.bst.ids + 1
  (id, ({ s with bst := { s.bst with ids := id, waiting := s.bst.waiting ++ [id] } }).setRequest id r)

/-- A unit enters the spare role, scrubbed; its whole set of slices is due (R23, R532). -/
def enterSpare (cls : UnitClass) (i : Nat) (s : State) : State :=
  let u := unitNumber cls i
  let s := (scrubUnit u s).setRole u .spare
  (enqueue { cls := BitVec.ofNat 8 cls.code, index := BitVec.ofNat 16 i, slice := 0xFFFF, scheduled := true } s).2

/-- An outgoing unit takes no new job; it enters the spare role once it has none (R22). -/
def leaveActive (cls : UnitClass) (i : Nat) (s : State) : State :=
  if unitBusy cls i s then s.setRole (unitNumber cls i) .leaving else enterSpare cls i s

/-- Units that were leaving and have no job left enter the spare role, and clusters that join the raw group enter it once
no job is left in them (R22, R266). -/
def settleRoles (s : State) : State :=
  let leaving := s.roles.filter fun e => decide (e.2 = .leaving)
  let s := leaving.foldl (fun s e =>
    let cls : UnitClass := if e.1 < 100 then .lane else if e.1 < 1000 then .service else .crucible
    let i := if e.1 < 100 then e.1 else if e.1 < 1000 then e.1 - 100 else e.1 - 1000
    if unitBusy cls i s then s else enterSpare cls i s) s
  (List.range 20).foldl (fun s c =>
    if s.arr.joining.getLsbD c && !((List.range 8).any fun k => (s.crucible (8 * c + k)).busy) then
      let s := (List.range 8).foldl (fun s k => wipe (8 * c + k) 0 s) s
      { s with arr := { s.arr with raw := setBit s.arr.raw c true, joining := setBit s.arr.joining c false } }
    else s) s

/-- A rotation of R22: the incoming spare unit is scrubbed and active, then the outgoing one leaves. -/
def rotate (cls : UnitClass) (incoming outgoing : Nat) (s : State) : State :=
  let a := unitNumber cls incoming
  let s := claimUnit cls incoming s
  leaveActive cls outgoing ((scrubUnit a s).setRole a .active)

/-- The lowest spare unit of a class that is qualified. -/
def lowestSpare (cls : UnitClass) (s : State) : Option Nat :=
  firstBelow (unitCount cls) fun i => decide (s.role (unitNumber cls i) = .spare) && !unqualified cls i s

/-- SPARE_ROTATION: the control pair moves the spare role from one unit of a class to another (R22, R267). -/
def execSpareRotation (cls : UnitClass) (incoming outgoing : BitVec 8) (s : State) : Answer :=
  let i := incoming.toNat
  let o := outgoing.toNat
  let raw (n : Nat) : Bool := decide (cls = .crucible) && inRaw s n
  let ok := decide (i < unitCount cls) && decide (o < unitCount cls) &&
    decide (s.role (unitNumber cls i) = .spare) && decide (s.role (unitNumber cls o) = .active) &&
    !unqualified cls i s && !(raw o && ((s.crucible o).lease.isSome ||
      (List.range 160).any fun n => raw n && decide (s.role (1000 + n) = .spare)))
  .next (if ok then rotate cls i o s else s)

/-- A unit that detected a fault: another takes its role, it enters the spare role unqualified, and its qualification is
queued (R536). -/
def faultUnit (cls : UnitClass) (i : Nat) (s : State) : State :=
  let u := unitNumber cls i
  let s := match sliceOn cls i s with | some id => displace id s | none => s
  let s := setUnqualified cls i true s
  let s :=
    if s.role u = .active then
      (match lowestSpare cls s with
        | some n => let a := unitNumber cls n
                    (scrubUnit a (claimUnit cls n s)).setRole a .active
        | none => s).setRole u .spare
    else s
  (enqueue { cls := BitVec.ofNat 8 cls.code, index := BitVec.ofNat 16 i, slice := 0xFFFF, qualify := true } (scrubUnit u s)).2

/-- A unit is retired: out of both roles for good (R24). Requests that name it read expired (R535). -/
def retireUnit (cls : UnitClass) (i : Nat) (s : State) : State :=
  let u := unitNumber cls i
  let named (id : Nat) : Bool := decide ((s.request id).cls.toNat = cls.code) && decide ((s.request id).index.toNat = i)
  let gone := (s.bst.waiting ++ s.bst.running).filter named
  let s := gone.foldl (fun s id => s.setRequest id { s.request id with state := 5, hours := s.lcs.hours }) s
  let s := { s with bst := { s.bst with
    waiting := s.bst.waiting.filter (!gone.contains ·), running := s.bst.running.filter (!gone.contains ·)
    done := (gone ++ s.bst.done).take 256 } }
  setUnqualified cls i false ((scrubUnit u s).setRole u .retired)

/-- Active units of a class. -/
def activeCount (cls : UnitClass) (s : State) : Nat :=
  countBelow (unitCount cls) fun i => decide (s.role (unitNumber cls i) = .active) || decide (s.role (unitNumber cls i) = .leaving)

/-- The hook after each job: traffic keys whose jobs have ended go, and roles settle (R22, R266, R319). -/
def afterJob (s : State) : State := settleRoles (reapTraffic s)

end Sys2Proof.Machine
end

