-- ==== Sys2Proof/Machine/CmdBst.lean ====
section
/-! DEFINITION. The self-test controller and the event recorder's commands (R531-R554). -/

namespace Sys2Proof.Machine

/-! ### Slices (R531) -/

/-- Slices of a class. -/
def sliceCount (cls : Nat) : Nat := match cls with | 0 => 7 | 1 => 8 | 2 => 3 | _ => 4

/-- The slices of a request, from the one it is at. -/
def lastSlice (r : BstRequest) : Nat := if r.slice = 0xFFFF then sliceCount r.cls.toNat - 1 else r.slice.toNat

/-- A march test. -/
def isMarch (cls slice : Nat) : Bool :=
  (decide (cls = 0) && decide (slice = 5)) || (decide (cls = 1) && decide (slice ≤ 1)) || (decide (cls = 2) && decide (slice = 0))

/-- An activation or a rollback runs, or units wait for their new image that a rotation can reach (R535, R579). -/
def activating (s : State) : Bool :=
  (s.tasks.any fun e => decide (e.2.opcode = 0x0F01) || decide (e.2.opcode = 0x0F02)) ||
    s.upd.reload.any fun u => decide (s.role u ≠ .debug) && decide (s.role u ≠ .retired) &&
      (decide (u < 1000) || (s.crucible (u - 1000)).lease.isNone)

/-- Starts are held (R534, R535). -/
def startsHeld (s : State) : Bool :=
  let mv := s.pwr.setpoint.toNat
  !(((decide (720 ≤ mv) && decide (mv ≤ 800)) && !s.pwr.avsFault) || !s.pwr.avsOn) || decide (2 < s.pwr.cone.toNat) || !s.pwr.up || activating s

/-- A unit may take a slice: it is in the spare role, no slice and no work on it, and it is qualified unless the run is its
qualification. -/
def sliceFree (r : BstRequest) (s : State) (i : Nat) : Bool :=
  let cls := classOf r.cls.toNat
  decide (s.role (unitNumber cls i) = .spare) && !unitBusy cls i s && (sliceOn cls i s).isNone &&
    (r.qualify || !unqualified cls i s)

/-- An idle active unit, which a request may borrow. -/
def borrowFree (cls : UnitClass) (s : State) (i : Nat) : Bool :=
  decide (s.role (unitNumber cls i) = .active) && !unitBusy cls i s && !unqualified cls i s

/-- The unit on which a request can start now, and whether it is borrowed from the active role (R532, R538). -/
def sliceUnit (r : BstRequest) (s : State) : Option (Nat × Bool) :=
  let cls := classOf r.cls.toNat
  let i := r.index.toNat
  if r.cls = 3 then
    (if (s.bst.running.any fun id => decide ((s.request id).cls = 3) && decide ((s.request id).index = r.index)) ||
        (decide (i < 16) && s.msub.retrain.isSome) then none else some (i, false))
  else if r.index ≠ 0xFFFF then
    (if sliceFree r s i then some (i, false)
     else if borrowFree cls s i then some (i, true)
     else none)
  else match firstBelow (unitCount cls) (sliceFree r s) with
  | some n => some (n, false)
  | none =>
    if (List.range (unitCount cls)).any fun n => decide (s.role (unitNumber cls n) = .spare) then none
    else (firstBelow (unitCount cls) (borrowFree cls s)).map fun n => (n, true)

/-- The queue in the order it is served: qualifications, requests, the schedule (R532). -/
def serveOrder (s : State) : List Nat :=
  let w := s.bst.waiting
  (w.filter fun id => (s.request id).qualify) ++ (w.filter fun id => !(s.request id).qualify && !(s.request id).scheduled) ++
    (w.filter fun id => (s.request id).scheduled)

/-- SLICE_START: the first request that can start does (R532, R534). -/
def execSliceStart (s : State) : Answer :=
  .next (if startsHeld s then s
    else match (serveOrder s).findSome? fun id => (sliceUnit (s.request id) s).map fun u => (id, u) with
    | none => s
    | some (id, n, borrowed) =>
      let r := s.request id
      let cls := classOf r.cls.toNat
      let u := unitNumber cls n
      let s := if borrowed then (scrubUnit u s).setRole u .spare else s
      let s := s.setRequest id { r with
        state := 1, unit := BitVec.ofNat 16 n, at_ := if r.slice = 0xFFFF then 0 else r.slice, rerun := false, borrowed }
      { s with bst := { s.bst with waiting := s.bst.waiting.erase id, running := s.bst.running ++ [id] } })

/-- A request completes in a state. -/
def endRequest (id : Nat) (state : BitVec 8) (signature : Nat) (s : State) : State :=
  let r := s.request id
  let cls := classOf r.cls.toNat
  let u := unitNumber cls r.unit.toNat
  let s := if r.cls = 3 then s else scrubUnit u s
  let s := if r.borrowed && decide (s.role u = .spare) then s.setRole u .active else s
  let s := s.setRequest id { r with state, signature := BitVec.ofNat 32 signature, hours := s.lcs.hours }
  { s with bst := { s.bst with
      running := s.bst.running.erase id, waiting := s.bst.waiting.erase id, done := (id :: s.bst.done).take 256 } }

/-- What a slice that ran to its end counts: crucible slices 6 and 7 one operation each, any slice its cycles or bytes, all
of it overhead (R531). The amounts that no rule gives are free. -/
def countSlice (r : BstRequest) (s : State) : State :=
  let n := r.unit.toNat
  let slice := r.at_.toNat
  if r.cls = 1 then
    let op : Option (Nat × Nat) :=
      if slice = 6 then some (opSign, opCycles 0x101 opSign 4 1)
      else if slice = 7 then some (opDecaps, opCycles 0x121 opDecaps 3 1) else none
    let x := s.crucible n
    match op with
    | some (type, cycles) =>
      let c := (opCharge type).add (cycleCharge cycles)
      chargeOverhead c (countEngine c (s.setCrucible n { x with
        actOps := x.actOps + 1, byType := mapMod 0 x.byType type (· + 1), actCyc := x.actCyc + BitVec.ofNat 64 cycles }))
    | none =>
      let cycles := (s.free 20).toNat
      let c := cycleCharge cycles
      chargeOverhead c (countEngine c ((s.setCrucible n { x with actCyc := x.actCyc + BitVec.ofNat 64 cycles }).used 1))
  else if r.cls = 0 then
    let cls := match slice with | 2 => 1 | 3 => 6 | 4 => 7 | _ => 0
    let bytes := (s.free 16).toNat
    let l := s.lane n
    let c := laneCharge cls bytes
    chargeOverhead c (countEngine c ((s.setLane n { l with
      actBytes := l.actBytes + BitVec.ofNat 64 bytes, byClass := mapMod 0 l.byClass cls (· + bytes) }).used 1))
  else s

/-- The macro of a failing row and the row within it; macros are 8 KiB, 128 rows of 64 bytes (R540, R541). -/
def macroOf (r : BstRequest) (row : Nat) : Nat × Nat :=
  let m := (if r.cls = 1 ∧ r.at_ = 1 then 4 else 0) + row / 128
  (r.cls.toNat * 2 ^ 28 + r.unit.toNat * 2 ^ 16 + m, row % 128)

/-- The macro id of a failing line of a unit (R541). -/
def lineMacro (r : BstRequest) (b : BadLine) : Nat := r.cls.toNat * 2 ^ 28 + r.unit.toNat * 2 ^ 16 + b.macro_.toNat

/-- The lines a failed march test asks to repair. -/
def badLines (r : BstRequest) (row : Nat) (lines : List BadLine) : List BadLine :=
  if lines = [] then
    [{ column := false, macro_ := BitVec.ofNat 16 ((macroOf r row).1 % 2 ^ 16), address := BitVec.ofNat 16 (macroOf r row).2 }]
  else lines

/-- One repair: a free spare row or column of the line's macro and room in the map; none where it is not repairable
(R541). -/
def repairLineOf (r : BstRequest) (repairs : List RepairEntry) (b : BadLine) : Option (List RepairEntry) :=
  let m := lineMacro r b
  let n := (repairs.filter fun e => decide (e.macro_.toNat = m) && e.column == b.column).length
  if 2 ≤ n ∨ 3712 ≤ repairs.length then none
  else some (repairs ++
    [{ macro_ := BitVec.ofNat 32 m, column := b.column, spare := BitVec.ofNat 8 n, address := b.address }])

/-- The repair of every failing line, or none where one of them is not repairable (R536, R541). -/
def repairAll (r : BstRequest) (lines : List BadLine) (repairs : List RepairEntry) : Option (List RepairEntry) :=
  lines.foldl (fun acc b => acc.bind fun l => repairLineOf r l b) (some repairs)

/-- SLICE_COMPLETE: the slice of a run ends (R531, R536, R537). -/
def execSliceComplete (run : Nat) (result : SliceResult) (s : State) : Answer :=
  .next (if !s.bst.running.contains run then s
    else
      let r := s.request run
      let s := countSlice r s
      let cls := r.cls.toNat
      match result with
      | .passed =>
        if r.at_.toNat < lastSlice r then s.setRequest run { r with at_ := r.at_ + 1, rerun := false }
        else
          let s := if r.qualify then
            raiseEvent 313 (detail [(4, run), (1, 0), (1, cls), (2, r.unit.toNat)])
              (setUnqualified (classOf cls) r.unit.toNat false s)
          else s
          endRequest run 2 0 s
      | .failed d lines =>
        let bad := badLines r (d.toNat % 65536) lines
        let sig := cls * 2 ^ 28 + r.at_.toNat * 2 ^ 16 + d.toNat % 65536
        let s := raiseEvent 312 (detail [(4, run), (4, sig)]) s
        let s := if cls = 3 then raiseEvent 315 (detail [(4, run), (4, sig)]) s else s
        if !r.qualify then endRequest run 3 sig s
        else
          let repaired := if isMarch cls r.at_.toNat && !r.rerun then repairAll r bad s.bst.repairs else none
          match repaired with
          | some repairs =>
            bad.foldl (fun s b => raiseEvent 314 (detail [(4, run), (4, lineMacro r b)]) s)
              { s.setRequest run { r with rerun := true } with bst := { (s.setRequest run { r with rerun := true }).bst with repairs } }
          | none =>
            let s := endRequest run 3 sig s
            raiseEvent 313 (detail [(4, run), (1, 1), (1, cls), (2, r.unit.toNat)]) (retireUnit (classOf cls) r.unit.toNat s))

/-- SLICE_REQUEST_EXPIRY: 10 s after its acceptance a request of the host that has not completed expires (R533). -/
def execSliceRequestExpiry (request : BitVec 32) (s : State) : Answer :=
  let id := request.toNat
  let r := s.request id
  .next (if (s.bst.waiting ++ s.bst.running).contains id && !r.qualify && !r.scheduled then
    raiseEvent 315 (detail [(4, id), (4, 0)]) (endRequest id 5 0 s) else s)

/-- The queue and its results go (R535). -/
def dropRequests (s : State) : State :=
  { s with bst := { s.bst with requests := [], waiting := [], running := [], done := [], ids := 0 } }

/-! ### BST_RUN_SLICE and BST_STATUS -/

def specBstRunSlice : CmdSpec := { opcode := 0x0D00, phys := true, lengthOk := (· = 8) }

def bodyBstRunSlice (rq : Req) (s : State) : CmdRes :=
  let cls := rq.field 0 1
  let i := rq.field 2 2
  let slice := rq.field 4 2
  let top := match cls with | 0 => 16 | 1 => 160 | 2 => 28 | _ => 35
  let u := unitNumber (classOf cls) i
  if !rq.rsvd 1 1 ∨ !rq.rsvd 6 2 then failWith stNotPermitted s
  else if 3 < cls ∨ (i ≠ 0xFFFF ∧ top ≤ i) ∨ (slice ≠ 0xFFFF ∧ sliceCount cls ≤ slice) ∨ (cls = 3 ∧ i = 0xFFFF) ∨
      (cls = 3 ∧ 16 ≤ i ∧ i ≤ 31) ∨ (cls = 3 ∧ i = 34 ∧ s.cards.mounted) then failWith stNotPermitted s
  else if cls < 3 ∧ i ≠ 0xFFFF ∧ (s.role u = .retired ∨ s.role u = .debug ∨ unqualified (classOf cls) i s) then
    failWith stNotPermitted s
  else if s.lcs.state = 2 ∧ ((cls < 3 ∧ i ≠ 0xFFFF ∧ s.role u = .active) ∨ (cls = 3 ∧ (i = 32 ∨ i = 33))) then
    failWith stNotPermitted s
  else if 64 ≤ (s.bst.waiting.filter fun id => !(s.request id).qualify && !(s.request id).scheduled).length then
    failWith stLimit s
  else
    let r := enqueue { cls := BitVec.ofNat 8 cls, index := BitVec.ofNat 16 i, slice := BitVec.ofNat 16 slice } s
    .done stOk 0 (leBytes 4 r.1) r.2

def execBstRunSlice (rq : Req) (s : State) : Answer := .next (runCommand specBstRunSlice rq (bodyBstRunSlice rq) s)

def specBstStatus : CmdSpec := { opcode := 0x0D01, phys := true, side := true, exempt := true, lengthOk := (· = 4) }

def bodyBstStatus (rq : Req) (s : State) : CmdRes :=
  let id := rq.field 0 4
  let known := (s.bst.waiting ++ s.bst.running ++ s.bst.done).contains id
  let r : Option BstRequest := if id = 0 then s.bst.fullResult else if known then some (s.request id) else none
  match r with
  | none => failWith stBadHandle s
  | some r =>
    .done stOk 0 ([r.state, 0] ++ leBytes 2 r.unit.toNat ++ leBytes 4 r.signature.toNat ++ leBytes 4 r.hours.toNat ++
      leBytes 4 0) s

def execBstStatus (rq : Req) (s : State) : Answer := .next (runCommand specBstStatus rq (bodyBstStatus rq) s)

/-! ### The line checker (R544, R553) -/

/-- A write of BST_LINKCTL: the pattern, and with GO the check of the selected line starts. -/
def writeLinkctl (v : Word) (s : State) : State :=
  let b := { s.bst with pattern := v.setWidth 2 }
  if v.getLsbD 31 then
    { s with bst := { b with linkBusy := true, locked := false, linkDone := false, linkBits := 0, linkErr := 0 } }
  else { s with bst := b }

/-- LINK_CHECK_DONE: 2^20 bits have been checked. -/
def execLinkCheckDone (locked : Bool) (errors : BitVec 32) (s : State) : Answer :=
  .next (if s.bst.linkBusy then
    { s with bst := { s.bst with
        linkBusy := false, locked, linkDone := true, linkBits := if locked then 0x100000 else 0
        linkErr := if locked then errors else 0 } }
  else s)

/-! ### The recorder -/

/-- RECORDER_SNAPSHOT (R552). -/
def execRecorderSnapshot (s : State) : Answer :=
  let v := s.evr
  .next { s with evr := { v with commitLog := [], snapshot := { log := v.log, next := v.next, hist := v.hist, extremes := v.extremes } } }

/-- WINDOW_EXPIRY: 60 s after its last use. -/
def execWindowExpiry (window : BitVec 32) (s : State) : Answer :=
  .next { s with evr := { s.evr with
    windows := mapMod {} s.evr.windows window.toNat fun w => { w with isOpen := false } } }

/-- HISTOGRAM_SAMPLE: one value of a metric (R547, R548). -/
def execHistogramSample (metric : BitVec 8) (value : BitVec 32) (s : State) : Answer :=
  .next (sampleMetric metric.toNat value s)

def specEvrOpenWindow : CmdSpec :=
  { opcode := 0x0D10, phys := true, side := true, exempt := true, lengthOk := (· = 4) }

/-- Windows that are open. -/
def State.openWindows (s : State) : Nat := mapCount (fun _ w => w.isOpen) s.evr.windows

/-- Whether a request came over the sideband. -/
def rqSideband (rq : Req) : Bool := match rq.route with | .sideband _ _ => true | _ => false

def bodyEvrOpenWindow (rq : Req) (s : State) : CmdRes :=
  let kind := rq.field 0 1
  let i := rq.field 2 2
  let v := s.evr
  let oldest := v.next - BitVec.ofNat 32 v.log.length
  if 2 < kind ∨ !rq.rsvd 1 1 ∨ (kind = 0 ∧ v.log.length < i) ∨ (kind = 1 ∧ 127 < i) ∨ (kind = 2 ∧ 63 < i) then
    failWith stNotPermitted s
  else if 8 ≤ s.openWindows then failWith stLimit s
  else
    let id := v.windowIds + 1
    let w : EvrWindow :=
      { isOpen := true, sideband := rqSideband rq, kind := BitVec.ofNat 8 kind
        cursor := if kind = 0 then oldest + BitVec.ofNat 32 i else BitVec.ofNat 32 i }
    .done stOk 0 (leBytes 4 id) { s with evr := { v with windows := mapPut v.windows id w, windowIds := id } }

def execEvrOpenWindow (rq : Req) (s : State) : Answer := .next (runCommand specEvrOpenWindow rq (bodyEvrOpenWindow rq) s)

/-- The 48 bytes of a log record (R545); its generation is the one its slot has now. -/
def evrBytes (v : Recorder) (r : EvrRecord) : List Byte :=
  leBytes 4 r.seq.toNat ++ leBytes 2 (mapGet 0 v.gens r.slot).toNat ++ leBytes 2 r.repeats.toNat ++
    leBytes 2 r.source.toNat ++ leBytes 2 r.flags.toNat ++ leBytes 4 0 ++ leBytes 8 r.detail.toNat ++
    leBytes 8 r.first.toNat ++ leBytes 8 r.last.toNat ++ leBytes 4 r.hours.toNat ++ leBytes 4 r.cycles.toNat

/-- The 144 bytes of a histogram record. -/
def histBytes (v : Recorder) (c : Nat) : List Byte :=
  let h := v.channel c
  leBytes 2 c ++ leBytes 2 h.gen.toNat ++ [h.metric, if h.log2 then 1 else 0, h.width, 0] ++ leBytes 4 h.base.toNat ++
    leBytes 4 0 ++ ((List.range 32).flatMap fun i => leBytes 4 (mapGet 0 h.bins i).toNat)

/-- An extreme pair as it stands. -/
def Recorder.pair (v : Recorder) (p : Nat) : Extreme := mapGet { metric := defaultMetric p } v.extremes p

/-- The 32 bytes of an extreme record. -/
def extremeBytes (v : Recorder) (p : Nat) : List Byte :=
  let x := v.pair p
  leBytes 2 p ++ leBytes 2 x.gen.toNat ++ [x.metric, if x.empty then 1 else 0] ++ leBytes 2 0 ++ leBytes 4 x.min.toNat ++
    leBytes 4 x.max.toNat ++ leBytes 8 x.minAt.toNat ++ leBytes 8 x.maxAt.toNat

def specEvrRead : CmdSpec := { opcode := 0x0D11, phys := true, side := true, exempt := true, lengthOk := (· = 8) }

def bodyEvrRead (rq : Req) (s : State) : CmdRes :=
  let id := rq.field 0 4
  let n := rq.field 4 2
  let v := s.evr
  let w := mapGet {} v.windows id
  let top := if w.kind = 0 then 42 else if w.kind = 1 then 14 else 63
  let cur := w.cursor.toNat
  let reply (bytes : List Byte) (k skipped cursor : Nat) : CmdRes :=
    .done stOk 0 (leBytes 2 k ++ leBytes 2 (if skipped = 0 then 0 else 1) ++ leBytes 4 (min skipped 0xFFFFFFFF) ++
      leBytes 4 cursor ++ leBytes 4 0 ++ bytes)
      { s with evr := { v with windows := mapPut v.windows id { w with cursor := BitVec.ofNat 32 cursor } } }
  if !w.isOpen ∨ w.sideband ≠ rqSideband rq then failWith stBadHandle s
  else if n = 0 ∨ !rq.rsvd 6 2 then failWith stNotPermitted s
  else if top < n then failWith stLimit s
  else if w.kind = 0 then
    let ahead := (v.next - w.cursor).toNat
    let held := min ahead v.log.length
    let rs := (v.log.drop (v.log.length - held)).take n
    let skipped := ahead - held
    reply (rs.flatMap (evrBytes v)) rs.length skipped ((cur + skipped + rs.length) % 2 ^ 32)
  else if w.kind = 1 then
    let k := min n (128 - cur)
    reply ((List.range k).flatMap fun i => histBytes v (cur + i)) k 0 (cur + k)
  else
    let k := min n (64 - cur)
    reply ((List.range k).flatMap fun i => extremeBytes v (cur + i)) k 0 (cur + k)

def execEvrRead (rq : Req) (s : State) : Answer := .next (runCommand specEvrRead rq (bodyEvrRead rq) s)

def specEvrClear : CmdSpec := { opcode := 0x0D12, phys := true, lengthOk := (· = 4) }

/-- The bins of a channel, or a pair, empty; its generation moves on. -/
def clearChannel (c : Nat) (v : Recorder) : Recorder :=
  { v with hist := mapMod {} v.hist c fun h => { h with bins := [], gen := h.gen + 1 } }
def clearPair (p : Nat) (v : Recorder) : Recorder :=
  { v with extremes := mapPut v.extremes p { metric := (v.pair p).metric, gen := (v.pair p).gen + 1 } }

def bodyEvrClear (rq : Req) (s : State) : CmdRes :=
  let kind := rq.field 0 1
  let c := rq.field 2 2
  let v := s.evr
  if 2 < kind ∨ !rq.rsvd 1 1 then failWith stNotPermitted s
  else if kind = 0 then
    (if c ≠ 0xFFFF then failWith stNotPermitted s
     else
      let gens := v.log.foldl (fun g r => mapMod 0 g r.slot (· + 1)) v.gens
      .done stOk 0 [] (raiseEvent 317 0 { s with evr := { v with log := [], gens } }))
  else if kind = 1 then
    (if c = 0xFFFF then .done stOk 0 [] { s with evr := (List.range 128).foldl (fun v c => clearChannel c v) v }
     else if 127 < c then failWith stNotPermitted s
     else .done stOk 0 [] { s with evr := clearChannel c v })
  else
    (if c = 0xFFFF then .done stOk 0 [] { s with evr := (List.range 64).foldl (fun v p => clearPair p v) v }
     else if 63 < c then failWith stNotPermitted s
     else .done stOk 0 [] { s with evr := clearPair c v })

def execEvrClear (rq : Req) (s : State) : Answer := .next (runCommand specEvrClear rq (bodyEvrClear rq) s)

end Sys2Proof.Machine
end

