-- ==== Sys2Proof/Machine/CmdCfg.lean ====
section
/-! DEFINITION. CFG_READ and CFG_WRITE: the configuration items and the operator area of the flash (R197-R199, R266,
R431-R433, R451, R464, R465, R543, R547, R548). -/

namespace Sys2Proof.Machine

/-! ### The items (R199) -/

/-- An item as written; empty where it has not been. -/
def State.item (s : State) (n : Nat) : List Byte := mapGet [] s.flash.items n

/-- The items the table lists. -/
def itemListed (n : Nat) : Bool :=
  [0x0150, 0x0310, 0x0920, 0x0A00, 0x0A01, 0x0A10, 0x0B20, 0x0D00, 0x0D10, 0x0D40, 0x0D50, 0x0E10, 0x0E20, 0x1000, 0x1010,
    0x1020, 0x2100, 0x2101, 0x2120].contains n

/-- Items that apply from the next reset on which keeps only what POR_N keeps. -/
def itemDelayed (n : Nat) : Bool := [0x0150, 0x0920, 0x0E10, 0x0E20].contains n

/-- The default of an item that has not been written; where the table gives a length and no default, zeros, and nothing for
a key that is not enrolled (log entry 58). -/
def itemDefault (n : Nat) : List Byte :=
  match n with
  | 0x0150 => leBytes 4 500 ++ leBytes 4 10 ++ leBytes 4 200 ++ leBytes 4 10
  | 0x0310 => leBytes 4 0
  | 0x0920 => List.replicate 472 0
  | 0x0B20 => [1]
  | 0x0D00 => [0]
  | 0x0D10 => leBytes 4 0
  | 0x0E10 => [0x40, 0x41, 0x42, 0x43]
  | 0x0E20 => [2]
  | 0x2100 => [0x4C]
  | 0x2101 => [0, 0]
  | _ => []

/-- The 16 bytes of an entry of the backup tamper log (R463). -/
def tamperBytes (e : TamperEntry) : List Byte :=
  leBytes 4 e.seq.toNat ++ leBytes 2 e.mask.toNat ++ [e.cls, e.repeats] ++ leBytes 4 e.time.toNat ++
    leBytes 2 e.lockseq.toNat ++ [e.supply, e.design]

/-- The value CFG_READ returns. -/
def itemValue (n : Nat) (s : State) : List Byte :=
  if n = 0x0A01 then leBytes 4 s.flash.signSeq.toNat
  else if n = 0x1010 then leBytes 2 s.bk.fuseDis.toNat
  else if n = 0x1020 then [BitVec.ofNat 8 s.bk.log.length, 0, 0, 0] ++ s.bk.log.flatMap tamperBytes
  else
    let v := if itemDelayed n then mapGet [] s.flash.applied n else s.item n
    if v = [] then itemDefault n else v

/-- The item needs an operator signature: 0x0A00 only once a key is enrolled. -/
def itemSigned (n : Nat) (s : State) : Bool :=
  [0x0150, 0x0A10, 0x1000, 0x1010].contains n || (decide (n = 0x0A00) && decide (s.item 0x0A00 ≠ []))

/-- The state permits the write: life-cycle states and the lock state of the Written column. -/
def itemWritable (n : Nat) (s : State) : Bool :=
  let lc := s.lcs.state.toNat
  if n = 0x0A01 ∨ n = 0x1020 ∨ n = 0x2120 then false
  else if n = 0x0150 ∨ n = 0x0A00 ∨ n = 0x0A10 then decide (lc = 1) || decide (lc = 2)
  else if n = 0x0D10 then decide (lc = 1)
  else if n = 0x1000 then decide (s.bk.lock = 0)
  else if n = 0x1010 then decide (s.bk.lock = 0) && decide (lc ≤ 2)
  else true

/-- Entries of `n` bytes that a value holds. -/
def entriesOf (n : Nat) (v : List Byte) : List (List Byte) := (List.range (v.length / n)).map fun i => (v.drop (n * i)).take n

/-- The value has the item's length and lies in its range. -/
def itemRange (n : Nat) (v : List Byte) (s : State) : Bool :=
  let len (k : Nat) : Bool := decide (v.length = k)
  let word (i : Nat) : Nat := leField v (4 * i) 4
  let inside (x lo hi : Nat) : Bool := decide (lo ≤ x) && decide (x ≤ hi)
  match n with
  | 0x0150 => len 16 && inside (word 0) 50 2000 && inside (word 1) 1 1000 && inside (word 2) 20 2000 && inside (word 3) 1 1000
  | 0x0310 => len 4 && decide (word 0 < 2 ^ 20) && decide (popCount (BitVec.ofNat 32 (word 0)) ≤ 16)
  | 0x0920 => len 472
  | 0x0A00 | 0x0A10 => len 97
  | 0x0B20 => len 1 && decide (leField v 0 1 ≤ 2)
  | 0x0D00 => len 1
  | 0x0D10 =>
    len 4 && decide (word 0 = 1) &&
      decide (s.bst.fused.length + (s.bst.repairs.filter fun e => !s.bst.fused.contains e).length ≤ 2048)
  | 0x0D40 =>
    decide (v.length % 8 = 0) && (entriesOf 8 v).all fun e =>
      inside (leField e 0 1) 16 127 && decide (leField e 2 1 ≤ 1) && decide (leField e 3 1 ≤ 24)
  | 0x0D50 => decide (v.length % 4 = 0) && (entriesOf 4 v).all fun e => decide (leField e 0 1 ≤ 63) && decide (leField e 2 2 = 0)
  | 0x0E10 => len 4
  | 0x0E20 => len 1 && decide (leField v 0 1 ≤ 13)
  | 0x1000 =>
    let m := leField v 0 1
    let k := leField v 1 1
    len (4 + 65 * k) && decide (1 ≤ m) && decide (m ≤ k) && decide (k ≤ 8) && decide (leField v 2 2 = 0)
  | 0x1010 => len 2 && decide (leField v 0 2 < 2 ^ 14)
  | 0x2100 => len 1 && decide (leField v 0 1 < 128)
  | 0x2101 => len 2 && decide (leField v 0 2 < 2 ^ 15)
  | _ => false

/-! ### The crucible groups (R266) -/

/-- Clusters of a mask. -/
def clustersOf (m : BitVec 20) : List Nat := (List.range 20).filter fun c => m.getLsbD c

/-- A lease holds a crucible of a cluster. -/
def clusterLeased (c : Nat) (s : State) : Bool := (List.range 8).any fun k => (s.crucible (8 * c + k)).lease.isSome

/-- An active whole-operation crucible that can take the spare role. -/
def wholeActive (s : State) (n : Nat) : Bool :=
  decide (s.role (1000 + n) = .active) && !inRaw s n && !joiningRaw s n

/-- The spare-role crucibles of the joining clusters hand the role over, one rotation each (R266): the outgoing ones. -/
def handSpares : List Nat → State → State × List Nat
  | [], s => (s, [])
  | n :: rest, s =>
    if s.role (1000 + n) = .spare then
      (match firstBelow 160 (wholeActive s) with
        | some o =>
          let r := handSpares rest (rotate .crucible n o s)
          (r.1, o :: r.2)
        | none => handSpares rest s)
    else handSpares rest s

/-- The groups change: clusters that leave the raw group do so at once; clusters that join it wait for their jobs. -/
def setGroups (m : BitVec 20) (s : State) : State × List Nat :=
  let a := s.arr
  let joining := m &&& ~~~a.raw
  let s := { s with arr := { a with raw := a.raw &&& m, joining } }
  let units := (clustersOf joining).flatMap fun c => (List.range 8).map fun k => 8 * c + k
  let r := handSpares units s
  (settleRoles r.1, (units ++ r.2).map (1000 + ·))

/-! ### The effect of a write -/

/-- Applies an item at the effect point. -/
def applyItem (n : Nat) (v : List Byte) (s : State) : State :=
  let s := if n = 0x1010 then s
    else { s with flash := { s.flash with items := mapSet [] s.flash.items n v } }
  match n with
  | 0x0310 => (setGroups (BitVec.ofNat 20 (leNat v)) s).1
  | 0x0D10 =>
    { s with bst := { s.bst with fused := s.bst.fused ++ s.bst.repairs.filter fun e => !s.bst.fused.contains e } }
  | 0x0D40 =>
    (entriesOf 8 v).foldl (fun s e =>
      let c := leField e 0 1
      let h : Histogram :=
        { gen := (s.evr.channel c).gen + 1, metric := BitVec.ofNat 8 (leField e 1 1), log2 := decide (leField e 2 1 = 1)
          width := BitVec.ofNat 8 (leField e 3 1), base := BitVec.ofNat 32 (leField e 4 4) }
      { s with evr := { s.evr with hist := mapSet {} s.evr.hist c h } }) s
  | 0x0D50 =>
    (entriesOf 4 v).foldl (fun s e =>
      let p := leField e 0 1
      let x := s.evr.pair p
      let m := BitVec.ofNat 8 (leField e 1 1)
      if x.metric = m then s
      else { s with evr := { s.evr with extremes := mapPut s.evr.extremes p { metric := m, gen := x.gen + 1 } } }) s
  | 0x1010 =>
    let m := BitVec.ofNat 14 (leNat v)
    let b := s.bk
    { s with bk := { b with
        fuseDis := b.fuseDis ||| m, active := b.active &&& ~~~m, latch := b.latch &&& ~~~m } }
  | _ => s

/-- What a signed write is signed over (R198). -/
def signedText (n seq : Nat) (v : List Byte) : List Byte :=
  [0x53, 0x58, 0x54, 0x34, 0x31, 0x39, 0x32, 0x20, 0x63, 0x66, 0x67, 0x20, 0x76, 0x31] ++ serialBytes ++ leBytes 4 n ++
    leBytes 4 seq ++ leBytes 2 v.length ++ v

/-! ### CFG_READ -/

def specCfgRead : CmdSpec := { opcode := 0x0900, phys := true, rings := 2, lengthOk := (· = 4) }

def bodyCfgRead (rq : Req) (s : State) : CmdRes :=
  let item := rq.field 0 4
  let cls := item / 2 ^ 28
  let low := item % 2 ^ 20
  if cls = 0 then
    (if !itemListed item then failWith stNotPermitted s
     else
       let v := itemValue item s
       match respFits rq (4 + v.length) with
       | some st => failWith st s
       | none => .done stOk 0 (leBytes 4 v.length ++ v) s)
  else if cls = 1 ∧ low ≤ 60415 then
    let r := windowRead (operatorBase + 256 * low) 256 s
    .done stOk 0 (leBytes 4 256 ++ r.1) r.2
  else failWith stNotPermitted s

def execCfgRead (rq : Req) (s : State) : Answer := .next (runCommand specCfgRead rq (bodyCfgRead rq) s)

/-! ### CFG_WRITE -/

def specCfgWrite : CmdSpec := { opcode := 0x0901, phys := true, lengthOk := (8 ≤ ·) }

/-- The value and the signature of a request. -/
def cfgValue (rq : Req) : List Byte := rq.bytes 8 (rq.field 4 2)
def cfgSig (rq : Req) : List Byte := rq.bytes (8 + rq.field 4 2) (rq.field 6 2)

/-- The write of a class 0 item that has passed every check. -/
def writeItem (rq : Req) (s : State) : CmdRes :=
  let n := rq.field 0 4
  let v := cfgValue rq
  if n = 0x0310 then
    let m := BitVec.ofNat 20 (leNat v)
    let out := s.arr.raw &&& ~~~m
    if (clustersOf out).any fun c => clusterLeased c s then failWith stBusy s
    else
      let s := { s with flash := { s.flash with items := mapSet [] s.flash.items n v } }
      let r := setGroups m s
      if r.1.arr.joining = 0 ∧ r.2.all fun u => !unitBusy .crucible (u - 1000) r.1 then .done stOk 0 [] r.1
      else .wait { rq, effected := true, work := [.idle r.2] } r.1
  else
    let s := if itemSigned n s then { s with flash := { s.flash with signSeq := s.flash.signSeq + 1 } } else s
    .done stOk 0 [] (applyItem n v s)

/-- The first check of a program or an erase that fails apart from work of the part itself on the sector, for which the
command waits; an erase-pending sector is blank by then. A sector that another command holds or waits for is taken (R433,
R435, R440). -/
def operatorCheck (o : FlashOp) (s : State) : Option Nat :=
  let sec := o.addr / 4096
  let host (p : FlashOp) : Bool := decide (p.addr / 4096 = sec) && (p.task.isSome || p.byReg)
  if s.flash.prog.any host || s.flash.era.any host || s.flash.queue.any host then some 7
  else
    match flashCheck o { s with flash := { s.flash with prog := none, era := none, erasePending := [] } } with
    | some 2 => if s.flash.erasePending.contains sec then none else some 2
    | r => r

/-- A program or an erase of the operator area. -/
def operatorWrite (rq : Req) (o : FlashOp) (w : Work) (s : State) : CmdRes :=
  match operatorCheck o s with
  | some r => failWith (flashStatus r) (flashRefused r s)
  | none => .wait { rq, work := [w] } s

def bodyCfgWrite (rq : Req) (s : State) : CmdRes :=
  let item := rq.field 0 4
  let cls := item / 2 ^ 28
  let low := item % 2 ^ 20
  let v := cfgValue rq
  let sig := cfgSig rq
  if rq.payload.length ≠ 8 + rq.field 4 2 + rq.field 6 2 then failWith stBadLength s
  else if cls = 0 then
    if !itemListed item ∨ !itemWritable item s ∨ !itemRange item v s then failWith stNotPermitted s
    else if !itemSigned item s then (if sig ≠ [] then failWith stNotPermitted s else writeItem rq s)
    else if s.item 0x0A00 = [] ∨ sig.length ≠ 100 ∨ leField sig 0 4 ≠ s.flash.signSeq.toNat then failWith stAuthFail s
    else .wait { rq, work := [p384Work] } s
  else if cls = 1 ∧ low ≤ 60415 ∧ v.length = 256 ∧ sig = [] then
    operatorWrite rq { addr := operatorBase + 256 * low, bytes := v } (.program (operatorBase + 256 * low) v) s
  else if cls = 2 ∧ low ≤ 3775 ∧ v = [] ∧ sig = [] then
    operatorWrite rq { erase := true, addr := operatorBase + 4096 * low } (.erase (4160 + low)) s
  else failWith stNotPermitted s

/-- The end of a signed write, of a program or an erase (its RESULT stands in the note), or of the change of groups. -/
def finishCfgWrite (t : Task) (s : State) : CmdRes :=
  let rq := t.rq
  let item := rq.field 0 4
  if item / 2 ^ 28 ≠ 0 then failWith (flashStatus (t.note.headD 0)) s
  else if t.effected then .done stOk 0 [] s
  else
    let v := cfgValue rq
    let sig := cfgSig rq
    if !itemWritable item s ∨ !itemRange item v s then failWith stNotPermitted s
    else if leField sig 0 4 ≠ s.flash.signSeq.toNat ∨
        !stdVerify 0x102 1 0 (s.item 0x0A00) (sig.drop 4) (stdHash 9 48 (signedText item (leField sig 0 4) v)) then
      failWith stAuthFail s
    else writeItem rq s

def execCfgWrite (rq : Req) (s : State) : Answer := .next (runCommand specCfgWrite rq (bodyCfgWrite rq) s)

end Sys2Proof.Machine
end

