-- ==== Sys2Proof/Machine/CmdSys.lean ====
section
/-! DEFINITION. The system, power, update, unit and module commands (R191, R192, R202-R204, R577-R590). -/

namespace Sys2Proof.Machine

/-! ### SYS_IDENTIFY, SYS_GET_CAPS, SYS_GET_HEALTH -/

/-- The bank the bank-select record names, and whether the part runs its image. -/
def State.bank (s : State) (b : Bool) : PatchBank := if b then s.upd.bankB else s.upd.bankA
def State.setBank (s : State) (b : Bool) (x : PatchBank) : State :=
  { s with upd := if b then { s.upd with bankB := x } else { s.upd with bankA := x } }

/-- The image in force: that of the activation or of the boot, none on ROM alone (R95, R564, R579). -/
def State.image (s : State) : Option Bool := s.upd.running

/-- The bank that is active. -/
def State.activeBank (s : State) : Bool := s.image.getD s.upd.select

/-- The state format that runs (R577). -/
def State.stateFormat (s : State) : Word := match s.image with | some b => (s.bank b).format | none => Config.romFormat

/-- Patch version in force; 0 on ROM alone. -/
def State.patchVersion (s : State) : Nat := match s.image with | some b => (s.bank b).version.toNat | none => 0

def specSysIdentify : CmdSpec :=
  { opcode := 0x0100, any := true, side := true, rings := 2, exempt := true, lengthOk := (· = 0) }

def bodySysIdentify (_rq : Req) (s : State) : CmdRes :=
  .done stOk 0 (leBytes 4 0x4192 ++ [revisionCode, s.lcs.state, 1, 0] ++ serialBytes ++ leBytes 4 Config.romVersion.toNat ++
    leBytes 4 s.patchVersion ++ [if s.activeBank then 1 else 0] ++ leBytes 31 0) s

def execSysIdentify (rq : Req) (s : State) : Answer := .next (runCommand specSysIdentify rq (bodySysIdentify rq) s)

def specSysGetCaps : CmdSpec := { opcode := 0x0101, any := true, side := true, rings := 2, lengthOk := (· = 0) }

/-- Active crucibles of one group (R268). -/
def activeCrucibles (raw : Bool) (s : State) : Nat :=
  countBelow 160 fun n =>
    (decide (s.role (1000 + n) = .active) || decide (s.role (1000 + n) = .leaving)) && (inRaw s n == raw)

def bodySysGetCaps (_rq : Req) (s : State) : CmdRes :=
  .done stOk 0 (leBytes 2 4096 ++ leBytes 2 4096 ++ leBytes 4 65536 ++ leBytes 4 65536 ++ leBytes 4 16777216 ++
    leBytes 1 (activeCount .lane s) ++ leBytes 1 (activeCrucibles false s) ++ leBytes 1 (activeCount .service s) ++
    leBytes 1 (activeCrucibles true s) ++ leBytes 4 50331648 ++ leBytes 2 2032 ++ leBytes 2 65520 ++ leBytes 36 0) s

def execSysGetCaps (rq : Req) (s : State) : Answer := .next (runCommand specSysGetCaps rq (bodySysGetCaps rq) s)

/-- The retired units of a class as a mask. -/
def retiredMask (cls : UnitClass) (s : State) : Nat :=
  (List.range (unitCount cls)).foldl (fun n i => if s.role (unitNumber cls i) = .retired then n + 2 ^ i else n) 0

def specSysGetHealth : CmdSpec :=
  { opcode := 0x0104, any := true, side := true, rings := 2, exempt := true, lengthOk := (· = 0) }

/-- A read by the physical function clears flags 11 and 15 (R192). -/
def bodySysGetHealth (rq : Req) (s : State) : CmdRes :=
  .done stOk 0 (leBytes 8 (healthFlags s) ++ leBytes 1 s.sup.pg.toNat ++ [0] ++ leBytes 2 (~~~s.msub.trained).toNat ++
    leBytes 2 (retiredMask .lane s) ++ leBytes 4 (retiredMask .service s) ++ leBytes 2 0 ++
    leBytes 20 (retiredMask .crucible s) ++ leBytes 2 s.sparesFree ++ leBytes 2 s.pwr.junction.toNat ++
    leBytes 4 s.lcs.hours.toNat ++ leBytes 4 s.lcs.cycles.toNat ++ leBytes 12 0)
    (if reqFn rq s = some 0 then
      noteHealth s { s with health := { s.health with takeover := false, brokenSeal := false } } else s)

def execSysGetHealth (rq : Req) (s : State) : Answer := .next (runCommand specSysGetHealth rq (bodySysGetHealth rq) s)

/-! ### PWR_SET_FLOOR and PWR_STATUS (R79, R80, R202) -/

def specPwrSetFloor : CmdSpec := { opcode := 0x0E00, phys := true, lengthOk := (· = 4) }

/-- A new floor: an exit starts where the tolerance no longer permits the cone (R80). -/
def setFloor (v : BitVec 20) (s : State) : State :=
  reevaluateCone { s with pwr := { s.pwr with floor := v } }

def bodyPwrSetFloor (rq : Req) (s : State) : CmdRes :=
  let v := rq.field 0 4
  if 0xFFFFF < v then failWith stNotPermitted s
  else
    let lowers := decide (v < s.pwr.floor.toNat)
    let s := setFloor (BitVec.ofNat 20 v) s
    if lowers && !coneAllowed s then .wait { rq, effected := true, work := [.cone] } s else .done stOk 0 [] s

def execPwrSetFloor (rq : Req) (s : State) : Answer := .next (runCommand specPwrSetFloor rq (bodyPwrSetFloor rq) s)

/-- The term that sets the tolerance: 0 host, 1 saggar, 2 floor; the first among equals. -/
def toleranceSource (s : State) : Nat :=
  let t := s.tolerance
  if s.hostTerm = t then 0 else if s.saggarTerm = t then 1 else 2

def specPwrStatus : CmdSpec := { opcode := 0x0E01, phys := true, side := true, lengthOk := (· = 0) }

def bodyPwrStatus (_rq : Req) (power : BitVec 32) (s : State) : CmdRes :=
  let p := s.pwr
  .done stOk 0 (leBytes 1 p.cone.toNat ++ leBytes 1 p.target.toNat ++ leBytes 1 p.throttle.toNat ++
    leBytes 1 (toleranceSource s) ++ leBytes 4 s.tolerance ++ leBytes 4 s.hostTerm ++ leBytes 4 s.saggarTerm ++
    leBytes 4 p.floor.toNat ++ leBytes 2 p.setpoint.toNat ++
    leBytes 1 ((if p.avsOn then 1 else 0) + (if p.avsFault then 2 else 0)) ++ [0] ++ leBytes 4 power.toNat ++ leBytes 4 0) s

def execPwrStatus (rq : Req) (powerMilliwatt : BitVec 32) (s : State) : Answer :=
  .next (runCommand specPwrStatus rq (bodyPwrStatus rq powerMilliwatt) s)

/-! ### Patch images (R577-R580) -/

/-- An update command runs. -/
def updateRuns (s : State) : Bool :=
  s.tasks.any fun e => decide (e.2.opcode = 0x0F01) || decide (e.2.opcode = 0x0F02)

def specUpdStage : CmdSpec := { opcode := 0x0F00, phys := true, lengthOk := (· = 24) }

/-- The bank that is not active, and where it stands in the flash. -/
def State.otherBank (s : State) : Bool := !s.activeBank
def bankBase (b : Bool) : Nat := if b then 0x400000 else 0

/-- The bytes of one page with a chunk written over it. -/
def pageBytes (base off page : Nat) (data : List Byte) (s : State) : List Byte :=
  (List.range 256).map fun j =>
    let a := page * 256 + j
    if off ≤ a ∧ a < off + data.length then data.getD (a - off) 0xFF
    else if a < off then (flashRead (base + a) 1 s).headD 0xFF else 0xFF

/-- The erases and programs of a chunk at an offset of its bank: the sectors it is the first to enter, then its pages. -/
def chunkWork (base off : Nat) (data : List Byte) (s : State) : List Work :=
  if data = [] then []
  else
    let last := off + data.length - 1
    let firstSector := (off + 4095) / 4096
    ((List.range (last / 4096 + 1 - firstSector)).map fun i => Work.erase (base / 4096 + firstSector + i)) ++
      (List.range (last / 256 + 1 - off / 256)).map fun i =>
        let page := off / 256 + i
        Work.program (base + page * 256) (pageBytes base off page data s)

/-- A sector of the chunk that its write-protect bit or another operation refuses (R433). -/
def chunkRefused (ws : List Work) (s : State) : Option Nat :=
  ws.findSome? fun w => match w with
    | .erase sec => if sectorWp sec s then some 4 else none
    | .program a _ => if sectorWp (a / 4096) s then some 4 else none
    | _ => none

/-- The other bank is marked empty. -/
def emptyBank (s : State) : State :=
  let s := s.setBank s.otherBank {}
  { s with upd := { s.upd with staged := 0 } }

def finishUpdStage (t : Task) (s : State) : CmdRes :=
  let rq := t.rq
  let n := rq.field 8 4
  let off := rq.field 16 4
  let base := bankBase s.otherBank
  if t.note.contains 5 then failWith stWorn s
  else
    let s := { s with upd := { s.upd with staged := off + n } }
    if rq.field 20 1 = 0 then .done stOk 0 (leBytes 4 (off + n)) s
    else
      let image := flashRead base (off + n) s
      let len := leField image 12 4
      if off + n ≠ len then failWith stLimit (emptyBank s)
      else if !stdVerify 0x102 1 0 patchKey (image.drop (len - 96))
          (stdHash 9 48 (image.take (len - 96))) then failWith stAuthFail (emptyBank s)
      else if Config.romVersion.toNat < leField image 8 4 then failWith stNotPermitted (emptyBank s)
      else
        .done stOk 0 (leBytes 4 (off + n)) (s.setBank s.otherBank
          { verified := true, version := BitVec.ofNat 32 (leField image 4 4)
            format := BitVec.ofNat 32 (leField image 16 4), length := len })

def bodyUpdStage (rq : Req) (s : State) : CmdRes :=
  let n := rq.field 8 4
  let off := rq.field 16 4
  if !rq.rsvd 12 4 ∨ 1 < rq.field 20 1 ∨ !rq.rsvd 21 3 then failWith stNotPermitted s
  else if 262144 < n then failWith stBadLength s
  else if updateRuns s ∨ (s.tasks.any fun e => decide (e.2.opcode = 0x0F00)) then failWith stBusy s
  else if off ≠ 0 ∧ off ≠ s.upd.staged then failWith stNotPermitted s
  else if 4194304 < off + n then failWith stLimit s
  else if rq.dmaFails then .done stInternal 1 [] (raiseEvent 20 (detail [(2, dmaFn rq s), (2, 0), (4, 0x0F00)]) s)
  else
    let base := bankBase s.otherBank
    let ws := chunkWork base off (padTo n rq.data) s
    match chunkRefused ws s with
    | some r => failWith (flashStatus r) (flashRefused r s)
    | none => waitOr finishUpdStage { rq, work := ws } (if off = 0 then emptyBank s else s)

def execUpdStage (rq : Req) (s : State) : Answer := .next (runCommand specUpdStage rq (bodyUpdStage rq) s)

/-- Commands on the active pair that have not reached their effect point. -/
def beforeEffect (s : State) : List Nat :=
  (s.tasks.filter fun e => !e.2.effected && decide (e.2.opcode.toNat < 0x8000)).map (·.1)

/-- Every service core and every crucible that is not retired. -/
def reloadUnits (s : State) : List Nat :=
  ((List.range 28).map (100 + ·) ++ (List.range 160).map (1000 + ·)).filter fun (u : Nat) =>
    decide (s.role u ≠ Role.retired) && decide (s.role u ≠ Role.retiring)

/-- Steps 1 and 2 of R579: the bank-select record is programmed, the effect point. -/
def activate (rq : Req) (s : State) : CmdRes :=
  if updateRuns s ∨ (s.tasks.any fun e => decide (e.2.opcode = 0x0A01)) then failWith stBusy s
  else
    let dest := s.otherBank
    let s := { s with upd := { s.upd with select := dest, running := some dest, staged := 0 } }
    .wait { rq, effected := true, work := [.drain (beforeEffect s)] } s

/-- Steps 3 to 5: the pairs exchange roles, and every unit waits for its reload. -/
def finishActivate (_t : Task) (s : State) : CmdRes :=
  .done stOk 0 (leBytes 4 s.patchVersion ++ [if s.activeBank then 1 else 0, 0, 0, 0])
    { s with upd := { s.upd with pair := !s.upd.pair, reload := reloadUnits s } }

def specUpdActivate : CmdSpec := { opcode := 0x0F01, phys := true, lengthOk := (· = 0) }

def bodyUpdActivate (rq : Req) (s : State) : CmdRes :=
  let b := s.bank s.otherBank
  if !b.verified ∨ b.format ≠ s.stateFormat then failWith stNotPermitted s else activate rq s

def execUpdActivate (rq : Req) (s : State) : Answer := .next (runCommand specUpdActivate rq (bodyUpdActivate rq) s)

def specUpdRollback : CmdSpec := { opcode := 0x0F02, phys := true, lengthOk := (· = 0) }

def bodyUpdRollback (rq : Req) (s : State) : CmdRes :=
  let b := s.bank s.otherBank
  if !b.verified ∨ b.format ≠ s.stateFormat then failWith stNotPermitted s else activate rq s

def execUpdRollback (rq : Req) (s : State) : Answer := .next (runCommand specUpdRollback rq (bodyUpdRollback rq) s)

/-! ### UNIT_RETIRE (R581-R583) -/

def specUnitRetire : CmdSpec := { opcode := 0x0F03, phys := true, lengthOk := (· = 4) }

/-- The unit class and index of a request. -/
def retireClass (rq : Req) : UnitClass := classOf (rq.field 0 1)

/-- Active units that remain once a unit of the class is retired. -/
def activeAfter (cls : UnitClass) (i : Nat) (s : State) : Nat :=
  let u := unitNumber cls i
  let others := countBelow (unitCount cls) fun n => decide (n ≠ i) &&
    (decide (s.role (unitNumber cls n) = .active) || decide (s.role (unitNumber cls n) = .leaving))
  if s.role u ≠ .spare ∧ (lowestSpare cls s).isSome then others + 1 else others

def bodyUnitRetire (rq : Req) (s : State) : CmdRes :=
  let cls := retireClass rq
  let i := rq.field 2 2
  let u := unitNumber cls i
  if 2 < rq.field 0 1 ∨ !rq.rsvd 1 1 ∨ unitCount cls ≤ i ∨ s.role u = .debug then failWith stNotPermitted s
  else if s.role u = .retired then .done stOk 0 [] s
  else if (s.tasks.any fun e => decide (e.2.opcode = 0x0F03)) ∨ (cls = .crucible ∧ (s.crucible i).lease.isSome) then
    failWith stBusy s
  else if activeAfter cls i s = 0 then failWith stLimit s
  else
    let s := match sliceOn cls i s with | some id => displace id s | none => s
    let s :=
      if s.role u = .spare then s
      else match lowestSpare cls s with
        | some n =>
          let a := unitNumber cls n
          (scrubUnit a (claimUnit cls n s)).setRole a .active
        | none => s
    if unitBusy cls i s then .wait { rq, work := [.idle [u]] } (s.setRole u .retiring)
    else .done stOk 0 [] (retireUnit cls i s)

/-- Its jobs have completed: scrub and retirement entry, the effect point (R583). -/
def finishUnitRetire (t : Task) (s : State) : CmdRes :=
  .done stOk 0 [] (retireUnit (retireClass t.rq) (t.rq.field 2 2) s)

def execUnitRetire (rq : Req) (s : State) : Answer := .next (runCommand specUnitRetire rq (bodyUnitRetire rq) s)

/-! ### UNIT_RECALIBRATE (R406, R423, R584) -/

def specUnitRecalibrate : CmdSpec := { opcode := 0x0F04, phys := true, lengthOk := (· = 4) }

/-- The die-to-die link is retrained (R29): health flag 7 and event 299. -/
def retrainLink (s : State) : State :=
  noteHealth s (raiseEvent 299 (detail [(1, 2)]) { s with
    health := { s.health with retrained := true }, fabric := { s.fabric with replays := 0 } })

/-- A pair of the crazing source is retrimmed and tested (R406). -/
def recalPair (i : Nat) (passes : Bool) (s : State) : State :=
  let s := { s with ent := { s.ent with failed := setBit s.ent.failed i (!passes) } }
  if passes && decide (s.ent.state = 3) && decide (4 ≤ s.pairsInUse) then setEntState 2 s else s

def bodyUnitRecalibrate (rq : Req) (passes : Bool) (s : State) : CmdRes :=
  let cls := rq.field 0 1
  let i := rq.field 2 2
  if 2 < cls ∨ !rq.rsvd 1 1 then failWith stNotPermitted s
  else if cls = 0 then
    (if 11 < i then failWith stNotPermitted s
     else if 10 ≤ i then .done stOk 0 [] (retrainLink s)
     else if s.pwr.unlocked.getLsbD (if i % 2 = 0 then i + 1 else i - 1) then failWith stBusy s
     else .done stOk 0 [] s)
  else if cls = 1 then
    (if 15 < i ∨ !s.msub.trained.getLsbD i then failWith stNotPermitted s
     else if s.msub.retrain.isSome then failWith stBusy s
     else .wait { rq, effected := true, work := [.retrain] } (startRetrain i (some s.taskIds) s))
  else if 7 < i ∨ (!s.ent.failed.getLsbD i ∧ s.pairsInUse = 4) then failWith stNotPermitted s
  else .done stOk 0 [] (recalPair i passes s)

def execUnitRecalibrate (rq : Req) (passes : Bool) (s : State) : Answer :=
  .next (runCommand specUnitRecalibrate rq (bodyUnitRecalibrate rq passes) s)

/-! ### Service modules (R586-R590) -/

def moduleRange : Nat := 4112

/-- The module a handle names for the saggar id of a header. -/
def findModule (h : BitVec 64) (s : State) : Option Nat :=
  match handleOk 0x8E moduleRange s.vault.modGens s h with
  | some i => if (mapGet ({} : Module) s.vault.modules i).live then some i else none
  | none => none

def moduleHandle (s : State) (i : Nat) : BitVec 64 := mkHandle 0x8E (mapGet 0 s.vault.modGens i) s.vault.epoch.toNat i

/-- Checks 1 of R588 on an image and the header's saggar id. -/
def imageOk (img : List Byte) (n : Nat) (sag : BitVec 16) : Bool :=
  let f (off k : Nat) : Nat := leField img off k
  let ring := f 2 1
  let g := f 6 2
  let c := f 16 4
  let d := f 20 4
  decide (f 0 2 = 1) && (decide (ring = 2) || decide (ring = 3)) && decide (1 ≤ g) && decide (g ≤ 64) &&
    decide (c % 4 = 0) && ((List.range g).all fun i => decide (f (64 + 4 * i) 4 < c) && decide (f (64 + 4 * i) 4 % 4 = 0)) &&
    decide (1 ≤ f 24 4) && decide (f 24 4 ≤ 100000) && decide (f 32 4 = n) && decide (n = 64 + 4 * g + c + d + 96) &&
    decide (f 4 2 = sag.toNat) && (decide (ring = 3) == decide (sag ≠ 0xFFFF))

/-- Another command on the module table, or an update, runs. -/
def modulesBusy (s : State) : Bool :=
  updateRuns s || (s.tasks.any fun e => decide (e.2.opcode = 0x0F10) || decide (e.2.opcode = 0x0F11))

def specModLoad : CmdSpec := { opcode := 0x0F10, scope := .either, phys := true, lengthOk := (· = 16) }

def bodyModLoad (rq : Req) (s : State) : CmdRes :=
  let n := rq.field 8 4
  let img := padTo n rq.data
  let f (off k : Nat) : Nat := leField img off k
  let ring := f 2 1
  let size := f 16 4 + f 20 4
  let ring2 := s.vault.modules.filter fun e => decide (e.2.ring = 2)
  let taken (i : Nat) : Bool :=
    (mapGet ({} : Module) s.vault.modules i).live || decide (255 < mapGet 0 s.vault.modGens i)
  if !rq.rsvd 12 4 then failWith stNotPermitted s
  else if rq.dmaFails then .done stInternal 1 [] (raiseEvent 20 (detail [(2, dmaFn rq s), (2, 0), (4, 0x0F10)]) s)
  else if !imageOk img n rq.saggar ∨ (ring = 3 ∧ !(s.saggar rq.saggar.toNat).policy.getLsbD 4) ∨
      Config.romVersion.toNat < f 28 4 then failWith stNotPermitted s
  else if s.item 0x0A00 = [] ∨
      !stdVerify 0x102 1 0 (s.item 0x0A00) (img.drop (n - 96)) (stdHash 9 48 (img.take (n - 96))) then failWith stAuthFail s
  else if (ring = 2 ∧ (16 ≤ ring2.length ∨ 49152 < ring2.foldl (fun k e => k + e.2.size) 0 + size)) ∨
      (ring = 3 ∧ ((s.vault.modules.any fun e => decide (e.2.saggar = rq.saggar)) ∨ 32768 < size)) then failWith stLimit s
  else if modulesBusy s then failWith stBusy s
  else match firstBelow moduleRange fun i => !taken i with
  | none => failWith stLimit s
  | some i =>
    let m : Module :=
      { live := true, ring := BitVec.ofNat 2 ring, saggar := rq.saggar, gates := f 6 2, limit := BitVec.ofNat 32 (f 24 4)
        image := img, size, order := s.vault.modules.foldl (fun k e => max k (e.2.order + 1)) 0 }
    let s := { s with vault := { s.vault with modules := mapPut s.vault.modules i m } }
    .done stOk 0 (leBytes 8 (moduleHandle s i).toNat) s

def execModLoad (rq : Req) (s : State) : Answer := .next (runCommand specModLoad rq (bodyModLoad rq) s)

/-- Calls of a module in flight. -/
def callsOf (i : Nat) (s : State) : List Nat :=
  (s.tasks.filter fun e => decide (e.2.opcode = 0x0F12) && decide (e.2.note.head? = some i)).map (·.1)

def specModUnload : CmdSpec := { opcode := 0x0F11, scope := .either, phys := true, lengthOk := (· = 8) }

def bodyModUnload (rq : Req) (s : State) : CmdRes :=
  match findModule (Req64 rq 0) s with
  | none => failWith stBadHandle s
  | some i =>
    if (mapGet ({} : Module) s.vault.modules i).saggar ≠ rq.saggar then failWith stBadHandle s
    else if modulesBusy s then failWith stBusy s
    else
      let calls := callsOf i s
      let s := dropModule i s
      if calls = [] then .done stOk 0 [] s else .wait { rq, effected := true, work := [.drain calls] } s

def execModUnload (rq : Req) (s : State) : Answer := .next (runCommand specModUnload rq (bodyModUnload rq) s)

def specModCall : CmdSpec := { opcode := 0x0F12, scope := .saggar, owner := true, queue := true, lengthOk := (16 ≤ ·) }

/-- The end of a call with its output (R589). -/
def callReturns (rq : Req) (status : BitVec 32) (length : Nat) (output : List Byte) (s : State) : CmdRes :=
  if 16384 < length then .done stInternal 3 [] s
  else match respFits rq (8 + length) with
  | some st => failWith st s
  | none => .done stOk 0 (leBytes 4 status.toNat ++ leBytes 4 length ++ padTo length output) s

def bodyModCall (rq : Req) (outcome : ModuleOutcome) (s : State) : CmdRes :=
  let n := rq.field 12 4
  if rq.payload.length ≠ 16 + n ∨ 16384 < n then failWith stBadLength s
  else match findModule (Req64 rq 0) s with
  | none => failWith stBadHandle s
  | some i =>
    let m : Module := mapGet {} s.vault.modules i
    if m.ring = 3 ∧ m.saggar ≠ rq.saggar then failWith stBadHandle s
    else if m.gates ≤ rq.field 8 2 ∨ !rq.rsvd 10 2 then failWith stNotPermitted s
    else match outcome with
    | .returned status length output => callReturns rq status length output s
    | .faulted => .done stInternal 3 [] s
    | .coreLost => .done stInternal 2 [] s
    | .runs => .wait { rq, effected := true, work := [.call], note := [i] } s

def execModCall (rq : Req) (outcome : ModuleOutcome) (s : State) : Answer :=
  .next (runCommand specModCall rq (bodyModCall rq outcome) s)

/-- MODULE_CALL_TIMEOUT: the limit of a call that runs passes (R589). -/
def execModuleCallTimeout (call : Nat) (s : State) : Answer :=
  let t := s.task call
  .next (if t.opcode = 0x0F12 ∧ t.work = [.call] then finishTask call stLimit 0 [] s else s)

end Sys2Proof.Machine
end

