-- ==== Sys2Proof/Machine/Sideband.lean ====
section
/-! DEFINITION. The sideband: the two-wire port, MCTP, SPDM, DOE and the test access port (R555-R570). -/

namespace Sys2Proof.Machine

/-! ### The two-wire port (R555) -/

/-- A dynamic address moves the port to I3C, where it has none yet. -/
def takeAddress (addr : BitVec 7) (s : State) : State :=
  if s.side.i3c then s else { s with side := { s.side with i3c := true, dynAddr := addr } }

/-- A reply on the port, in I3C mode. -/
def i3cReply (bytes : List Byte) (s : State) : State := if s.side.i3c then s.emit (.i3cReply bytes) else s

def execEntdaa (addr : BitVec 7) (s : State) : Answer := .next (takeAddress addr s)

def execSetdasa (addr : BitVec 7) (s : State) : Answer := .next (takeAddress addr s)

def execSetnewda (addr : BitVec 7) (s : State) : Answer :=
  .next (if s.side.i3c then { s with side := { s.side with dynAddr := addr } } else s)

def execRstdaa (s : State) : Answer := .next { s with side := { s.side with i3c := false, dynAddr := 0 } }

/-- The provisional ID: bits 47 to 33 from the item, bit 32 zero, the low word of the SHA-256 of the serial. -/
def provisionalId (s : State) : Nat :=
  leNat (s.item 0x2101) % 2 ^ 15 * 2 ^ 33 + beNat (stdHash 8 32 serialBytes) % 2 ^ 32

def execGetpid (s : State) : Answer := .next (i3cReply (beBytes 6 (provisionalId s)) s)

def execGetbcr (s : State) : Answer := .next (i3cReply [0x06] s)

def execGetdcr (s : State) : Answer := .next (i3cReply [0x00] s)

/-- GETSTATUS: the format is the MIPI standard's; its two bytes are a free value. -/
def execGetstatus (s : State) : Answer := .next (i3cReply (s.freeBytes 2) (s.used 1))

/-- GETMXDS: the encoding of the limits is the MIPI standard's; its two bytes are a free value. -/
def execGetmxds (s : State) : Answer := .next (i3cReply (s.freeBytes 2) (s.used 1))

def execEnec (events : BitVec 8) (s : State) : Answer :=
  .next (if s.side.i3c then { s with side := { s.side with events := s.side.events ||| events } } else s)

def execDisec (events : BitVec 8) (s : State) : Answer :=
  .next (if s.side.i3c then { s with side := { s.side with events := s.side.events &&& ~~~events } } else s)

/-! ### MCTP (R556-R559) -/

/-- The binding carries packets: the VDM binding carries nothing while the link is in L2. -/
def bindingUp (vdm : Bool) (s : State) : Bool := !(vdm && s.hif.l2)

/-- A reply to a control command. -/
def controlReply (vdm : Bool) (code : Nat) (fields : List Byte) (s : State) : State :=
  if bindingUp vdm s then s.emit (.mctpControl vdm code fields) else s

/-- The EID of a binding. -/
def bindingEid (vdm : Bool) (s : State) : BitVec 8 := if vdm then s.side.eidVdm else s.side.eidWire

/-- SET_ENDPOINT_ID: 0 and 0xFF are no assignable EIDs (PRESUMED from the MCTP standard, log entry 64). -/
def execSetEndpointId (vdm : Bool) (eid : BitVec 8) (s : State) : Answer :=
  .next (if !bindingUp vdm s then s
    else if eid = 0 ∨ eid = 0xFF then controlReply vdm 2 [] s
    else controlReply vdm 0 [eid] { s with side :=
      if vdm then { s.side with eidVdm := eid } else { s.side with eidWire := eid } })

def execGetEndpointId (vdm : Bool) (s : State) : Answer := .next (controlReply vdm 0 [bindingEid vdm s] s)

/-- GET_ENDPOINT_UUID: the UUID is the part's own. -/
def execGetEndpointUuid (vdm : Bool) (s : State) : Answer :=
  .next (controlReply vdm 0 (padTo 16 (Config.standard 113 [serialBytes])) s)

/-- GET_MCTP_VERSION_SUPPORT: MCTP 1.3. -/
def execGetMctpVersionSupport (vdm : Bool) (s : State) : Answer := .next (controlReply vdm 0 [1, 3] s)

def execGetMessageTypeSupport (vdm : Bool) (s : State) : Answer := .next (controlReply vdm 0 [0x00, 0x05, 0x7E] s)

/-- The messages under assembly of a binding. -/
def assemblies (vdm : Bool) (s : State) : FMap Assembly := if vdm then s.side.vdm else s.side.wire
def setAssemblies (vdm : Bool) (m : FMap Assembly) (s : State) : State :=
  { s with side := if vdm then { s.side with vdm := m } else { s.side with wire := m } }

/-! ### SPDM (R560-R566) -/

/-- The number of a transport's connection. -/
def connIndex : SpdmTransport → Nat | .wire => 0 | .vdm => 1 | .doe => 2

def State.conn (s : State) (t : SpdmTransport) : SpdmConn := mapGet {} s.side.conns (connIndex t)
def State.setConn (s : State) (t : SpdmTransport) (c : SpdmConn) : State :=
  { s with side := { s.side with conns := mapSet {} s.side.conns (connIndex t) c } }

/-- The certificate chain of slot 0 (item 0x2120). -/
def State.chain (s : State) : List Byte := s.item 0x2120

/-- The leaf key of the chain is the attestation key. -/
def chainMatches (s : State) : Bool := Config.standardBit 114 [s.chain, stdPublic 0x102 97 attestKey]

/-- Signatures and certificates are on offer (R562, R566). -/
def certified (s : State) : Bool :=
  (decide (s.lcs.state = 1) || decide (s.lcs.state = 2)) && decide (s.chain ≠ []) && chainMatches s

/-- The bytes of a response, as the SPDM standard lays them out. -/
def replyBytes : SpdmReply → List Byte
  | .version vs => Config.standard 115 [vs.map (BitVec.ofNat 8)]
  | .capabilities e c m f n =>
    Config.standard 116 [leBytes 1 e, [if c then 1 else 0], leBytes 1 m.toNat, [if f then 1 else 0], leBytes 4 n]
  | .algorithms => Config.standard 117 []
  | .digests slots d => Config.standard 118 [leBytes 1 slots, d]
  | .certificate slot portion rest => Config.standard 119 [leBytes 1 slot, portion, leBytes 2 rest]
  | .challengeAuth chain nonce summary sig => Config.standard 120 [chain, nonce, summary, sig]
  | .measurements bs nonce sig =>
    Config.standard 121 ((bs.flatMap fun b => [leBytes 1 b.1, leBytes 1 b.2.1, b.2.2]) ++ [nonce, sig])
  | .error _ => []

/-- A response leaves on its transport. -/
def spdmReply (t : SpdmTransport) (r : SpdmReply) (s : State) : State :=
  let s := s.emit (.spdm t r)
  if t = .doe then { s with side := { s.side with doeReady := true } } else s

def spdmError (t : SpdmTransport) (e : SpdmError) (s : State) : State := spdmReply t (.error e) s

/-- The transport carries SPDM now: the VDM binding and DOE need a link out of L2. -/
def transportUp (t : SpdmTransport) (s : State) : Bool := decide (t = .wire) || !s.hif.l2

/-- A request while the previous one of its transport is being served receives ERROR Busy (R561). -/
def spdmGuard (t : SpdmTransport) (s : State) (k : State) : State :=
  if !transportUp t s then s else if (s.conn t).serving.isSome then spdmError t .busy s else k

/-- GET_VERSION lists 1.2 and 1.3 and resets the connection. -/
def execGetVersion (t : SpdmTransport) (request : List Byte) (s : State) : Answer :=
  let r := SpdmReply.version [0x12, 0x13]
  .next (spdmGuard t s (spdmReply t r (s.setConn t
    { phase := .versioned, opening := request ++ replyBytes r, tokens := (s.conn t).tokens })))

/-- What CAPABILITIES offers (R560, R562). -/
def capabilitiesOf (s : State) : SpdmReply :=
  .capabilities 12 (certified s) (if certified s then 2 else 1) true 4096

def execGetCapabilities (t : SpdmTransport) (request : List Byte) (s : State) : Answer :=
  let c := s.conn t
  let r := capabilitiesOf s
  .next (spdmGuard t s (if c.phase ≠ .versioned then spdmError t .unexpectedRequest s
    else spdmReply t r (s.setConn t { c with phase := .capable, opening := c.opening ++ request ++ replyBytes r })))

/-- NEGOTIATE_ALGORITHMS: without P-384 or SHA-384 the connection stays as it was after CAPABILITIES. -/
def execNegotiateAlgorithms (t : SpdmTransport) (p384 sha384 : Bool) (request : List Byte) (s : State) : Answer :=
  let c := s.conn t
  .next (spdmGuard t s (if c.phase ≠ .capable then spdmError t .unexpectedRequest s
    else if !(p384 && sha384) then spdmError t .invalidRequest s
    else spdmReply t .algorithms (s.setConn t
      { c with phase := .negotiated, opening := c.opening ++ request ++ replyBytes .algorithms })))

/-! #### Measurements (R564) -/

/-- Digest of the image in force; 48 zero bytes on ROM alone. -/
def imageDigest (s : State) : List Byte :=
  match s.image with
  | some b => stdHash 9 48 (flashRead (bankBase b) (s.bank b).length s)
  | none => List.replicate 48 0

/-- Ring 2 modules in load order. -/
def ring2Images (s : State) : List (List Byte) :=
  let ms := s.vault.modules.filter fun e => decide (e.2.ring = 2)
  let top := ms.foldl (fun n e => max n (e.2.order + 1)) 0
  (List.range top).flatMap fun k => (ms.filter fun e => decide (e.2.order = k)).map fun e => e.2.image

/-- An item as measurement 8 takes it. -/
def itemMeasured (n : Nat) (s : State) : List Byte :=
  let v := itemValue n s
  leBytes 4 n ++ leBytes 2 v.length ++ v

/-- The block of an index: its value type and value. -/
def measurement (i : Nat) (s : State) : Nat × List Byte :=
  match i with
  | 1 => (0x82, leBytes 4 0x4192 ++ [revisionCode] ++ serialBytes)
  | 2 => (0x00, stdHash 9 48 ((List.range 0x80000).map Config.romByte))
  | 3 => (0x01, imageDigest s)
  | 4 => (0x01, padTo 48 (Config.standard 122 [imageDigest s]))
  | 5 => (0x01, if ring2Images s = [] then List.replicate 48 0 else stdHash 9 48 (ring2Images s).flatten)
  | 6 => (0x83, [s.lcs.state, if s.lcs.isOpen then 1 else 0, s.lcs.rights, if s.lcs.signer then 1 else 0])
  | 7 => (0x83, leBytes 1 s.bk.lock.toNat ++ [if s.bk.lost then 1 else 0] ++ leBytes 2 s.bk.lockseq.toNat ++
      leBytes 4 s.bk.classes.toNat ++ leBytes 2 s.bk.fuseDis.toNat ++ leBytes 2 s.tmpLatch.toNat)
  | 8 => (0x03, stdHash 9 48 (itemMeasured 0x1000 s ++ itemMeasured 0x0A10 s ++ itemMeasured 0x0310 s ++ itemMeasured 0x0920 s))
  | _ => (0x82, leBytes 4 Config.romVersion.toNat ++ leBytes 4 s.patchVersion ++ [if s.activeBank then 1 else 0])

/-- The blocks of a request: one index, or all of them. -/
def blocksOf (index : BitVec 8) (s : State) : List (Nat × Nat × List Byte) :=
  let is := if index = 0xFF then (List.range 9).map (· + 1) else [index.toNat]
  is.map fun i => (i, (measurement i s).1, (measurement i s).2)

/-- The measurement summary hash: type 0 has none. Which blocks type 1 covers is the SPDM standard's. -/
def summaryHash (summary : BitVec 8) (s : State) : List Byte :=
  if summary = 0 then []
  else if summary = 0xFF then stdHash 9 48 ((blocksOf 0xFF s).flatMap fun b => b.2.2)
  else padTo 48 (Config.standard 123 ((blocksOf 0xFF s).map fun b => b.2.2))

/-! #### Requests that need the compute die -/

/-- The signature over a transcript. -/
def attestSign (random text : List Byte) : List Byte := stdSign 0x102 96 1 0 attestKey random (stdHash 9 48 text)

/-- The signed response that a request waited for: its values are those of this instant (R564). -/
def signedReply (t : SpdmTransport) (ask : SpdmAsk) (s : State) : State :=
  let c := s.conn t
  let nonce := s.freeBytes 32
  let random := leBytes 48 (Config.freeNat (s.freeCtr + 1))
  let s := s.used 2
  match ask with
  | .challenge _ summary _ request =>
    let chain := stdHash 9 48 s.chain
    let hash := summaryHash summary s
    let text := c.opening ++ c.certs ++ request ++ replyBytes (.challengeAuth chain nonce hash [])
    spdmReply t (.challengeAuth chain nonce hash (attestSign random text)) (s.setConn t { c with serving := none, certs := [] })
  | .measurements index _ _ request =>
    let bs := blocksOf index s
    let text := c.opening ++ c.measured ++ request ++ replyBytes (.measurements bs nonce [])
    spdmReply t (.measurements bs nonce (attestSign random text)) (s.setConn t { c with serving := none, measured := [] })
  | _ => s.setConn t { c with serving := none }

/-- A signature job of the part for a connection: overhead (R565). -/
def startSigned (t : SpdmTransport) (ask : SpdmAsk) (s : State) : State :=
  let rq : Req :=
    { route := .sideband (decide (t ≠ .wire)) 0, flags := 0, tag := 0, saggar := 0xFFFF, reserved := 0, length := 0, payload := []
      data := [], respAddr := 0, respRoom := 0, dmaFails := false }
  addTask { opcode := 0x8003, rq, effected := true, silent := true, note := [connIndex t]
            work := [.op 0x102 opSign 6 none true] } (s.setConn t { s.conn t with serving := some ask })

/-- One of the requests answered by the powered compute die. -/
def answerAsk (t : SpdmTransport) (ask : SpdmAsk) (s : State) : State :=
  let c := s.conn t
  if c.phase ≠ .negotiated then spdmError t .unexpectedRequest s
  else match ask with
  | .digests request =>
    if !certified s then spdmError t .unsupportedRequest s
    else
      let r := SpdmReply.digests 1 (stdHash 9 48 s.chain)
      spdmReply t r (s.setConn t { c with certs := c.certs ++ request ++ replyBytes r })
  | .certificate slot offset length request =>
    if !certified s then spdmError t .unsupportedRequest s
    else if slot ≠ 0 ∨ s.chain.length ≤ offset.toNat then spdmError t .invalidRequest s
    else
      let portion := (s.chain.drop offset.toNat).take length.toNat
      let r := SpdmReply.certificate 0 portion (s.chain.length - offset.toNat - portion.length)
      spdmReply t r (s.setConn t { c with certs := c.certs ++ request ++ replyBytes r })
  | .challenge slot summary _ _ =>
    if !certified s then spdmError t .unsupportedRequest s
    else if slot ≠ 0 ∨ !([0x00, 0x01, 0xFF].contains summary.toNat) then spdmError t .invalidRequest s
    else startSigned t ask s
  | .measurements index signed _ request =>
    if signed ∧ !certified s then spdmError t .unsupportedRequest s
    else if !(decide (1 ≤ index.toNat) && decide (index.toNat ≤ 9)) && decide (index ≠ 0xFF) then spdmError t .invalidRequest s
    else if signed then startSigned t ask s
    else
      let r := SpdmReply.measurements (blocksOf index s) (s.freeBytes 32) []
      spdmReply t r ((s.used 1).setConn t { c with measured := c.measured ++ request ++ replyBytes r })

/-- A request in cone 3 or 4 is deferred and wakes the part (R563). -/
def askSpdm (t : SpdmTransport) (ask : SpdmAsk) (s : State) : State :=
  spdmGuard t s (
    if s.pwr.cone.toNat < 3 then answerAsk t ask s
    else
      let c := s.conn t
      let token := c.tokens + 1
      spdmError t (.notReady (if s.pwr.cone = 3 then 12 else 16) 2 token)
        (startExit true (s.setConn t { c with deferred := some (token, ask), tokens := token })))

def execGetDigests (t : SpdmTransport) (request : List Byte) (s : State) : Answer := .next (askSpdm t (.digests request) s)

def execGetCertificate (t : SpdmTransport) (slot : BitVec 8) (offset length : BitVec 16) (request : List Byte) (s : State) :
    Answer :=
  .next (askSpdm t (.certificate slot offset length request) s)

def execChallenge (t : SpdmTransport) (slot summary : BitVec 8) (nonce : List Byte) (request : List Byte) (s : State) : Answer :=
  .next (askSpdm t (.challenge slot summary nonce request) s)

def execGetMeasurements (t : SpdmTransport) (index : BitVec 8) (signed : Bool) (nonce : List Byte) (request : List Byte)
    (s : State) : Answer :=
  .next (askSpdm t (.measurements index signed nonce request) s)

/-- RESPOND_IF_READY: the deferred response once the exit has completed, else ResponseNotReady again (R563). -/
def execRespondIfReady (t : SpdmTransport) (token : BitVec 8) (s : State) : Answer :=
  let c := s.conn t
  .next (spdmGuard t s (match c.deferred with
    | some (k, ask) =>
      if k ≠ token then spdmError t .invalidRequest s
      else if s.pwr.cone.toNat < 3 then answerAsk t ask (s.setConn t { c with deferred := none })
      else spdmError t (.notReady (if s.pwr.cone = 3 then 12 else 16) 2 token) (startExit true s)
    | none => spdmError t .unexpectedRequest s))

/-- The signature of a connection is made: the response leaves. -/
def finishSpdm (t : Task) (s : State) : CmdRes :=
  let tr : Option SpdmTransport :=
    match t.note with | 0 :: _ => some .wire | 1 :: _ => some .vdm | 2 :: _ => some .doe | _ => none
  match tr with
  | some tr =>
    (match (s.conn tr).serving with
      | some ask => .done stOk 0 [] (signedReply tr ask s)
      | none => .done stOk 0 [] s)
  | none => .done stOk 0 [] s

/-! ### Whole messages -/

/-- A control command beyond the five of R556 completes with ERROR_UNSUPPORTED_CMD (0x05; the layout and the code are the
MCTP standard's, log entry 64). -/
def unknownControl (vdm : Bool) (bytes : List Byte) (s : State) : State :=
  match bytes with
  | head :: code :: _ =>
    if head.getLsbD 7 && !(decide (1 ≤ code.toNat) && decide (code.toNat ≤ 5)) then controlReply vdm 5 [] s else s
  | _ => s

/-- Request codes the responder answers (R560; the codes are the SPDM standard's, log entry 64). -/
def spdmCodes : List Nat := [0x81, 0x82, 0x83, 0x84, 0xE0, 0xE1, 0xE3, 0xFF]

/-- An SPDM request of any other code receives ERROR UnsupportedRequest (R560). -/
def unknownSpdm (t : SpdmTransport) (message : List Byte) (s : State) : State :=
  match message with
  | _ :: code :: _ =>
    if 0x80 ≤ code.toNat ∧ !spdmCodes.contains code.toNat then spdmGuard t s (spdmError t .unsupportedRequest s) else s
  | _ => s

/-- A whole message: one of a type the part does not handle, with the integrity-check bit, or too long is discarded and
counted (R556). A request the part does not support is answered here; the requests and commands that have rows of their own
arrive as those. -/
def wholeMessage (vdm : Bool) (a : Assembly) (s : State) : State :=
  if a.check || !([0x00, 0x05, 0x7E].contains a.msgType.toNat) || decide (4160 < a.bytes.length + 1) then sideDrop s
  else if a.msgType = 0x00 then unknownControl vdm a.bytes s
  else if a.msgType = 0x05 then unknownSpdm (if vdm then .vdm else .wire) a.bytes s
  else s

/-- MCTP_PACKET: one message is assembled for each source EID and tag (R557); a packet with a wrong error code is a
transport error (R555), one for another EID is not the part's. -/
def execMctpPacket (vdm : Bool) (p : MctpPacket) (s : State) : Answer :=
  let key := 8 * p.source.toNat + p.tag.toNat
  let m := assemblies vdm s
  let held := m.find? fun e => e.1 == key
  .next (if !bindingUp vdm s then s
    else if !vdm && !s.side.i3c && !p.pecGood then raisePlain 318 s
    else if p.dest ≠ bindingEid vdm s ∧ p.dest ≠ 0 then s
    else
      let built : Option Assembly :=
        if p.som then some { next := p.seq + 1, msgType := p.msgType, check := p.check, bytes := p.body }
        else match held with
        | some e => if e.2.next = p.seq then some { e.2 with next := p.seq + 1, bytes := e.2.bytes ++ p.body } else none
        | none => none
      match built with
      | none => setAssemblies vdm (mapDel m key) s
      | some a =>
        if p.eom then wholeMessage vdm a (setAssemblies vdm (mapDel m key) s)
        else setAssemblies vdm (mapPut m key a) s)

/-! ### DOE (R567) -/

/-- DOE_OBJECT: Discovery, CMA/SPDM (whose supported requests arrive as commands of their own), or an unsupported
protocol. -/
def execDoeObject (vendor : BitVec 16) (type : BitVec 8) (body : List Byte) (s : State) : Answer :=
  .next (if s.hif.l2 then s
    else if vendor = 1 ∧ type = 0 ∧ body.length ≤ 4096 then
      (let i := leField body 0 1
       let r : Nat × Nat := if i = 0 then (0, 1) else if i = 1 then (1, 0) else (0, 0)
       { s.emit (.doeDiscovery (if i ≤ 1 then 1 else 0xFFFF) r.1 r.2) with side := { s.side with doeReady := true } })
    else if vendor = 1 ∧ type = 1 ∧ body.length ≤ 4096 then unknownSpdm .doe body s
    else raiseEvent 23 (detail [(4, 0), (4, 0)]) { s with side := { s.side with doeError := true } })

/-- A connection starts again with GET_VERSION; a signature under way goes nowhere. -/
def resetConn (i : Nat) (s : State) : State :=
  { s with
    side := { s.side with conns := mapDel s.side.conns i }
    tasks := s.tasks.map fun e =>
      if e.2.opcode = 0x8003 ∧ e.2.note = [i] then (e.1, { e.2 with note := [9] }) else e }

def execDoeAbort (s : State) : Answer :=
  .next (raiseEvent 23 (detail [(4, 0), (4, 1)])
    (resetConn 2 { s with side := { s.side with doeReady := false, doeError := false } }))

/-! ### Boundary scan (R486, R568, R569) -/

/-- The instructions under which the part takes the link as lost. -/
def ballControl (ir : BitVec 8) : Bool := decide (ir = 0) || decide (ir = 3) || decide (ir = 4)

/-- The test access port works while VDD_VAULT is present. -/
def loadIr (ir : BitVec 8) (s : State) : State :=
  let was := ballControl s.side.ir
  let s := { s with side := { s.side with ir } }
  if ballControl ir ≠ was then raisePlain 321 s else s

/-- A gated instruction without its right selects a bypass register and raises event 295 (R486). -/
def loadGated (ir : BitVec 8) (right : Nat) (s : State) : State :=
  if s.lcs.isOpen && s.lcs.rights.getLsbD right then loadIr ir s else raisePlain 295 (loadIr 0xFF s)

/-- The 32 bits of IDCODE. -/
def idcode : Nat := (if Config.revisionB1 then 2 else 1) * 2 ^ 28 + 0x4192 * 4096 + Config.jep106.toNat * 2 + 1

end Sys2Proof.Machine
end

