-- ==== Sys2Proof/Machine/Reset.lean ====
section
/-! DEFINITION. Resets of the whole part, the boot, and the power-fail commit (R50-R62, R92-R95, R382-R385, R591). -/

namespace Sys2Proof.Machine

/-! ### What a reset of the whole part leaves (R92) -/

/-- A program or an erase that is cut short: the page is undefined; a sector whose row has no STARTED flag yet is unchanged,
any other erase-pending, with its count one too high where the last step was cut. Which step it was is a free value (R440,
R441). -/
def cutFlash (s : State) : State :=
  let s := match s.flash.prog with
    | some o =>
      let page := o.addr / 256 * 256
      { s with flash := { s.flash with mem := memWrite 0xFF s.flash.mem page (s.freeBytes 256), prog := none } }.used 1
    | none => s
  match s.flash.era with
  | some o =>
    let sec := o.addr / 4096
    let f := { s.flash with era := none, suspended := false }
    ({ s with flash :=
        if s.free 1 = 0 then f
        else { f with
          erasePending := sec :: f.erasePending.erase sec
          counts := mapMod 0 f.counts (physSector sec s) fun n => n + Config.freeNat (s.freeCtr + 1) % 2 } }).used 2
  | none => s

/-- The flash as a reset leaves it: its content, wear and items; nothing in progress (R92, R440, R444). -/
def keptFlash (f : Flash) : Flash :=
  { mem := f.mem, remap := f.remap, counts := f.counts, pulses := f.pulses, used := f.used, erasePending := f.erasePending
    wornPending := f.wornPending, groups := f.groups, logHead := f.logHead, items := f.items, applied := f.items
    signSeq := f.signSeq }

/-- The roles that survive: retired units stay retired (R583). -/
def keptRoles (s : State) : FMap Role := s.roles.filter fun e => decide (e.2 = .retired) || decide (e.2 = .retiring)

/-- The part held in a reset that keeps only what POR_N keeps: the backup domain, the timebase, fuses and flash (R92), with
the pins and supplies as they are. -/
def offState (s : State) : State :=
  let s := cutFlash s
  let p := s.pwr
  { State.reset with
    pending := s.pending, freeCtr := s.freeCtr, out := s.out, roles := keptRoles s
    flash := keptFlash s.flash
    vault := { log := s.vault.log, logErased := s.vault.logErased, epoch := s.vault.epoch }
    bk := s.bk
    cards := { ports := mapAll {} (fun _ c => { present := c.present }) s.cards.ports, present := s.cards.present }
    tag := { s.tag with pwdFail := false, fieldWrite := false, pwdFails := 0 }
    sup := s.sup
    pins := { holdDone := s.pins.holdDone, thermTrip := s.pins.thermTrip, tamper := s.pins.tamper }
    pwr := { aon := p.aon, crystalOk := p.crystalOk, scaled := p.scaled, ratio := p.ratio, rstCause := p.rstCause
             stopped := p.stopped, tripped := p.tripped, junction := p.junction }
    fabric := { starts := s.fabric.starts }
    lcs := { otpA := s.lcs.otpA, otpB := s.lcs.otpB, normA := s.lcs.normA, normB := s.lcs.normB, rootDis := s.lcs.rootDis
             state := s.lcs.state, isOpen := false, rights := 0, hours := s.lcs.hours, cycles := s.lcs.cycles }
    tal := { s.tal with resetMinute := some (s.tal.resetMinute.getD s.minute) }
    msub := { recorded := s.msub.recorded }
    evr := { snapshot := s.evr.snapshot, commitLog := s.evr.commitLog }
    bst := { repairs := s.bst.repairs, fused := s.bst.fused }
    upd := { bankA := s.upd.bankA, bankB := s.upd.bankB, select := s.upd.select } }

/-- A reset of the whole part by the source of a bit of CONE_RST_CAUSE (R98). -/
def resetWhole (cause : Nat) (s : State) : State :=
  let s := offState s
  { s with pwr := { s.pwr with rstCause := setBit s.pwr.rstCause cause true, caused := true } }

/-- Without any supply of R510 the tag loses its S0 flag at once (R518). -/
def losePowerTag (s : State) : State :=
  if tagPowered s then s else s.withTag { s.tag with flags := setBit s.tag.flags 0 false }

/-- Without main power, VDD_HOLD and VBAT the backup domain loses its content (R65). -/
def losePower (s : State) : State :=
  let s := losePowerTag s
  if s.sup.vddVault || s.sup.vddHold || s.sup.vbat then s
  else { s with bk := { s.bk with valid := false, seed := [], saveKey := [] } }

/-! ### The power-fail commit (R50, R56-R62) -/

/-- Jobs and commands in flight are abandoned (R57, R374). -/
def abandonAll (s : State) : State :=
  let s := (s.tasks.map (·.1)).foldl (fun s t => killTask true t s) s
  let s := (s.jobs.map (·.1)).foldl (fun s j => abandonJob true j s) s
  (s.vault.leases.map (·.1)).foldl (fun s l => endLease l true s) s

/-- Service cores and crucibles stop. -/
def stopCores (s : State) : State :=
  { s with cores := mapAll {} (fun u k => if 100 ≤ u then { k with running := false } else k) s.cores }

/-- A trigger of R56 starts the commit, unless one runs. In cone 3 or 4 the tally block has nothing open: the minute of the
trigger is kept (R82, R385). -/
def triggerCommit (kind : Nat) (s : State) : State :=
  if s.pwr.commit.isSome || !s.pwr.released then s
  else
    let s := if s.gated then { s with tal := { s.tal with failMinute := some s.minute } }
      else stopCores (abandonAll (chargeLeases s))
    let s := cutFlash (dropRequests { s with flash := { s.flash with queue := [] } })
    { s with
      pwr := { s.pwr with commit := some (BitVec.ofNat 8 kind) }
      bk := { s.bk with disarmed := s.bk.disarmed || decide (kind = 0) || decide (kind = 3) || decide (kind = 4) } }

/-- The commit page of R382. -/
def commitPageOf (s : State) : CommitPage :=
  { first := s.tal.first, seq := s.tal.next - 1, acked := s.tal.acked, sum := s.saggarSum }

/-- The records the commit pages hold: at most 15 written since the last snapshot (R552). -/
def commitRecords (s : State) : List EvrRecord :=
  let news := s.evr.log.filter fun r => decide (s.evr.snapshot.next.toNat ≤ r.seq.toNat)
  news.drop (news.length - 15)

/-- The commit has ended, with its pages or without: the part is off until its restart (R60, R61). -/
def afterCommit (s : State) : State :=
  let tripped := s.pwr.tripped
  losePower (if tripped then
    (let t := offState s
     { t with pwr := { t.pwr with caused := true } })
   else resetWhole 3 s)

/-- A commit stopped under R60. -/
def stopCommit (s : State) : State :=
  match s.pwr.commit with
  | some k => afterCommit { s with pwr := { s.pwr with stopped := some k } }
  | none => s

/-- PWRFAIL_N_ASSERT: held low beyond the filter of R56. -/
def execPwrfailNAssert (s : State) : Answer :=
  .next (triggerCommit 0 { s with sup := { s.sup with pwrfailN := false } })

/-- RAIL_UNDERVOLTAGE of VDD_VAULT or of VDD_CORE (R56). -/
def execRailUndervoltage (vault : Bool) (s : State) : Answer := .next (triggerCommit (if vault then 2 else 1) s)

/-- POWER_GOOD_FALL (R45). -/
def execPowerGoodFall (input : BitVec 2) (s : State) : Answer :=
  let s' := { s with sup := { s.sup with pg := setBit s.sup.pg input.toNat false } }
  .next (if s.sup.porN && s.sup.pwrfailN then triggerCommit 3 s' else s')

/-- COMMIT_COMPLETE: the pages are programmed and HOLD_DONE rises (R57, R61, R591); without VDD_HOLD the commit ends as in
R60 (R62). -/
def execCommitComplete (s : State) : Answer :=
  .next (match s.pwr.commit with
    | none => s
    | some k =>
      if !s.sup.vddHold then stopCommit s
      else
        let s := raiseEvent 301 (detail [(1, k.toNat), (1, 0)]) s
        let s := if s.gated then joinStaged s else s
        let s := { s with
          evr := { s.evr with commitLog := commitRecords s }
          tal := { s.tal with commitPage := if s.tal.isOpen then some (commitPageOf s) else none, ackJournal := s.tal.acked } }
        afterCommit { s with pins := { s.pins with holdDone := true } })

/-- COMMIT_STOPPED: VDD_HOLD fell below 1.55 V (R60). -/
def execCommitStopped (s : State) : Answer := .next (stopCommit { s with sup := { s.sup with vddHold := false } })

/-- THERMAL_TRIP: the pin, the commit, and the compute die gated until POR_N is low (R50). -/
def execThermalTrip (junction : BitVec 16) (s : State) : Answer :=
  .next (if s.pwr.tripped || !s.pwr.released then s
    else
      let s := { s with
        pins := { s.pins with thermTrip := true }
        pwr := { s.pwr with tripped := true, junction, rstCause := setBit s.pwr.rstCause 4 true } }
      triggerCommit 4 (raiseEvent 300 (detail [(1, s.pwr.throttle.toNat), (2, junction.toNat)]) s))

/-- VDD_HOLD_IN_RANGE: HOLD_DONE is driven low, and hold-up is present from now on (R62, R591). -/
def execVddHoldInRange (s : State) : Answer :=
  .next { s with sup := { s.sup with vddHold := true }, pins := { s.pins with holdDone := false }
                 pwr := { s.pwr with holdAbsent := false } }

/-- POR_N is low: what a thermal trip holds ends with it (R50). -/
def porLow (s : State) : State :=
  { s with
    sup := { s.sup with porN := false }
    pins := { s.pins with thermTrip := false }
    pwr := { s.pwr with tripped := false } }

/-- MAIN_POWER_LOSS: the main rails go, POR_N with them. A commit that runs goes on from VDD_HOLD; else the part is off, and
HOLD_DONE, not driven without VDD_HOLD, reads as low (R591). -/
def execMainPowerLoss (s : State) : Answer :=
  let s := porLow s
  let sup := { s.sup with railsUp := false, vddVault := false, pg := 0 }
  .next (if s.pwr.commit.isSome then drivePin (losePowerTag { s with sup })
    else
      let t := offState s
      drivePin (losePower { t with sup := { sup with vddHold := false }, pins := { t.pins with holdDone := false } }))

/-- POR_N_ASSERT: POR_N is driven low. A thermal trip ends with it (R50); a commit that runs goes on (R61). -/
def execPorNAssert (s : State) : Answer :=
  .next (porLow (if s.pwr.commit.isSome then s else resetWhole 0 s))

/-- LIFECYCLE_RESET: the reset that an LC_TRANSITION owes (R200, R383). -/
def execLifecycleReset (s : State) : Answer :=
  .next (if !s.lcs.resetDue then s
    else
      let s := if s.gated then s else abandonAll (chargeLeases s)
      let s := { s with tal := { s.tal with
        commitPage := if s.tal.isOpen then some (commitPageOf s) else none, ackJournal := s.tal.acked } }
      resetWhole 5 s)

/-! ### The boot (R93-R95) -/

/-- The compute die leaves reset (R53, R62, R591). -/
def releaseDie (s : State) : State :=
  let s := { s with
    pins := { s.pins with holdDone := false }
    bk := { s.bk with disarmed := false }
    pwr := { s.pwr with released := true, holdAbsent := !s.sup.vddHold } }
  if s.sup.vddHold then s else raiseEvent 301 (detail [(1, 5)]) s

/-- The conditions of R53 for a release. -/
def releasable (s : State) : Bool :=
  s.sup.porN && s.sup.vddVault && s.sup.railsUp && !s.pwr.tripped && s.pwr.commit.isNone && !s.pwr.released

/-- COMPUTE_DIE_RELEASE. -/
def execComputeDieRelease (s : State) : Answer := .next (if releasable s then releaseDie s else s)

/-- The recorder loads the newest snapshot and then the records of the commit pages (R552). -/
def loadRecorder (s : State) : State :=
  let snap := s.evr.snapshot
  let more := s.evr.commitLog.map fun r => { r with flags := r.flags ||| 4 }
  let all := snap.log ++ more
  let log := all.drop (all.length - 512)
  let next := match more.getLast? with | some r => r.seq + 1 | none => snap.next
  let lost := match more with | r :: _ => r.seq.toNat - snap.next.toNat | [] => 0
  let evr : Recorder :=
    { snapshot := snap, log, next, hist := snap.hist, extremes := snap.extremes
      gens := log.foldl (fun m r => mapSet 0 m r.slot r.gen) []
      wr := match log.getLast? with | some r => r.slot + 1 | none => 0
      lost := BitVec.ofNat 32 lost }
  let s := { s with evr }
  if lost = 0 then s else raiseEvent 316 (detail [(4, lost)]) s

/-- The patch bank: the one selected, else the other, else ROM alone (R95). -/
def choosePatch (env : BootEnv) (s : State) : State :=
  let sel := s.upd.select
  let good (b fails : Bool) : Bool := (s.bank b).verified && !fails
  let running := if good sel env.bankFails then some sel else if good (!sel) env.otherFails then some (!sel) else none
  { s with
    upd := { s.upd with running }
    health := { s.health with fallback := decide (running = some (!sel)), romAlone := running.isNone } }

/-- Roles at a boot: of each class the lowest units that are not retired are active, up to the rated count (R583). -/
def bootRoles (s : State) : State :=
  let cls (base built rated : Nat) (s : State) : State :=
    ((List.range built).foldl (fun (r : Nat × State) i =>
      let u := base + i
      if r.2.role u = .retired ∨ r.2.role u = .retiring then (r.1, r.2.setRole u .retired)
      else if r.1 < rated then (r.1 + 1, r.2.setRole u .active)
      else (r.1, r.2.setRole u .spare)) (0, s)).2
  cls 0 16 14 (cls 100 28 24 (cls 1000 160 152 s))

/-- The die-to-die link starts under a fresh key; dies that are not a pair stay apart (R27, R28). -/
def startLink (pairs : Bool) (s : State) : State :=
  { s with fabric := { s.fabric with starts := s.fabric.starts + 1, linkUp := pairs, unpaired := !pairs } }

/-- Adaptive voltage is enabled or left off (R68, R99). -/
def bootAvs (env : BootEnv) (s : State) : State :=
  let off := (s.item 0x0E10).headD 0x40 |>.getLsbD 7
  let on := env.regulator && !off
  raiseEvent 297 (detail [(1, if on then 1 else 0), (2, s.pwr.setpoint.toNat)])
    { s with pwr := { s.pwr with avsOn := on, regulator := on } }

/-- The tag's and the flash's copies of backup values (R459, R461): classes come back after a loss, LOCKSEQ is set anew. -/
def bootCopies (s : State) : State :=
  let b := s.bk
  let b := if b.freshSeq then
      { b with
        freshSeq := false
        lockseq := match b.seqCopy with | some v => v + 2 | none => 1
        classes := b.classCopy.getD b.classes }
    else b
  { s with bk := { b with seqCopy := some b.lockseq, copyDue := false } }

/-- The vault at a boot: Shard has no root (R477); else the seed and the saggar log, or the seed to be made (R326, R330). -/
def bootVault (s : State) : State :=
  let s := { s with vault := { s.vault with epoch := s.vault.epoch + 1 } }
  if s.lcs.state = 3 then
    { s with lcs := { s.lcs with rootDis := true }, bk := { s.bk with seed := [], saveKey := [] } }
  else if s.bk.lock ≠ 0 then applyLock (if s.bk.noSeed then { s with vault := { s.vault with seedDue := true } } else s)
  else if s.bk.noSeed then { s with vault := { s.vault with seedDue := true } }
  else readLog s

/-- The flash at a boot: worn-pending sectors count as erase-pending (R439), erase-pending sectors are recorded, the write-protect bits of item 0x0920 are set, groups opened by
password are locked (R440, R443, R444). -/
def bootFlash (s : State) : State :=
  let f := s.flash
  let s := relockGroups { s with flash := { f with
    erasePending := f.wornPending.filter (fun n => !f.erasePending.contains n) ++ f.erasePending, wornPending := [] } }
  let s := s.flash.erasePending.foldl (fun s _ => raisePlain 278 s) s
  let mask := s.item 0x0920
  let wp := (List.range 3776).foldl (fun m q =>
    if (mask.getD (q / 8) 0).getLsbD (q % 8) then
      mapMod 0 m ((4160 + q) / 32) fun w => setBit w ((4160 + q) % 32) true
    else m) ([] : FMap Word)
  { s with flash := { s.flash with wp } }

/-- The tally at a boot: the pair of R383, the idle record of R385, and the span that opens. -/
def bootTally (s : State) : State :=
  let e := s.tal.entryMinute
  let f := s.tal.failMinute
  let s := startPair s.tal.isOpen { s with tal := { s.tal with entryMinute := none, failMinute := none, hold := false } }
  let s := match e, f with
    | some e, some f =>
      if f.toNat - e.toNat - 1 = 0 then s
      else issueRecord 4 s.timeFlags 0xFFFF (f.toNat - e.toNat - 1) (e + 1) {} 0 0 s
    | _, _ => s
  openSpan s.minute { s with tal := { s.tal with resetMinute := none } }

/-- Memory training of a boot (R420, R421). -/
def bootMemory (env : BootEnv) (s : State) : State :=
  let degraded := decide (popCount env.trained < 9)
  let s := { s with msub := { s.msub with trained := env.trained, degraded } }
  if degraded then raisePlain 266 s else s

/-- The full BIST of a boot in Bisque (R539). -/
def bootBist (env : BootEnv) (s : State) : State :=
  if s.lcs.state = 1 ∧ ((s.item 0x0D00).headD 0).getLsbD 0 then
    let r : BstRequest := match env.bistFails with
      | some (cls, unit, signature) => { cls, unit, signature, state := 3 }
      | none => { state := 2 }
    { s with bst := { s.bst with fullResult := some r } }
  else s

/-- The fuse step: the life-cycle state, and in Greenware a debug session with every right (R93, R474, R484). -/
def bootFuses (s : State) : State :=
  let s := readFuses s
  let green := decide (s.lcs.state = 0)
  freshNonce { s with lcs := { s.lcs with
    isOpen := green, rights := if green then 0xFF else 0, signer := false, cycles := s.lcs.cycles + 1 } }

/-- The supplies as a boot finds them. -/
def bootSupplies (env : BootEnv) (s : State) : State :=
  { s with sup := { s.sup with
      porN := true, pwrfailN := true, pg := 0xF, railsUp := true, vddVault := true, vddHold := env.vddHold, vbat := env.vbat } }

/-- What a stopped commit left to be recorded (R99). -/
def bootStopped (s : State) : State :=
  match s.pwr.stopped with
  | some k => raiseEvent 301 (detail [(1, k.toNat), (1, 1)]) { s with pwr := { s.pwr with stopped := none } }
  | none => s

/-- A boot that no reset source of R92 brought about is a power-up (R98). -/
def bootCause (s : State) : State :=
  { s with pwr := { s.pwr with
    rstCause := if s.pwr.caused then s.pwr.rstCause else setBit s.pwr.rstCause 0 true, caused := false } }

/-- The raw group is that of item 0x0310 (R266); a certificate chain that does not fit the device key raises event 320. -/
def bootChain (s : State) : State :=
  let s := { s with arr := { s.arr with raw := BitVec.ofNat 20 (leNat (s.item 0x0310)) } }
  if (s.lcs.state = 1 ∨ s.lcs.state = 2) ∧ s.chain ≠ [] ∧ !chainMatches s then raisePlain 320 s else s

/-- The boot from the supplies to a mailbox that is ready (R93). -/
def boot (env : BootEnv) (s : State) : State :=
  let s := bootCause (drivePin (startBackup (bootSupplies env s)))
  let s := bootStopped (loadRecorder s)
  let s := bootFuses s
  let s := if s.pwr.released then s else releaseDie s
  let s := bootAvs env (startLink env.pairs s)
  let s := choosePatch env (bootRoles s)
  let s := bootMemory env s
  let s := bootFlash (bootCopies s)
  let s := bootVault s
  let s := bootChain (bootBist env (bootTally s))
  { s with pwr := { s.pwr with up := true } }

/-- BOOT: from a reset of the whole part, unless a thermal trip or a commit holds the compute die (R50, R61). -/
def execBoot (env : BootEnv) (s : State) : Answer :=
  .next (if s.pwr.up || s.pwr.tripped || s.pwr.commit.isSome then s else boot env s)

end Sys2Proof.Machine
end

