-- ==== Sys2Proof/Machine/Cones.lean ====
section
/-! DEFINITION. The cones: eligibility, choice, entry, wake and exit (R71-R83, R404, R574, R592, R593). -/

namespace Sys2Proof.Machine

/-! ### Eligibility (R73, R247, R404, R442, R485, R495, R574) -/

/-- Jobs that wait for a unit and could start. -/
def readyJobs (q : List Nat) (s : State) : Nat := (q.filter fun id => (s.job id).live && !(s.job id).keyWait).length

/-- Eligible for cone 2: nothing runs outside the reserve, and what runs and what is ready fits it. -/
def eligible2 (s : State) : Bool :=
  let lanes := reserveLanes s
  let busyLanes := (List.range 16).filter fun n => (s.lane n).busy
  let busyCru := (List.range 160).filter fun n => (s.crucible n).job.isSome
  busyLanes.all lanes.contains && busyCru.all (reserveCrucible s) &&
    decide (busyLanes.length + readyJobs s.lanes.queue s ≤ lanes.length) &&
    decide (busyCru.length + readyJobs s.arr.queue s ≤ countBelow 160 (reserveCrucible s))

/-- What cone 3 and cone 4 ask for beside the state of the link. -/
def quiet (s : State) : Bool :=
  decide (s.jobs = []) && decide (s.tasks = []) && decide (s.side.waiting = []) &&
    !(s.hif.qps.any fun e => decide (e.2.fetched ≠ []) || (decide (e.2.state = 1) && decide (e.2.posted ≠ 0))) &&
    !(s.hif.fns.any fun e => decide (e.2.mailbox.state = 1)) &&
    !(s.cores.any fun e => decide (100 ≤ e.1) && decide (e.1 < 1000) && e.2.running && !e.2.halted && !e.2.waiting) &&
    decide (s.bst.running = []) && !activating s && s.cards.running.isNone && !s.cards.isOpen &&
    !(s.lcs.isOpen && (s.lcs.rights.getLsbD 0 || s.lcs.rights.getLsbD 2)) &&
    !(s.vault.leases.any fun e => e.2.live) && decide (s.lanes.facet = []) && decide (s.lanes.spill = []) &&
    decide (s.ent.gen = []) && decide (s.ent.parked = [])

def eligible3 (s : State) : Bool := quiet s && s.hif.l12

def eligible4 (s : State) : Bool :=
  quiet s && s.hif.l2 && decide ((s.fn 0).dState = 3) && s.flash.prog.isNone && s.flash.era.isNone &&
    decide (s.flash.queue = []) && decide (s.flash.erasePending = [])

/-- The deepest cone that the tolerance permits and the part is eligible for (R79). -/
def chooseCone (s : State) : Nat :=
  let t := s.tolerance
  if 60000 ≤ t ∧ eligible4 s then 4
  else if 3000 ≤ t ∧ eligible3 s then 3
  else if 40 ≤ t ∧ eligible2 s then 2
  else if 2 ≤ t then 1
  else 0

/-! ### The setpoint of VDD_CORE (R66, R67, R90) -/

/-- VOUT_COMMAND (0x21) to the regulator of VDD_CORE, acknowledged: the setpoint is the value written (R66, R67). -/
def voutCommand (v : BitVec 10) (s : State) : State :=
  sampleMetric 9 (v.setWidth 32) ({ s with pwr := { s.pwr with setpoint := v } }.emit (.pmbus 0 0x21 (some v)))

/-- The setpoint goes to a value in writes of at most 10 mV each (R67); the first number bounds how many. -/
def rampTo (want : BitVec 10) : Nat → State → State
  | 0, s => s
  | n + 1, s =>
    let at_ := s.pwr.setpoint.toNat
    if at_ = want.toNat then s
    else rampTo want n (voutCommand (BitVec.ofNat 10 (min (at_ + 10) (max (at_ - 10) want.toNat))) s)

/-- Adaptive voltage runs. -/
def avsRuns (s : State) : Bool := s.pwr.up && s.pwr.avsOn && !s.pwr.avsFault && decide (s.pwr.cone.toNat ≤ 2)

/-! ### Entry (R74, R75, R79, R593) -/

/-- CONE_ENTRY: the power manager starts the entry to the cone it chooses. Before cone 3 or 4 it writes 0.75 V (R90). -/
def execConeEntry (s : State) : Answer :=
  let c := chooseCone s
  .next (if !s.pwr.up || s.pwr.moving || s.pwr.commit.isSome || decide (c ≤ s.pwr.cone.toNat) then s
    else
      let t := { s with pwr := { s.pwr with moving := true, leaving := false, target := BitVec.ofNat 3 c } }
      if 3 ≤ c ∧ avsRuns s = true then rampTo 750 128 t else t)

/-- A lane loses its slots and contexts; the messages it held are saved and resume on any lane (R74). -/
def gateLane (n : Nat) (s : State) : State :=
  let s := s.setLane n { s.lane n with saggar := 0, slots := [], contexts := [] }
  let off (g : Msg) : Msg := if g.lane = some n then { g with lane := none } else g
  { s with vault := { s.vault with
      sessions := mapAll {} (fun _ x => { x with msgs := x.msgs.map fun e => (e.1, off e.2) }) s.vault.sessions } }

/-- Units outside the reserve are power-gated: their state goes. -/
def gateUnits (s : State) : State :=
  let keep := reserveLanes s
  let s := ((List.range 16).filter fun n => !keep.contains n).foldl (fun s n => gateLane n s) s
  ((List.range 160).filter fun n => !reserveCrucible s n && !inRaw s n).foldl (fun s n => wipe n 0 s) s

/-- The hot store is not saved: keys refill from the key cache on use, and a key that lives only in it is gone (R75,
R195). -/
def coolKeys (s : State) : State :=
  let gone := (s.vault.keys.filter fun e => e.2.ephemeral).map (·.1)
  let s := gone.foldl (fun s k => destroyKey k s) s
  { s with vault := { s.vault with keys := mapAll {} (fun _ k => { k with hot := false }) s.vault.keys } }

/-- The compute die is gated (R75, R365, R404): the span closes, the state is saved under a fresh key. -/
def sleep (s : State) : State :=
  let s := closeNow s.spanMinutes s
  let s := { s with tal := { s.tal with entryMinute := some s.minute } }
  let s := coolKeys ((List.range 16).foldl (fun s n => gateLane n s) s)
  let s := (List.range 160).foldl (fun s n => wipe n 0 s) s
  let s := entropyGate (drawOverhead 32 s)
  ({ s with
    bk := { s.bk with saveKey := s.freeBytes 32 }
    pwr := { s.pwr with saved := true }
    fabric := { s.fabric with linkUp := false } }).used 1

/-- CONE_ENTRY_COMPLETE: the part stands in the cone, where it still may; else the entry turns back (R80, R81). -/
def execConeEntryComplete (s : State) : Answer :=
  let p := s.pwr
  .next (if !p.moving || p.leaving then s
    else if chooseCone s < p.target.toNat then { s with pwr := { p with leaving := true } }
    else
      let s := if 3 ≤ p.target.toNat ∧ p.cone.toNat < 3 then sleep s
        else if p.target = 2 then gateUnits s else s
      { s with pwr := { s.pwr with cone := p.target, moving := false } })

/-! ### Wake (R77, R592) -/

/-- WAKE: a wake source occurs. -/
def execWake (source : WakeSource) (s : State) : Answer :=
  let c := s.pwr.cone.toNat
  let t := if s.pwr.moving then max c s.pwr.target.toNat else c
  .next (match source with
    | .host =>
      let s := { s with hif := { s.hif with l12 := false } }
      if 3 ≤ t then startExit false s else s
    | .doorbell => if 1 ≤ t ∧ t ≤ 3 then startExit false s else s
    | .sideband | .reader | .card | .timer => if 3 ≤ t then startExit true s else s
    | .tamper => s)

/-! ### Exit (R72, R80, R82, R83) -/

/-- A sideband command that waited runs (R559); an opcode that class S does not permit is refused as R179 gives. -/
def runSideband (e : BitVec 16 × Req) (s : State) : State :=
  let rq := e.2
  match e.1.toNat with
  | 0x0100 => runCommand specSysIdentify rq (bodySysIdentify rq) s
  | 0x0101 => runCommand specSysGetCaps rq (bodySysGetCaps rq) s
  | 0x0104 => runCommand specSysGetHealth rq (bodySysGetHealth rq) s
  | 0x0702 => runCommand specTalGetSeal rq (bodyTalGetSeal rq) s
  | 0x0802 => runCommand specEntStatus rq (bodyEntStatus rq) s
  | 0x0A00 => runCommand specLcGetState rq (bodyLcGetState rq) s
  | 0x0C00 => runCommand specTagRead rq (bodyTagRead rq) s
  | 0x0D01 => runCommand specBstStatus rq (bodyBstStatus rq) s
  | 0x0D10 => runCommand specEvrOpenWindow rq (bodyEvrOpenWindow rq) s
  | 0x0D11 => runCommand specEvrRead rq (bodyEvrRead rq) s
  | 0x0E01 => runCommand specPwrStatus rq (bodyPwrStatus rq (s.free 32)) (s.used 1)
  | 0x1000 => runCommand specTmpStatus rq (bodyTmpStatus rq) s
  | _ => respond e.1.toNat rq stBadOpcode 0 [] s

/-- The commands that wait for the cone complete where the part stands in one the tolerance permits (R80). -/
def releaseCone (s : State) : State :=
  if coneAllowed s then
    ((s.tasks.filter fun e => match e.2.work with | .cone :: _ => true | _ => false).map (·.1)).foldl
      (fun s t => finishTask t stOk 0 [] s) s
  else s

/-- The compute die runs again: the staged events join the log before those of the exit, then link, source, tally, the lock
state, and what waited (R75, R365, R404, R455, R546). -/
def resume (s : State) : State :=
  let s := joinStaged { s with bk := { s.bk with saveKey := [] }, pwr := { s.pwr with saved := false } }
  let s := idleAndOpen (entropyWake (startLink (!s.fabric.unpaired) s))
  let s := deliverBuffered s
  let s := if s.bk.lock ≠ s.vault.lockSeen then applyLock s else s
  let s := (List.range 64).foldl (fun s f => rejectUnknown f s) s
  let w := s.side.waiting
  w.foldl (fun s e => runSideband e s) { s with side := { s.side with waiting := [] } }

/-- CONE_EXIT_COMPLETE: the part stands in a shallower cone. Where the saved state is lost, the exit is a boot after a scrub
(R82). -/
def execConeExitComplete (s : State) : Answer :=
  let p := s.pwr
  let back := decide (p.target ≠ p.cone)
  let c := if back then min p.cone.toNat (chooseCone s) else min (chooseCone s) (p.cone.toNat - 1)
  .next (if !p.moving || !p.leaving || (decide (p.cone = 4) && !s.sup.perstN) then s
    else
      let s' := { s with pwr := { p with cone := BitVec.ofNat 3 c, target := BitVec.ofNat 3 c, moving := false, leaving := false } }
      if p.cone.toNat < 3 ∨ 3 ≤ c then releaseCone s'
      else if !p.saved then resetWhole 6 s
      else releaseCone (resume s'))

/-- STARTUP_TEST_COMPLETE: pairs that failed are excluded; four must remain (R391, R393). A KEK seed that is due is made
(R326). -/
def execStartupTestComplete (failing : BitVec 8) (s : State) : Answer :=
  let e := s.ent
  .next (if (e.state = 0 ∨ e.state = 2) ∧ !e.tested then
    let s := raisePlain 268 { s with ent := { e with failed := e.failed ||| failing } }
    if s.pairsInUse < 4 then withholdParked (setEntState 3 s)
    else
      let s := { s with ent := { s.ent with tested := true } }
      if s.vault.seedDue then makeSeed s else s
  else s)

end Sys2Proof.Machine
end

