-- ==== Sys2Proof/Machine/Engine.lean ====
section
/-! DEFINITION. How a command in progress goes on once the work in front of it is done, and the events that end draws,
flash operations, drains and token waits (R168, R185, R187, R222-R224, R402, R434, R437). -/

namespace Sys2Proof.Machine

/-! ### The end of a command in progress -/

/-- What a command does once it has nothing left to wait for. -/
def finishOf (t : Task) (s : State) : CmdRes :=
  match t.opcode.toNat with
  | 0x0200 => finishSagCreate t s
  | 0x0201 => finishSagDestroy t s
  | 0x0300 => finishKeyGenerate t s
  | 0x0302 => finishKeyExportWrapped t s
  | 0x0303 => finishKeyDerive t s
  | 0x0304 => finishKeyDestroy t s
  | 0x0306 => finishKeyRotate t s
  | 0x0401 => finishSesClose t s
  | 0x0402 => finishSesSaveContext t s
  | 0x0500 => finishPkSign t s
  | 0x0501 => finishPkVerify t s
  | 0x0502 => finishPkKeypair t s
  | 0x0503 => finishPkAgree t s
  | 0x0504 => finishPkEncaps t s
  | 0x0505 => finishPkDecaps t s
  | 0x0506 => finishPkLeaseRaw t s
  | 0x0600 => finishHsServerBegin t s
  | 0x0601 => finishHsServerContinue t s
  | 0x0602 => finishHsClientBegin t s
  | 0x0603 => finishHsKeyUpdate t s
  | 0x0604 => finishHsExportSecret t s
  | 0x0605 => finishHsAbort t s
  | 0x0800 => finishEntGetBytes t s
  | 0x0901 => finishCfgWrite t s
  | 0x0A01 => finishLcTransition t s
  | 0x0A02 => finishDbgPresentCert t s
  | 0x0B01 => finishCcpApdu t s
  | 0x0F00 => finishUpdStage t s
  | 0x0F01 => finishActivate t s
  | 0x0F02 => finishActivate t s
  | 0x0F03 => finishUnitRetire t s
  | 0x1001 => finishTmpUnlock t s
  | 0x8002 => finishPrepare t s
  | 0x8003 => finishSpdm t s
  | 0x8004 => finishSesClose t s
  | _ => .done stOk 0 [] s

/-- A command in progress exists. -/
def State.hasTask (s : State) (id : Nat) : Bool := s.tasks.any fun e => decide (e.1 = id)

/-- The front work of a command is done: its next work starts, or the command ends. A lock that came meanwhile ends a
command that the vault refuses and that would need more (R182, R456). -/
def advance (id : Nat) (s : State) : State :=
  if !s.hasTask id then s
  else
    let t := { s.task id with work := dropNoDraw (s.task id).work.tail, job := none }
    let s := s.setTask id t
    match t.fate with
    | some status => failTask id status 0 s
    | none =>
      if s.bk.lock ≠ 0 ∧ refusedLocked t.opcode.toNat t.rq ∧ !t.effected ∧ t.work ≠ [] then failTask id stTamperLocked 0 s
      else if t.work ≠ [] then startWork id s
      else match finishOf t s with
        | .done status det payload s => finishTask id status det payload s
        | .wait u s => startWork id (s.setTask id { u with
            work := dropNoDraw u.work, opcode := t.opcode, rq := t.rq, reserved := t.reserved, silent := t.silent
            added := t.added, recomputed := t.recomputed })

/-- INTERNAL before or after the effect point (R173). -/
def failInternal (id det : Nat) (s : State) : State :=
  failTask id stInternal (if (s.task id).effected && decide ((s.task id).opcode ≠ 0x8000) then det + 0x8000 else det) s

/-- A job that would need DMA for its end is held while Bus Master Enable of its function is 0 (R226). -/
def dmaHeld (id : Nat) (s : State) : Bool :=
  let t := s.task id
  match t.rq.route with
  | .queue q _ => !(s.fn (s.qp q.toNat).owner.toNat).busMaster && decide (t.work.length ≤ 1)
  | _ => false

/-! ### Draws (R188, R401, R402) -/

/-- Commands whose catalogue row charges E for what they draw. -/
def drawCharged (opcode : Nat) : Bool :=
  [0x0300, 0x0306, 0x0500, 0x0502, 0x0504, 0x0600, 0x0602, 0x0800].contains opcode

/-- Who is charged for a draw: the saggar of the command, or overhead. -/
def drawPayer (r : DrawReq) (s : State) : Option Nat :=
  match r.task, r.saggar with
  | some t, some h => if drawCharged (s.task t).opcode.toNat then some h.toNat else none
  | _, _ => none

/-- DRBG_GENERATE_COMPLETE: an instance delivers its bytes, which no rule fixes: free bytes. -/
def execDrbgGenerateComplete (inst : BitVec 6) (s : State) : Answer :=
  .next (match s.ent.gen.find? fun e => decide (e.1 = inst.toNat) with
    | none => s
    | some (i, r) =>
      if (match r.task with | some t => dmaHeld t s | none => false) then s
      else
        let s := { s with ent := { s.ent with gen := mapDel s.ent.gen i } }
        let s := countInflight (entropyCharge r.bytes).neg (chargeTo (drawPayer r s) (entropyCharge r.bytes) s)
        let s := match r.task with
          | some t =>
            if s.hasTask t then
              advance t ((s.setTask t { s.task t with drawn := (s.task t).drawn ++ s.freeBytes r.bytes }).used 1)
            else s
          | none => s
        startDraws s)

/-! ### Flash operations (R199, R434, R437, R578) -/

/-- A flash operation that a command waited for has ended with a RESULT: the command goes on. UPD_STAGE stops at a page or
sector without a spare, a CFG_WRITE reports the result, and any other command ends with WORN. -/
def flashEnds (task : Option Nat) (result : Nat) (s : State) : State :=
  match task with
  | none => s
  | some id =>
    if !s.hasTask id then s
    else
      let t := s.task id
      let s := s.setTask id { t with note := result :: t.note }
      if result ≠ 5 ∨ t.opcode = 0x0901 then
        advance id (s.setTask id { t with note := if t.opcode = 0x0901 then result :: t.note else t.note })
      else if t.opcode = 0x0F00 then advance id (s.setTask id { t with note := [5], work := t.work.take 1 })
      else failTask id stWorn 0 (s.setTask id t)

/-- PROGRAM_COMPLETE: the program that runs ends; its page verifies or not. -/
def execProgramComplete (verifies : Bool) (s : State) : Answer :=
  .next (match s.flash.prog with
    | none => s
    | some o =>
      let r := endProgram o verifies s
      flashEnds o.task r.2 r.1)

/-- ERASE_COMPLETE: the erase that runs, and is not suspended, ends after so many pulses, 60 at most (R437). -/
def execEraseComplete (pulses : BitVec 8) (verifies : Bool) (s : State) : Answer :=
  .next (match s.flash.era with
    | none => s
    | some o =>
      if s.flash.suspended then s
      else
        let r := endErase o (min 60 pulses.toNat) verifies s
        flashEnds o.task r.2 r.1)

/-! ### Drains (R22, R80, R185, R266, R579, R583) -/

/-- A unit by its number in State.roles runs work. -/
def busyNumber (u : Nat) (s : State) : Bool :=
  if u < 100 then unitBusy .lane u s else if u < 1000 then unitBusy .service (u - 100) s else unitBusy .crucible (u - 1000) s

/-- What a command drains has gone. For an activation a command counts as gone past its effect point (R579); an unbind
waits for the descriptors already fetched as well. -/
def drained (t : Task) (ids : List Nat) (s : State) : Bool :=
  let excess (id : Nat) : Bool :=
    !s.hasTask id || ((decide (t.opcode = 0x0F01) || decide (t.opcode = 0x0F02)) && (s.task id).effected)
  ids.all excess && (decide (t.opcode ≠ 0x0203) || decide ((s.qp (t.rq.field 0 2)).fetched = []))

/-- DRAIN_COMPLETE: what command `id` waited for beyond draws, jobs and flash has come about. -/
def execDrainComplete (id : Nat) (s : State) : Answer :=
  let t := s.task id
  .next (if !s.hasTask id || dmaHeld id s then s
    else match t.work with
      | .drain ids :: _ => if drained t ids s then advance id s else s
      | .cone :: _ => if coneAllowed s then advance id s else s
      | .idle units :: _ => if units.any fun u => busyNumber u s then s else advance id (settleRoles s)
      | _ => s)

/-! ### Token grants (R187, R222-R224) -/

/-- The queue pair of a saggar that is next in turn: the first one that wants a token after the last one served. -/
def nextQueue (s : State) (h : Nat) : Option Nat :=
  let want (q : Nat) : Bool := qpWants (s.qp q) && decide ((s.qp q).bound = some (BitVec.ofNat 12 h))
  let qs := (s.hif.qps.map (·.1)).filter want
  let last := mapGet 4095 s.hif.lastQp h
  match qs.find? fun q => decide (last < q) with
  | some q => some q
  | none => qs.head?

/-- A lease that waits gets one more token; with its last one it is granted (R187, R287). -/
def grantLeaseToken (id : Nat) (s : State) : State :=
  let t := s.task id
  match t.work with
  | .lease n :: _ =>
    let s := (reserveToken s).setTask id { t with phase := t.phase + 1 }
    if t.phase + 1 < n then s
    else advance id ((List.range n).foldl (fun s _ => releaseReservation s) s)
  | _ => s

/-- Gives a token to the next waiting item of a saggar. -/
def giveToken (h : Nat) (s : State) : State :=
  match nextQueue s h with
  | some q =>
    let s := s.setQp q { s.qp q with reserved := (s.qp q).reserved + 1 }
    reserveToken { s with hif := { s.hif with lastQp := mapSet 4095 s.hif.lastQp h q } }
  | none =>
    match s.tokenWait.find? fun id => decide ((s.job id).saggar.toNat = h) with
    | some id =>
      queueJob id (reserveToken (({ s with tokenWait := s.tokenWait.erase id }).setJob id { s.job id with token := true }))
    | none =>
      match (s.tasks.find? fun e => wantsLease e.2 && decide ((jobSaggar e.2.rq s).toNat = h)) with
      | some e => grantLeaseToken e.1 s
      | none => s

/-- TOKEN_GRANT: one free token goes to a saggar by the smooth weighted round robin; none while the tally backlog withholds
grants (R366). With no token free, fetch stops and event 17 is raised (R223, R230). -/
def execTokenGrant (s : State) : Answer :=
  let wanting := (List.range 4096).filter fun h => eligibleSaggar s h
  .next (if s.tal.hold || !s.accepting then s
    else if s.tokensFree = 0 then
      (if !s.hif.exhausted && s.hif.qps.any fun e => qpWants e.2 then
        raisePlain 17 { s with hif := { s.hif with exhausted := true } } else s)
    else match wrrPick (wanting.map fun h => (h, (s.saggar h).weight.toNat)) s.hif.current with
      | none => s
      | some (h, current) => settleCurrent (giveToken h { s with hif := { s.hif with current } }))

end Sys2Proof.Machine
end

