-- ==== Sys2Proof/Machine/LaneJobs.lean ====
section
/-! DEFINITION. The events of the lanes: start, end, release and fault of a lane job, moves of contexts, zeroed granules,
loads of key slots (R231-R262). -/

namespace Sys2Proof.Machine

/-! ### Common to every job -/

/-- The part runs jobs: its compute die is up, in cone 2 or shallower, and no commit runs. -/
def jobsRun (s : State) : Bool := s.pwr.up && s.pwr.commit.isNone && decide (s.pwr.cone.toNat ≤ 2)

/-- A job can start: it is queued with its token, or a free one for overhead work, and its key is loaded. -/
def startable (j : Job) (s : State) : Bool :=
  j.live && !j.keyWait && j.unit.isNone && (j.token || (j.overhead && decide (0 < s.tokensFree)))

/-- A job that does not fit the reserve of cone 2 makes the part leave it (R73, R77). -/
def outgrowReserve (s : State) : State := if s.pwr.cone = 2 ∧ !eligible2 s then startExit true s else s

/-- The rerun of a job ended: its command reports the time it added, its saggar the recomputation (R173, R374). -/
def noteRerun (j : Job) (s : State) : State :=
  if !j.rerun then s
  else
    let s := match j.task with
      | some t => s.setTask t { s.task t with recomputed := true, added := (s.task t).added + j.added }
      | none => s
    if j.overhead then s
    else chargeSaggar j.saggar.toNat { recomputed := 1 } (countEngine { recomputed := 1 } s)

/-- Who pays for a job (R15, R16). -/
def Job.payer (j : Job) : Option Nat := if j.overhead then none else some j.saggar.toNat

/-! ### LANE_JOB_START (R231-R233, R244) -/

/-- The message of a chunk has been discarded meanwhile. -/
def messageGone (j : Job) (s : State) : Bool :=
  match jobMessage j s with
  | some (ses, m) => !((s.session ses).msgs.any fun e => decide (e.1 = m))
  | none => false

/-- A recomputation that could start waits for a lane (R21). -/
def rerunFirst (j : Job) (s : State) : Bool :=
  !j.rerun && s.lanes.queue.any fun i => (s.job i).rerun && startable (s.job i) s

/-- A job that would invoke its key finds it retired: another job took the last invocation, or KEY_ROTATE retired it (R249,
R351). The protection of a KeyUpdate record alone runs on a retired key. -/
def keyGone (j : Job) (s : State) : Bool :=
  !j.rerun && jobInvokes j s && (j.session.isSome || decide (0x200 ≤ j.alg.toNat)) &&
    (match j.key with | some k => (s.key k).retired | none => false)

/-- LANE_JOB_START: a lane job that is ready goes to its lane, where one is free. A chunk whose message is gone ends with
NOT_PERMITTED (R244), one whose key is retired with KEY_RETIRED (R249). -/
def execLaneJobStart (job : Nat) (s : State) : Answer :=
  let j := s.job job
  .next (if !jobsRun s || !s.lanes.queue.contains job || !startable j s || !laneOrder job j s then s
    else if messageGone j s then
      (match j.task with | some t => failTask t stNotPermitted 0 s | none => s)
    else if keyGone j s then
      (match j.task with | some t => failTask t stKeyRetired 0 (undoChunk (s.task t) s) | none => s)
    else if rerunFirst j s then s
    else match chooseLane j s with
      | none => outgrowReserve s
      | some n => startLaneJob job n (claimUnit .lane n s))

/-- CONTEXT_MOVE: the lane that holds the message of a chunk has stayed busy; the context moves to a free active lane
(R232). -/
def execContextMove (job : Nat) (s : State) : Answer :=
  let j := s.job job
  .next (match jobMessage j s with
    | none => s
    | some (ses, m) =>
      match (mapGet {} (s.session ses).msgs m).lane, firstBelow 16 (laneFree .active s) with
      | some l, some n =>
        if !s.lanes.queue.contains job || !(s.lane l).busy then s
        else
          let s := s.setLane l { s.lane l with contexts := (s.lane l).contexts.erase ses }
          let x := s.session ses
          let s := s.setSession ses { x with msgs := mapMod {} x.msgs m fun g => { g with lane := some n } }
          s.setLane n (touchContext ses (s.lane n))
      | _, _ => s)

/-! ### The end of a chunk (R236-R245, R374) -/

/-- The nonce of a message, or the data unit number of an XTS chunk (R236). -/
def chunkNonce (x : Session) (d : DataDesc) : List Byte :=
  if isAead x.alg.toNat then
    (padTo 12 x.nonce).zipWith (· ^^^ ·) (leBytes 4 0 ++ beBytes 8 d.seq.toNat)
  else if x.alg = 4 then leBytes 16 d.seq.toNat
  else []

/-- What a chunk works with: key material, nonce, chaining state, AAD, text, and the bytes after the text. -/
structure ChunkIn where
  key   : List Byte
  nonce : List Byte
  chain : List Byte
  aad   : List Byte
  text  : List Byte
  rest  : List Byte

def chunkIn (x : Session) (g : Msg) (key : List Byte) (d : DataDesc) : ChunkIn :=
  let a := d.aadLen.toNat
  let n := d.length.toNat
  { key, nonce := chunkNonce x d, chain := g.chain, aad := sliceBytes d.source 0 a, text := sliceBytes d.source a n
    rest := sliceBytes d.source (a + n) (finalLen x d) }

/-- The text a chunk turns out, the chaining state after it, and the tag, MAC or digest of its message. -/
def chunkText (x : Session) (c : ChunkIn) : List Byte := stdChunk x.alg.toNat x.decrypt c.key c.nonce c.chain c.aad c.text
def chunkChain (x : Session) (c : ChunkIn) : List Byte :=
  stdChain x.alg.toNat (match laneAlg x.alg.toNat c.key.length with | some r => r.chain | none => 0) x.decrypt c.key c.nonce
    c.chain c.aad c.text
def chunkFinal (x : Session) (d : DataDesc) (c : ChunkIn) : List Byte :=
  stdFinal x.alg.toNat (finalLen x d) x.decrypt c.key c.nonce c.chain c.aad c.text

/-- The bytes a chunk writes to its destination as it runs (R237, R239); a verified decryption writes none yet. -/
def chunkOut (x : Session) (d : DataDesc) (c : ChunkIn) : List Byte :=
  let a := x.alg.toNat
  if isAead a then
    (if x.decrypt then [] else chunkText x c ++ (if DataDescLast d then chunkFinal x d c else []))
  else if a = 4 then chunkText x c
  else if DataDescLast d ∧ !x.decrypt then chunkFinal x d c
  else []

/-- The activity of a chunk is charged: to its saggar, or to overhead where the chunk ends with INTERNAL or LIMIT. -/
def chargeChunk (nominal : Bool) (j : Job) (s : State) : State :=
  chargeTo (if nominal then j.payer else none) (laneCharge (laneClass j.alg.toNat) j.bytes) s

/-- A chunk completes on lane `n`: the lane is free, the activity charged, the descriptor completed with the bytes written,
the token returned (R187, R218). -/
def endChunk (tid id n status det written : Nat) (s : State) : State :=
  let j := s.job id
  let s := freeLane n (laneClass j.alg.toNat) j.bytes s
  let nominal := decide (status = stOk) || decide (status = stAuthFail)
  let s := chargeChunk nominal j s
  let s := if nominal then noteRerun j s else s
  let t := s.task tid
  let s := { s with tasks := mapDel s.tasks tid }
  let s := if t.silent then s
    else if status = stOk ∧ t.recomputed then dataComplete t.rq stRecomputed (min 0xFFFF t.added) written s
    else dataComplete t.rq status det written s
  afterJob (endJob id s)

/-- The session counts a chunk that its lane processed, and a message at its LAST. -/
def countChunk (ses bytes : Nat) (last : Bool) (s : State) : State :=
  let x := s.session ses
  s.setSession ses { x with bytes := x.bytes + BitVec.ofNat 64 bytes, messages := if last then x.messages + 1 else x.messages }

/-- The message after a chunk of it: gone at LAST, else with its new chaining state. -/
def afterChunk (ses m : Nat) (last : Bool) (chain : List Byte) (s : State) : State :=
  if last then endMessage ses m s
  else
    let x := s.session ses
    s.setSession ses { x with msgs := mapMod {} x.msgs m fun g => { g with chain } }

/-- A chunk of a verified decryption: it is staged, and at LAST the tag is compared (R240-R245). -/
def endStaged (tid id n ses m : Nat) (d : DataDesc) (c : ChunkIn) (s : State) : State :=
  let x := s.session ses
  let g := mapGet {} x.msgs m
  let h := x.saggar.toNat
  let last := DataDescLast d
  let stop (status : Nat) (event : Bool) (s : State) : State :=
    let s := if event then raisePlain (42 + 3 * n) s else s
    endChunk tid id n status 0 0 (endMessage ses m s)
  match stagePlan h (g.dieBytes + g.spillBytes) d.length.toNat g s with
  | none => stop stLimit (!DataDescFirst d) s
  | some (die, dieNew, spill, spillNew) =>
    let s := countChunk ses (s.job id).bytes last s
    if last ∧ chunkFinal x d c ≠ c.rest then stop stAuthFail true s
    else
      let x' := s.session ses
      let g' := { g with
        chain := chunkChain x c, staged := g.staged ++ [(d.dstAddr, chunkText x c)]
        dieBytes := g.dieBytes + die, dieGran := g.dieGran + dieNew
        spillBytes := g.spillBytes + spill, spillGran := g.spillGran + spillNew }
      let s := takeGranules h dieNew spillNew (s.setSession ses { x' with msgs := mapPut x'.msgs m g' })
      if last then s.setTask tid { s.task tid with phase := 1, note := (s.task tid).note.take 2 ++ [die, dieNew, spill, spillNew] }
      else endChunk tid id n stOk 0 0 s

/-- The lane job of a data descriptor ends (R239-R245). A DMA failure leaves the message as it is, unless the chunk is its
last. -/
def endDataJob (tid id n : Nat) (dmaFails : Bool) (s : State) : State :=
  let t := s.task tid
  match t.desc, t.note with
  | some d, m :: _ =>
    let ses := handleIndex d.session
    let x := s.session ses
    let last := DataDescLast d
    if dmaFails then
      let s := raiseEvent 20 (detail [(2, (match t.rq.route with | .queue q _ => (s.qp q.toNat).owner.toNat | _ => 0)),
        (2, (match t.rq.route with | .queue q _ => q.toNat | _ => 0)), (4, 0x8000)]) s
      endChunk tid id n stInternal 1 0 (if last then endMessage ses m s else s)
    else
      let key : List Byte := match (s.job id).key with | some k => (s.key k).material | none => []
      let c := chunkIn x (mapGet {} x.msgs m) key d
      if isAead x.alg.toNat ∧ x.decrypt = true then endStaged tid id n ses m d c s
      else
        let s := afterChunk ses m last (chunkChain x c) (countChunk ses (s.job id).bytes last s)
        let out := chunkOut x d c
        let s := match t.rq.route with
          | .queue q _ => if out = [] then s else s.emit (.dmaWrite (s.qp q.toNat).owner.toNat d.dstAddr out)
          | _ => s
        let wrong := decide (isMac x.alg.toNat ∧ x.decrypt = true ∧ last = true ∧ chunkFinal x d c ≠ c.rest)
        endChunk tid id n (if wrong then stAuthFail else stOk) 0 (if wrong then 0 else out.length) s
  | _, _ => s

/-- An internal lane job of a command ends: the command goes on (R274, R350). -/
def endHashJob (id n : Nat) (s : State) : State :=
  let j := s.job id
  let s := freeLane n (laneClass j.alg.toNat) j.bytes s
  let s := noteRerun j (chargeChunk true j s)
  let s := endJob id s
  afterJob (match j.task with | some t => advance t s | none => s)

/-- LANE_JOB_COMPLETE: the lane time of a job ends. `dmaFails`: a DMA read or write of the chunk failed (R226). -/
def execLaneJobComplete (job : Nat) (dmaFails : Bool) (s : State) : Answer :=
  let j := s.job job
  .next (match j.unit, j.task with
    | some n, some t =>
      if !j.onLane || !j.live || !jobsRun s || dmaHeld t s || decide ((s.task t).phase ≠ 0 ∧ (s.task t).desc.isSome) then s
      else if (s.task t).desc.isSome then endDataJob t job n dmaFails s
      else endHashJob job n s
    | _, _ => s)

/-- RELEASE_COMPLETE: every staged byte of a message whose tag matched has been written out (R240, R241, R246).
`spillFailures`: how often the check of one staged line failed, on-die lines included (R425). -/
def execReleaseComplete (job spillFailures : Nat) (s : State) : Answer :=
  let j := s.job job
  .next (match j.unit, j.task with
    | some n, some tid =>
      let t := s.task tid
      match t.desc, t.note with
      | some d, m :: _ =>
        if t.phase ≠ 1 ∨ !jobsRun s ∨ dmaHeld tid s then s
        else
          let ses := handleIndex d.session
          let g := mapGet {} (s.session ses).msgs m
          let fails := if g.dieBytes + g.spillBytes = 0 then 0 else spillFailures
          let s := if fails = 0 then s else raisePlain (42 + 3 * n) s
          if 2 ≤ fails then endChunk tid job n stInternal 2 0 (endMessage ses m s)
          else
            let fn : Nat := match t.rq.route with | .queue q _ => (s.qp q.toNat).owner.toNat | _ => 0
            let s := g.staged.foldl (fun s w => if w.2 = [] then s else s.emit (.dmaWrite fn w.1 w.2)) s
            endChunk tid job n stOk 0 d.length.toNat (endMessage ses m s)
      | _, _ => s
    | _, _ => s)

/-- GRANULE_ZEROED: a granule that waited for its zeroing is free again (R244). -/
def execGranuleZeroed (spill : Bool) (s : State) : Answer :=
  let l := s.lanes
  .next (if spill then
      (if l.spillDirty = 0 then s else { s with lanes := { l with spillDirty := l.spillDirty - 1, spillFree := l.spillFree + 1 } })
    else if l.dieDirty = 0 then s
    else { s with lanes := { l with dieDirty := l.dieDirty - 1, dieFree := l.dieFree + 1 } })

/-! ### Faults (R258-R260, R536) -/

/-- The bytes a chunk had staged when its lane found a fault during the release go (R259). -/
def unstage (tid : Nat) (s : State) : State :=
  let t := s.task tid
  match t.desc, t.note with
  | some d, m :: h :: die :: dieNew :: spill :: spillNew :: _ =>
    let ses := handleIndex d.session
    let x := s.session ses
    let back (g : Msg) : Msg := { g with
      staged := g.staged.dropLast, dieBytes := g.dieBytes - die, dieGran := g.dieGran - dieNew
      spillBytes := g.spillBytes - spill, spillGran := g.spillGran - spillNew }
    let s := dropGranules x.saggar.toNat dieNew spillNew (s.setSession ses { x with msgs := mapMod {} x.msgs m back })
    s.setTask tid { t with phase := 0, note := [m, h] }
  | _, _ => s

/-- A message is on no lane: its kept chaining state is loaded wherever its next job runs. -/
def dropContext (j : Job) (n : Nat) (s : State) : State :=
  match jobMessage j s with
  | some (ses, m) =>
    let x := s.session ses
    let s := s.setSession ses { x with msgs := mapMod {} x.msgs m fun g => { g with lane := none } }
    s.setLane n { s.lane n with contexts := (s.lane n).contexts.erase ses }
  | none => s

/-- A job that a fault or a loss of clock stopped runs again, ahead of first executions (R20, R21). -/
def queueRerun (id added : Nat) (s : State) : State :=
  let j := s.job id
  queueJob id (s.setJob id { j with unit := none, rerun := true, added := j.added + added })

/-- A lane stops the job it runs: what it executed, a free amount, is overhead; the job runs again, or ends with INTERNAL
where it already is a rerun (R259, R374). -/
def stopLaneJob (id n added : Nat) (s : State) : State :=
  let j := s.job id
  let ran := (s.free 64).toNat % (j.bytes + 1)
  let cls := laneClass j.alg.toNat
  let s := chargeOverhead (laneCharge cls ran) (freeLane n cls ran (s.used 1))
  let s := match j.task with | some t => if (s.task t).phase = 1 ∧ (s.task t).desc.isSome then unstage t s else s | none => s
  let s := dropContext j n s
  if !j.rerun then queueRerun id added s
  else match j.task with
    | none => endJob id s
    | some t =>
      let s := match (s.task t).desc with | some d => if DataDescLast d then discardOf (s.task t) s else s | none => s
      let s := endJob id s
      failInternal t 2 (s.setTask t { s.task t with job := none })

/-- LANE_FAULT_DETECTED: event 40 + 3n; a job that runs is stopped and runs again, and the lane leaves the active role.
Detectors 0 to 2 set their bit of CL_STATUS.FAULT; 3 is the parity of a verify-buffer word. -/
def execLaneFaultDetected (lane : BitVec 4) (detector : BitVec 2) (addedMicros : BitVec 16) (s : State) : Answer :=
  let n := lane.toNat
  .next (if !jobsRun s then s
    else
      let s := s.setLane n { s.lane n with fault := if detector = 3 then (s.lane n).fault else setBit (s.lane n).fault detector.toNat true }
      let s := raisePlain (40 + 3 * n) s
      let s := match (s.lane n).job with | some id => stopLaneJob id n addedMicros.toNat s | none => s
      afterJob (if s.role n = .retired then s else faultUnit .lane n s))

/-! ### Key slots loaded through the windows (R257) -/

/-- What a write of CL_KEYLOAD does; a GO while a load runs is ignored. -/
def writeKeyload (value : Word) (s : State) : State :=
  let l := s.lanes
  if !value.getLsbD 31 then { s with lanes := { l with keyLoad := value &&& 0x0FFFF730 } }
  else if l.loading then s
  else { s with lanes := { l with keyLoad := value &&& 0x0FFFF730, loadOf := value, done := false, loading := true } }

/-- The bytes of key that LEN selects: the first half of an XTS key, or the second, is four words of the eight more. -/
def keyWindowBytes (s : State) : List Byte :=
  let len := s.lanes.loadOf.toNat / 16 % 4
  (List.range (if len = 0 then 4 else 8)).flatMap fun i => leBytes 4 (mapGet 0 s.lanes.keyWin i).toNat

/-- KEYLOAD_DONE: the load ends: the slot holds the key, the windows are zero, DONE is set. The second half of an XTS key
follows the first in its slot. -/
def execKeyloadDone (s : State) : Answer :=
  let v := s.lanes.loadOf.toNat
  let n := v / 4096 % 16
  let slot := v / 256 % 8
  .next (if !s.lanes.loading then s
    else
      let l := s.lane n
      let old := (mapGet {} l.slots slot).window
      let bytes := if v / 16 % 4 = 3 then old.take 32 ++ keyWindowBytes s else keyWindowBytes s
      let loaded : KeySlot := { valid := true, saggar := BitVec.ofNat 12 (v / 65536), window := bytes }
      let s := s.setLane n { l with slots := mapSet {} l.slots slot loaded }
      { s with lanes := { s.lanes with keyWin := [], loading := false, done := true } })

end Sys2Proof.Machine
end

