-- ==== Sys2Proof/Machine/CruJobs.lean ====
section
/-! DEFINITION. The events of the crucibles: start, end and fault of a whole operation, raw operations and leases, loads of
keys from the key cache (R265-R293, R337, R416, R419). -/

namespace Sys2Proof.Machine

/-! ### Whole operations (R278, R280-R285, R372) -/

/-- An operation that has not started names a retired key (R249). -/
def sealedGone (j : Job) (s : State) : Bool :=
  !j.rerun && (match j.key with | some k => (s.key k).retired | none => false)

/-- CRUCIBLE_JOB_START: the first job in token order that can start goes to its crucible, where one is free; where its key is
retired, its command completes with KEY_RETIRED (R249). -/
def execCrucibleJobStart (s : State) : Answer :=
  .next (if !jobsRun s then s
    else match nextCrucibleJob s with
      | none => s
      | some id =>
        if sealedGone (s.job id) s then
          (match (s.job id).task with | some t => failTask t stKeyRetired 0 s | none => s)
        else match chooseCrucible (s.job id).rerun s with
        | none => outgrowReserve s
        | some n => startCrucible id n (claimUnit .crucible n s))

/-- The randomness an RSA key search drew: half the modulus for each candidate (R278). -/
def searchDraw (j : Job) (attempts : Nat) : Nat :=
  if j.alg = 0x110 ∧ j.type = opKeyPair then 4 * j.w * attempts else 0

/-- A draw by a job that runs: it counts as drawn and is charged with the job (R402). -/
def jobDraw (j : Job) (n : Nat) (s : State) : State :=
  if n = 0 then s
  else chargeTo j.payer (entropyCharge n) (countEngine (entropyCharge n)
    { s with ent := { s.ent with out := s.ent.out + BitVec.ofNat 64 n } })

/-- CRUCIBLE_JOB_COMPLETE: the crucible time of a whole operation ends after so many attempts; its command goes on. -/
def execCrucibleJobComplete (crucible : BitVec 8) (attempts : Nat) (s : State) : Answer :=
  let n := crucible.toNat
  .next (match (s.crucible n).job with
    | none => s
    | some id =>
      let j := s.job id
      if !jobsRun s || (match j.task with | some t => dmaHeld t s | none => false) then s
      else
        let a := max 1 attempts
        let cycles := opCycles j.alg.toNat j.type j.w a
        let s := countInflight (opCharge j.type).neg (freeCrucible n cycles s)
        let s := chargeTo j.payer (cycleCharge cycles) (chargeTo j.payer (opCharge j.type) s)
        let s := noteRerun j (jobDraw j (searchDraw j a) s)
        let s := match j.task with | some t => s.setTask t { s.task t with attempts := a } | none => s
        let s := endJob id s
        afterJob (match j.task with | some t => advance t s | none => s))

/-- A crucible stops the operation it runs after so many cycles: the stop, the wipe and the operation are overhead; the job
runs again, or ends with INTERNAL where it already is a rerun (R285, R374). -/
def stopCrucible (id n ran added : Nat) (s : State) : State :=
  let j := s.job id
  let cycles := min ran (opCycles j.alg.toNat j.type j.w 1) + 64 + 1100
  let s := countInflight (opCharge j.type).neg (freeCrucible n cycles s)
  let s := chargeOverhead (cycleCharge cycles) (chargeOverhead (opCharge j.type) s)
  if !j.rerun then queueRerun id added s
  else
    let s := endJob id s
    match j.task with
    | some t => failInternal t 2 (s.setTask t { s.task t with job := none })
    | none => addSignJobs 1 s

/-- CRUCIBLE_FAULT_DETECTED: event 88 + n; the job runs again, and the crucible leaves the active role (R285, R536). -/
def execCrucibleFaultDetected (crucible : BitVec 8) (detector : BitVec 2) (ranCycles : Nat) (addedMicros : BitVec 16)
    (s : State) : Answer :=
  let n := crucible.toNat
  .next (if !jobsRun s || decide (160 ≤ n) then s
    else
      match (s.crucible n).job with
      | none => s
      | some id =>
        let x := s.crucible n
        let s := s.setCrucible n { x with fault := if detector = 3 then x.fault else setBit x.fault detector.toNat true }
        let s := stopCrucible id n ranCycles addedMicros.toNat (raisePlain (88 + n) s)
        afterJob (if s.role (1000 + n) = .retired then s else faultUnit .crucible n s))

/-! ### Raw operations and leases (R287-R293) -/

/-- RAW_OPERATION: the front operation of a leased crucible issues; a bad one is discarded with all behind it (R289). -/
def execRawOperation (crucible : BitVec 8) (s : State) : Answer :=
  let n := crucible.toNat
  let x := s.crucible n
  .next (match x.rawQueue with
    | [] => s
    | o :: rest =>
      if x.lease.isNone || !jobsRun s then s
      else if rawBad x o then s.setCrucible n { x with rawQueue := [], badOp := true }
      else rawIssue n o (s.setCrucible n { x with rawQueue := rest }))

/-- Another crucible takes the place of one in a lease, or the lease is one short (R292). -/
def swapLeased (i n : Nat) (other : Option Nat) (s : State) : State :=
  let l := s.lease i
  match other with
  | some m =>
    let s := wipe m 0 (s.setCrucible m { s.crucible m with slotLen := l.slotLen })
    let s := s.setCrucible m { s.crucible m with
      lease := some i, saggar := l.saggar, rawQueue := [], retain := 0, expired := false }
    s.setLease i { l with crucibles := l.crucibles.map fun c => if c = n then m else c }
  | none => returnToken (s.setLease i { l with crucibles := l.crucibles.erase n })

/-- RAW_FAULT: FAULT is set, the queue discarded, the crucible wiped; a crucible of the pool takes its place (R292). The
cycles held so far are charged first. -/
def execRawFault (crucible : BitVec 8) (s : State) : Answer :=
  let n := crucible.toNat
  .next (match (s.crucible n).lease with
    | none => s
    | some i =>
      if !jobsRun s then s
      else
        let s := (chargeLease i (leaseCycles i s) s).used 1
        let s := wipe n 0 (raisePlain (88 + n) s)
        let s := s.setCrucible n { s.crucible n with rawFault := true, rawQueue := [], retain := 0, lease := none, busy := false }
        afterJob (faultUnit .crucible n (swapLeased i n (firstBelow 160 fun m => decide (m ≠ n) && poolFree s m) s)))

/-- LEASE_LIMIT_EXPIRY: a lease has been held for its limit: every cycle of it is charged, and it ends with EXPIRED set
(R291, R293). -/
def execLeaseLimitExpiry (lease : Nat) (s : State) : Answer :=
  let l := s.lease lease
  .next (if !l.live then s else afterJob (endLease lease true (chargeLease lease (l.limit.toNat * 1500) s)))

/-! ### Loads from the key cache (R337, R338, R416, R419) -/

/-- Every job that waits for a key, now in the hot store, can start. -/
def keyArrived (k : Nat) (s : State) : State :=
  { s with jobs := mapAll {} (fun _ j => if j.key = some k then { j with keyWait := false } else j) s.jobs }

/-- The other copy of a line was good: the failing copy is rewritten; its channel is a free value (R416). -/
def repairLine (s : State) : State :=
  let c := (s.free 4).toNat
  let m := s.msub
  raisePlain (256 + c / 4) ({ s with msub := { m with checks := bump 65535 m.checks c, repaired := bump 65535 m.repaired c } }.used 1)

/-- A lost key-cache record: the key is destroyed, the jobs that wait for it end with INTERNAL (R419). -/
def loseKey (k : Nat) (s : State) : State :=
  let c := (s.free 4).toNat
  let m := s.msub
  let s := raisePlain (256 + c / 4) ({ s with msub := { m with checks := bump 65535 m.checks c } }.used 1)
  let s := raiseEvent 253 (detail [(2, (s.key k).saggar.toNat), (4, k)]) (raisePlain 260 s)
  let waiting := (s.jobs.filter fun e => decide (e.2.key = some k) && e.2.keyWait).filterMap fun e => e.2.task
  let s := waiting.foldl (fun s t => failInternal t 2 s) s
  scrubKey k s

/-- KEY_LOAD_COMPLETE: the vault has read the key a job waits for. Without a slot that can be freed the job goes on waiting,
with event 252. -/
def execKeyLoadComplete (job : Nat) (line : LineRead) (s : State) : Answer :=
  let j := s.job job
  .next (match j.key with
    | none => s
    | some k =>
      if !j.live || !j.keyWait || !jobsRun s then s
      else if line = .lost then loseKey k s
      else
        let s := if line = .repaired then repairLine s else s
        let r := loadHot k s
        if r.2 then keyArrived k r.1
        else raiseEvent 252 (detail [(2, (s.key k).saggar.toNat)]) r.1)

end Sys2Proof.Machine
end

