-- ==== Sys2Proof/Machine/Power.lean ====
section
/-! DEFINITION. Temperature, adaptive voltage, PLLs, crystal, mesh, die-to-die link, presence of cards, and restarts of cores
(R26-R29, R49, R66-R70, R84-R91, R160, R168, R490, R500). -/

namespace Sys2Proof.Machine

/-! ### Temperature (R49, R91, R99) -/

/-- Event 300: the throttle step and the hottest junction. -/
def raiseThermal (s : State) : State := raiseEvent 300 (detail [(1, s.pwr.throttle.toNat), (2, s.pwr.junction.toNat)]) s

/-- The hottest junction stands at a new reading, and a step of the throttle is taken, with its event and health flag. -/
def setThermal (junction : BitVec 16) (alert : Bool) (throttle : BitVec 4) (s : State) : State :=
  let t := { s with pwr := { s.pwr with junction, throttle }, pins := { s.pins with thermAlert := alert } }
  if s.pins.thermAlert = alert ∧ s.pwr.throttle = throttle then t else noteHealth s (raiseThermal t)

/-- THERMAL_ALERT: the hottest junction reads above the alert threshold. -/
def execThermalAlert (junction : BitVec 16) (s : State) : Answer :=
  .next (if s.pwr.released ∧ (Config.alertCelsius : Int) < junction.toInt then setThermal junction true s.pwr.throttle s else s)

/-- THERMAL_ALERT_CLEAR: it no longer does. -/
def execThermalAlertClear (junction : BitVec 16) (s : State) : Answer :=
  .next (if s.pwr.released ∧ junction.toInt ≤ (Config.alertCelsius : Int) then setThermal junction false s.pwr.throttle s else s)

/-- THROTTLE_STEP: one step down above the threshold, to half; one up from 3 °C below it; between them it is held. -/
def execThrottleStep (junction : BitVec 16) (s : State) : Answer :=
  let t := s.pwr.throttle
  let next : BitVec 4 :=
    if (Config.alertCelsius : Int) < junction.toInt then (if t.toNat < 4 then t + 1 else t)
    else if junction.toInt + 3 ≤ (Config.alertCelsius : Int) then (if t = 0 then t else t - 1)
    else t
  .next (if s.pwr.released then setThermal junction s.pins.thermAlert next s else s)

/-! ### Adaptive voltage and the power bus (R66-R70, R90, R99) -/

/-- CONE_VSET[17:16] as event 297 carries it. -/
def avsBits (s : State) : Nat := (if s.pwr.avsOn then 1 else 0) + (if s.pwr.avsFault then 2 else 0)

/-- Event 297. -/
def raiseAvs (s : State) : State := raiseEvent 297 (detail [(1, avsBits s), (2, s.pwr.setpoint.toNat)]) s

/-- A write of the setpoint is acknowledged, or it has failed three times: adaptive voltage stops at the lower value. -/
def writeSetpoint (v : BitVec 10) (acknowledged : Bool) (s : State) : State :=
  let p := s.pwr
  if acknowledged then voutCommand v { s with pwr := { p with pmFails := 0, goodWindows := 0 } }
  else
    let t := { s.emit (.pmbus 0 0x21 (some v)) with pwr := { p with
      avsFault := true, pmFails := 3, unacked := some v, goodWindows := 0
      setpoint := if v.toNat < p.setpoint.toNat then v else p.setpoint } }
    noteHealth s (raiseAvs (raiseEvent 296 (detail [(1, 0), (2, 0)]) t))

/-- The limits of the setpoint: CONE_VLIMIT, R67, the fused minimum plus 10 mV, and the range of a self-test slice. -/
def setpointLow (minMillivolt : Nat) (s : State) : Nat :=
  max (max s.pwr.low.toNat 680) (max (minMillivolt + 10) (if s.bst.running = [] then 0 else 720))
def setpointHigh (s : State) : Nat := min (min s.pwr.high.toNat 850) (if s.bst.running = [] then 1023 else 800)

/-- The setpoint moves by 10 mV at most towards a value within its limits; the lower limit wins over the upper one. -/
def stepSetpoint (want minMillivolt : Nat) (acknowledged : Bool) (s : State) : State :=
  let at_ := s.pwr.setpoint.toNat
  let v := max (setpointLow minMillivolt s) (min (setpointHigh s) want)
  let v := min (at_ + 10) (max (at_ - 10) v)
  if v = at_ then s else writeSetpoint (BitVec.ofNat 10 v) acknowledged s

/-- AVS_WINDOW: what the power manager does at the end of a 1 ms window with the least slack of all monitors. -/
def execAvsWindow (slackPercent : Nat) (minMillivolt : BitVec 10) (acknowledged : Bool) (s : State) : Answer :=
  let m := minMillivolt.toNat
  let at_ := s.pwr.setpoint.toNat
  let s' := if 8 ≤ slackPercent then { s with pwr := { s.pwr with halved := 0 } } else s
  .next (if !avsRuns s then s
    else if slackPercent < 8 then stepSetpoint (at_ + 10) m acknowledged { s' with pwr := { s'.pwr with goodWindows := 0 } }
    else if slackPercent < 12 then stepSetpoint at_ m acknowledged { s' with pwr := { s'.pwr with goodWindows := 0 } }
    else if s.pwr.goodWindows + 1 < 16 then
      stepSetpoint at_ m acknowledged { s' with pwr := { s'.pwr with goodWindows := s.pwr.goodWindows + 1 } }
    else stepSetpoint (at_ - 10) m acknowledged { s' with pwr := { s'.pwr with goodWindows := 0 } })

/-- TIMING_MARGIN_LOW: the clocks of a domain are halved and the setpoint is raised. -/
def execTimingMarginLow (domain : BitVec 6) (s : State) : Answer :=
  .next (if !avsRuns s then s
    else stepSetpoint (s.pwr.setpoint.toNat + 10) 0 true { s with pwr := { s.pwr with
      halved := setBit s.pwr.halved domain.toNat true, goodWindows := 0 } })

/-- PMBUS_RETRY: the retry of R69; after a successful read adaptive voltage resumes from the value read. The STATUS_WORD
read is a free value. -/
def execPmbusRetry (answers : Bool) (millivolt : BitVec 10) (s : State) : Answer :=
  .next (if !s.pwr.avsFault || !s.pwr.released then s
    else if answers then
      let t := { s with pwr := { s.pwr with avsFault := false, pmFails := 0, unacked := none, setpoint := millivolt, goodWindows := 0 } }
      noteHealth s (raiseAvs ((raiseEvent 296 (detail [(1, 0), (2, (s.free 16).toNat)]) t).used 1))
    else raiseEvent 296 (detail [(1, 0), (2, 0)]) { s with pwr := { s.pwr with pmFails := s.pwr.pmFails + 1 } })

/-- A regulator is configured for a rail (item 0x0000_0E10, as of the last boot). -/
def railConfigured (rail : Nat) (s : State) : Bool := !((mapGet [] s.flash.applied 0x0E10).getD rail 0x40).getLsbD 7

/-- PM_ALERT: the STATUS_WORD of each configured regulator is recorded, and CLEAR_FAULTS (0x03) goes to each that reports a
fault, which any bit of the word does (log entry 96); VDD_CORE below 0.64 V starts the commit. -/
def execPmAlert (status : List (BitVec 16)) (coreCollapsed : Bool) (s : State) : Answer :=
  .next (if !s.pwr.released then s
    else
      let s := (List.range 4).foldl (fun s rail =>
        match status[rail]? with
        | some w => if railConfigured rail s then raiseEvent 296 (detail [(1, rail), (2, w.toNat)]) s else s
        | none => s) s
      let s := (List.range 4).foldl (fun s rail =>
        if railConfigured rail s && decide (status.getD rail 0 ≠ 0) then s.emit (.pmbus rail 3 none) else s) s
      if coreCollapsed then triggerCommit 1 s else s)

/-! ### PLLs (R84-R86, R584) -/

/-- Event 299 for a PLL. -/
def raisePll (pll : Nat) (s : State) : State := raiseEvent 299 (detail [(1, 0), (2, pll)]) s

/-- Jobs that ran in the domains of a class are recomputed as after a fault: what they had run and the time added are free
values; raw work goes as R292 gives. -/
def rerunClass (class_ : Nat) (s : State) : State :=
  if class_ = 1 then
    (List.range 16).foldl (fun s n => match (s.lane n).job with
      | some id => stopLaneJob id n (s.free 16).toNat (s.used 1)
      | none => s) s
  else if class_ = 2 then
    (List.range 160).foldl (fun s n =>
      match (s.crucible n).job with
      | some id => stopCrucible id n (s.free 32).toNat (Config.freeNat (s.freeCtr + 1) % 65536) (s.used 2)
      | none =>
        if (s.crucible n).lease.isSome ∧ (s.crucible n).rawQueue ≠ [] then
          let s := wipe n 0 s
          s.setCrucible n { s.crucible n with rawFault := true, rawQueue := [], retain := 0 }
        else s) s
  else s

/-- PLL_LOSS_OF_LOCK: the domains of a class that ran from the PLL move to its twin, and their jobs run again. With the twin
out of lock as well they stop (R86). -/
def execPllLossOfLock (pll : BitVec 4) (s : State) : Answer :=
  let i := pll.toNat
  let k := i / 2
  let p := s.pwr
  .next (if !s.pwr.up || decide (11 < i) || p.unlocked.getLsbD i then s
    else
      let inUse := decide (i < 10) && decide (p.onTwin.getLsbD k = decide (i % 2 = 1))
      let twin := if i % 2 = 0 then i + 1 else i - 1
      let moved := inUse && !p.unlocked.getLsbD twin
      let s := raisePll i { s with pwr := { p with
        unlocked := setBit p.unlocked i true, onTwin := if moved then setBit p.onTwin k (decide (i % 2 = 0)) else p.onTwin } }
      if inUse then afterJob (rerunClass k s) else s)

/-- PLL_RELOCK: domains that had stopped take the PLL's clock. -/
def execPllRelock (pll : BitVec 4) (s : State) : Answer :=
  let i := pll.toNat
  let p := s.pwr
  .next (if !p.unlocked.getLsbD i then s
    else
      let twin := if i % 2 = 0 then i + 1 else i - 1
      let stopped := decide (i < 10) && p.unlocked.getLsbD twin
      raisePll i { s with pwr := { p with
        unlocked := setBit p.unlocked i false
        onTwin := if stopped then setBit p.onTwin (i / 2) (decide (i % 2 = 1)) else p.onTwin } })

/-! ### The crystal (R88, R89) -/

/-- The source of the timebase changes: event 298, health flag 8, and the flag of the open span (R369). -/
def setTimeSource (crystalOk scaled : Bool) (s : State) : State :=
  let t := { s with
    pwr := { s.pwr with crystalOk, scaled }
    tal := { s.tal with flags := s.tal.flags ||| 1 } }
  noteHealth s (raiseEvent 298 (detail [(1, (if crystalOk then 2 else 0) + (if scaled then 1 else 0))]) t)

/-- CRYSTAL_LOSS. -/
def execCrystalLoss (s : State) : Answer := .next (if s.pwr.scaled then s else setTimeSource false true s)

/-- CRYSTAL_RETURN. -/
def execCrystalReturn (s : State) : Answer := .next (if s.pwr.scaled then setTimeSource true false s else s)

/-- RATIO_MEASUREMENT: the ratio in force is the one measured, while the crystal runs. -/
def execRatioMeasurement (ratio : BitVec 32) (s : State) : Answer :=
  .next (if s.pwr.crystalOk && !s.pwr.scaled then { s with pwr := { s.pwr with ratio } } else s)

/-! ### The mesh and the die-to-die link (R25-R29) -/

/-- Two vertices that a link may join; which ones it joins the spec does not place. -/
def meshLink (a b : BitVec 5) : Bool := decide (a ≠ b)

/-- A link by its vertices, lower first. -/
def linkOf (a b : BitVec 5) : BitVec 5 × BitVec 5 := if a.toNat ≤ b.toNat then (a, b) else (b, a)

/-- The number of a link in Fabric.retries. -/
def linkKey (a b : BitVec 5) : Nat := 32 * (linkOf a b).1.toNat + (linkOf a b).2.toNat

/-- MESH_FLIT_ERROR: one more failed retransmission on a link. -/
def execMeshFlitError (a b : BitVec 5) (s : State) : Answer :=
  .next (if !s.pwr.up || !meshLink a b || s.fabric.broken.contains (linkOf a b) then s
    else { s with fabric := { s.fabric with retries := mapMod 0 s.fabric.retries (linkKey a b) fun n => min 8 (n + 1) } })

/-- MESH_LINK_REROUTE: after eight failures the link is out of use: event 299, health flag 3. -/
def execMeshLinkReroute (a b : BitVec 5) (s : State) : Answer :=
  .next (if !s.pwr.up || !meshLink a b || s.fabric.broken.contains (linkOf a b) ||
      decide (mapGet 0 s.fabric.retries (linkKey a b) < 8) then s
    else noteHealth s (raiseEvent 299 (detail [(1, 1), (1, (linkOf a b).1.toNat), (1, (linkOf a b).2.toNat)])
      { s with fabric := { s.fabric with
        broken := s.fabric.broken ++ [linkOf a b], retries := mapSet 0 s.fabric.retries (linkKey a b) 0 } }))

/-- D2D_FLIT_ERROR: one more failed replay. -/
def execD2dFlitError (s : State) : Answer :=
  .next (if s.fabric.linkUp then { s with fabric := { s.fabric with replays := min 4 (s.fabric.replays + 1) } } else s)

/-- D2D_RETRAIN: after four failed replays the link retrains. -/
def execD2dRetrain (s : State) : Answer :=
  .next (if s.fabric.linkUp ∧ 4 ≤ s.fabric.replays then retrainLink s else s)

/-- D2D_LINK_START: a fresh link key; with another pairing secret the link stays down (R27, R28). -/
def execD2dLinkStart (pairingMatches : Bool) (s : State) : Answer :=
  .next (if !s.pwr.released || decide (2 < s.pwr.cone.toNat) then s
    else
      let s := startLink pairingMatches s
      if pairingMatches then deliverBuffered s else s)

/-! ### Presence of cards (R77, R490, R500) -/

/-- A wake that the vault die requests. -/
def vaultWake (s : State) : State :=
  if 3 ≤ (if s.pwr.moving then max s.pwr.cone.toNat s.pwr.target.toNat else s.pwr.cone.toNat) then startExit true s else s

/-- CUSTODIAN_PRESENCE_CHANGE: event 302 + n. A card that is pulled is off and counts as removed. -/
def execCustodianPresenceChange (port : BitVec 1) (present : Bool) (s : State) : Answer :=
  let n := port.toNat
  let p := s.port n
  .next (if p.present = present then s
    else
      let s := if present then s.setPort n { p with present := true, out := false }
        else s.setPort n { p with present := false, isOn := false, out := false, removed := p.removed || p.isOn }
      vaultWake (raisePlain (302 + n) s))

/-- ARCHIVE_PRESENCE_CHANGE: event 305; a removal unmounts the card and suspends an export. -/
def execArchivePresenceChange (present : Bool) (s : State) : Answer :=
  .next (if s.cards.present = present then s
    else if present then vaultWake (raisePlain 305 { s with cards := { s.cards with present := true } })
    else vaultWake (archiveRemoved { s with cards := { s.cards with present := false } }))

/-! ### Restarts (R92, R156, R160, R168) -/

/-- The standby pair takes over: commands in progress go on, and one that succeeds reports RECOMPUTED with the time the
takeover added, a free value (R168, R173). -/
def takeover (s : State) : State :=
  let added := (s.free 16).toNat
  let mark (t : Task) : Task := if t.opcode.toNat < 0x8000 then { t with recomputed := true, added := t.added + added } else t
  let t := { s.used 1 with
    tasks := mapAll {} (fun _ t => mark t) s.tasks
    upd := { s.upd with pair := !s.upd.pair }
    health := { s.health with takeover := true }
    pwr := { s.pwr with rstCause := setBit s.pwr.rstCause 1 true } }
  noteHealth s t

/-- Number of the control pair that is active. -/
def activePair (s : State) : Nat := if s.upd.pair then 1 else 0

/-- A control pair is restarted: the active one gives its role to the standby pair first. -/
def restartControl (i : Nat) (s : State) : State :=
  let c : CoreId := .control (if i = 0 then 0 else 1)
  let s := if activePair s = i then takeover s else s
  (coreReset c s).emit (.coreNotice c)

/-- Another crucible takes the place of a leased one that restarts, as after a fault (R292). -/
def leaveLease (n : Nat) (s : State) : State :=
  match (s.crucible n).lease with
  | none => s
  | some i =>
    let s := (chargeLease i (leaseCycles i s) s).used 1
    let s := s.setCrucible n { s.crucible n with rawFault := true, rawQueue := [], retain := 0, lease := none, busy := false }
    swapLeased i n (firstBelow 160 fun m => decide (m ≠ n) && poolFree s m) s

/-- A unit goes to the spare role, scrubbed; the lowest spare unit that is qualified takes its place. -/
def spareUnit (cls : UnitClass) (i : Nat) (s : State) : State :=
  let u := unitNumber cls i
  if s.role u ≠ .active then (if s.role u = .retired then s else scrubUnit u s)
  else
    let s := match lowestSpare cls s with
      | some n =>
        let a := unitNumber cls n
        (scrubUnit a (claimUnit cls n s)).setRole a .active
      | none => s
    enterSpare cls i s

/-- The restarts of a core within 24 h, this one included (R160). -/
def restartsNow (k : Thrower) (s : State) : List (BitVec 48) :=
  s.pwr.aon :: k.restarts.filter fun t => decide ((s.pwr.aon - t).toNat < 86400 * 32768)

/-- A service core or crucible is restarted: its job runs elsewhere, it is scrubbed and enters the spare role, a service core
unqualified; the third restart in 24 h retires it (R160, R536). -/
def restartUnit (cls : UnitClass) (i : Nat) (c : CoreId) (s : State) : State :=
  let times := restartsNow (s.core c) s
  let s := if cls = .crucible then
      match (s.crucible i).job with
      | some id => stopCrucible id i (s.free 32).toNat (Config.freeNat (s.freeCtr + 1) % 65536) (s.used 2)
      | none => leaveLease i s
    else s
  let s := if cls = .crucible then raisePlain (88 + i) s else s
  let s := if 3 ≤ times.length then retireUnit cls i (spareUnit cls i s)
    else if cls = .service then faultUnit cls i s else spareUnit cls i s
  (s.setCore c { s.core c with restarts := times.take 3 }).emit (.coreNotice c)

/-- What a restart does to a core, by its class. -/
def restartCore (c : CoreId) (s : State) : State :=
  match c with
  | .control p => restartControl p.val s
  | .service n => afterJob (restartUnit .service n.val c s)
  | .crucible n => afterJob (restartUnit .crucible n.val c s)

/-- The supervisor has cause to restart a core: it halted, its st.IE stood at 0 too long, or its heartbeat lapsed twice; no
heartbeat of a crucible is supervised (R156, R159). -/
def restartCause (c : CoreId) (ieBound : Bool) (k : Thrower) : Bool :=
  k.halted || (k.running && (if ieBound then !k.ie else k.lapsed && (match c with | .crucible _ => false | _ => true)))

/-- SUPERVISOR_RESTART. -/
def execSupervisorRestart (c : CoreId) (ieBound : Bool) (s : State) : Answer :=
  .next (if s.pwr.up && restartCause c ieBound (s.core c) then restartCore c s else s)

/-- LOCKSTEP_MISMATCH: the active control pair is restarted and the standby pair takes over. -/
def execLockstepMismatch (s : State) : Answer :=
  .next (if s.pwr.up then restartControl (activePair s) s else s)

end Sys2Proof.Machine
end

