-- ==== Sys2Proof/Machine/HifRows.lean ====
section
/-! DEFINITION. What the host does to the host interface, and what happens on the link: mailbox, queue pairs, doorbells,
descriptor fetch, MSI-X, configuration writes, resets of the link, the test access port (R92, R94, R163-R165, R205-R230,
R486, R561, R567-R569, R592, R593). -/

namespace Sys2Proof.Machine

/-! ### Access to the BARs (R78, R207, R208) -/

/-- A memory request of a function reaches the part: the function exists, with Memory Space Enable set, and the link is not
in L2 (R77). -/
def barReaches (f : Nat) (s : State) : Bool :=
  s.fnExists f && (s.fn f).memEnable && decide (s.pwr.cone ≠ 4)

/-- A write to BAR0 or BAR2 brings the part out of cone 3, where it is captured until the exit; a doorbell brings it out of
cone 1 and cone 2 as well (R77, R78). -/
def barWake (doorbell : Bool) (s : State) : State :=
  let c := s.pwr.cone.toNat
  let t := if s.pwr.moving then max c s.pwr.target.toNat else c
  if s.pwr.up && (if doorbell then decide (1 ≤ t) else decide (3 ≤ t)) then startExit false s else s

/-! ### The mailbox (R163-R165) -/

/-- Bytes for the request area: while BUSY they are discarded with PAGE_ERR, beyond the area they are discarded. -/
def writeRequest (f offset : Nat) (bytes : List Byte) (s : State) : State :=
  let m := s.box f
  if 2048 < offset + bytes.length then s
  else s.setBox f (if m.state = 1 then { m with pageErr := true } else { m with req := memWrite 0 m.req offset bytes })

/-- MAILBOX_REQUEST_WRITE: bytes go to the request area. -/
def execMailboxRequestWrite (fn : BitVec 6) (offset : BitVec 11) (bytes : List Byte) (s : State) : Answer :=
  .next (if barReaches fn.toNat s then barWake false (writeRequest fn.toNat offset.toNat bytes s) else s)

/-- DMB_CTRL: a VECTOR beyond the table leaves it unchanged. -/
def writeDmbCtrl (f : Nat) (value : Word) (s : State) : State :=
  let vector : BitVec 11 := value.extractLsb' 16 11
  if vector.toNat < 32 then s.setBox f { s.box f with vector, ie := value.getLsbD 0 } else s

def execDmbCtrl (fn : BitVec 6) (value : BitVec 32) (s : State) : Answer :=
  .next (if barReaches fn.toNat s then barWake false (writeDmbCtrl fn.toNat value s) else s)

/-- A write of DMB_DOORBELL: GO submits the request in the request area, or sets OVERRUN. The command itself runs when its
row finds its bytes there. -/
def writeDoorbell (f : Nat) (value : Word) (s : State) : State :=
  let m := s.box f
  if !value.getLsbD 0 then s
  else if !s.pwr.up || decide (m.state = 1) then s.setBox f { m with overrun := true }
  else rejectUnknown f (s.setBox f { m with state := 1, task := none })

def execDmbDoorbell (fn : BitVec 6) (value : BitVec 32) (s : State) : Answer :=
  .next (if barReaches fn.toNat s then writeDoorbell fn.toNat value (barWake true s) else s)

/-! ### Queue pairs (R211-R215, R219-R221) -/

/-- A queue pair is assigned to a function. -/
def queueOf (f q : Nat) (s : State) : Bool := (s.qp q).assigned && decide ((s.qp q).owner.toNat = f)

/-- The queue pair that HIF_QSEL of a function names, where it is the function's. -/
def selected (f : Nat) (s : State) : Option Nat :=
  let q := (s.fn f).qsel.toNat
  if queueOf f q s then some q else none

/-- HIF_QP_OWNER_q: ignored while the queue pair is not DISABLED or is bound. -/
def writeQpOwner (q : Nat) (value : Word) (s : State) : State :=
  let x := s.qp q
  if x.state ≠ 0 ∨ x.bound.isSome then s
  else s.setQp q { x with assigned := value.getLsbD 31, owner := value.extractLsb' 0 6 }

def execHifQpOwner (qp : BitVec 12) (value : BitVec 32) (s : State) : Answer :=
  .next (if barReaches 0 s then barWake false (writeQpOwner qp.toNat value s) else s)

/-- EN = 1 on a DISABLED queue pair (R214, R221). -/
def enableQueue (q : Nat) (s : State) : State :=
  let x := s.qp q
  if x.state ≠ 0 then s
  else if x.size.toNat < 4 ∨ 12 < x.size.toNat ∨ 2 ^ x.size.toNat - 1 < x.credits.toNat then s.setQp q { x with cause := 4 }
  else
    let grant : BitVec 12 := if x.credits = 0 then BitVec.ofNat 12 (2 ^ x.size.toNat - 1) else x.credits
    s.setQp q { x with
      en := true, state := 1, errored := false, cause := 0, sqTail := 0, cqHead := 0, sqHead := 0, cqTail := 0, phase := true
      counted := 0, issued := grant, returned := grant, consumed := 0, reserved := 0, held := [] }

/-- EN = 0 on an ENABLED or ERROR queue pair (R215). -/
def disableQueue (q : Nat) (s : State) : State :=
  let x := s.qp q
  if x.state ≠ 1 ∧ x.state ≠ 3 then s
  else
    let s := queueEvent q (s.setQp q { x with en := false, state := 2, errored := decide (x.state = 3), reserved := 0 })
    settleCurrent (releaseMany x.reserved s)

def execQueueEnable (fn : BitVec 6) (s : State) : Answer :=
  .next (if !barReaches fn.toNat s then s
    else barWake false (match selected fn.toNat s with | some q => enableQueue q s | none => s))

def execQueueDisable (fn : BitVec 6) (s : State) : Answer :=
  .next (if !barReaches fn.toNat s then s
    else barWake false (match selected fn.toNat s with | some q => disableQueue q s | none => s))

/-- QUEUE_DRAIN_COMPLETE: every job of a DRAINING queue pair has completed, and no completion entry is held back. -/
def execQueueDrainComplete (qp : BitVec 12) (s : State) : Answer :=
  let q := qp.toNat
  let x := s.qp q
  .next (if x.state ≠ 2 ∨ queueTasks q s ≠ 0 ∨ x.fetched ≠ [] ∨ x.held ≠ [] then s
    else queueEvent q (s.setQp q { x with
      state := 0, errored := false, cause := 0, issued := 0, consumed := 0, returned := 0 }))

/-- A write of SQ_TAIL: at or beyond the ring size it puts the queue pair in ERROR. -/
def writeSqTail (q : Nat) (value : Word) (s : State) : State :=
  let x := s.qp q
  let v : BitVec 12 := value.extractLsb' 0 12
  if x.state = 1 ∧ x.ring ≤ v.toNat then settleCurrent (queueError q 3 s)
  else s.setQp q { x with sqTail := v }

def execSqTail (fn : BitVec 6) (qp : BitVec 12) (value : BitVec 32) (s : State) : Answer :=
  .next (if barReaches fn.toNat s && queueOf fn.toNat qp.toNat s then barWake true (writeSqTail qp.toNat value s) else s)

/-- Completion entries held back go out as far as the ring takes them (R215). -/
def flushHeld : Nat → Nat → State → State
  | 0, _, s => s
  | fuel + 1, q, s =>
    let x := s.qp q
    match x.held with
    | e :: rest => if x.unread + 1 < x.ring then flushHeld fuel q (writeCompletion q e (s.setQp q { x with held := rest })) else s
    | [] => s

/-- A write of CQ_HEAD releases entries: their credits return. Outside the entries written and not released it puts the
queue pair in ERROR (R220, R221). -/
def writeCqHead (q : Nat) (value : Word) (s : State) : State :=
  let x := s.qp q
  let v : BitVec 12 := value.extractLsb' 0 12
  let n := (v.toNat + x.ring - x.cqHead.toNat) % x.ring
  if x.state = 0 then s.setQp q { x with cqHead := v }
  else if x.ring ≤ v.toNat ∨ x.unread < n then settleCurrent (queueError q 3 s)
  else
    let m : BitVec 12 := BitVec.ofNat 12 (min n x.consumed.toNat)
    let s := s.setQp q { x with cqHead := v, consumed := x.consumed - m, returned := x.returned + m }
    flushHeld x.held.length q s

def execCqHead (fn : BitVec 6) (qp : BitVec 12) (value : BitVec 32) (s : State) : Answer :=
  .next (if barReaches fn.toNat s && queueOf fn.toNat qp.toNat s then barWake true (writeCqHead qp.toNat value s) else s)

/-! ### Fetch and data descriptors (R171, R217, R221-R226) -/

/-- A fetched descriptor with an opcode that no command has completes with BAD_OPCODE. -/
def fetchedOrRefused (q : Nat) (slot : BitVec 12) (e : FetchResult) (s : State) : State :=
  match e with
  | .command opcode rq =>
    if knownOpcode opcode.toNat then s.setQp q { s.qp q with fetched := (s.qp q).fetched ++ [(slot, e)] }
    else respond opcode.toNat { rq with route := .queue (BitVec.ofNat 12 q) slot } stBadOpcode 0 [] (releaseReservation s)
  | _ => s.setQp q { s.qp q with fetched := (s.qp q).fetched ++ [(slot, e)] }

/-- DESCRIPTOR_FETCH: the next posted descriptor of an enabled, bound queue pair is read under its reservation and takes a
credit; a read that fails puts the queue pair in ERROR and returns the reservation. -/
def execDescriptorFetch (qp : BitVec 12) (fetch : FetchResult) (s : State) : Answer :=
  let q := qp.toNat
  let x := s.qp q
  let slot := x.sqHead
  let fits : Bool := match fetch with
    | .command _ rq => decide (rq.route = .queue qp slot)
    | _ => true
  .next (if x.state ≠ 1 ∨ x.bound.isNone ∨ x.reserved = 0 ∨ x.posted = 0 ∨ x.returned = 0 ∨ !fits ∨ !s.accepting ∨
      !s.fnExists x.owner.toNat ∨ !(s.fn x.owner.toNat).busMaster then s
    else if fetch = .failed then settleCurrent (queueError q 1 (releaseReservation (s.setQp q { x with reserved := x.reserved - 1 })))
    else
      let x := { x with
        sqHead := BitVec.ofNat 12 ((slot.toNat + 1) % x.ring), returned := x.returned - 1, consumed := x.consumed + 1
        reserved := x.reserved - 1 }
      settleCurrent (fetchedOrRefused q slot fetch (s.setQp q x)))

/-- DATA_DESCRIPTOR: the data descriptor at the front of what a queue pair has fetched is checked, and its job made; with
FENCE it waits for every earlier command of the queue pair. -/
def execDataDescriptor (qp : BitVec 12) (d : DataDesc) (s : State) : Answer :=
  let q := qp.toNat
  let x := s.qp q
  .next (match x.fetched with
    | (slot, .data e) :: rest =>
      if e ≠ d ∨ !s.accepting ∨ !(s.fn x.owner.toNat).busMaster ∨ (d.flags.getLsbD 0 ∧ queueTasks q s ≠ 0) then s
      else dataDescriptor qp slot d (s.setQp q { x with fetched := rest })
    | _ => s)

/-- A queue pair's descriptors wait for DMA: fetched ones, commands in progress, or a posted one that holds its token
reservation for the fetch (R187, R222, R226). -/
def queueWaits (q : Nat) (x : QueuePair) (s : State) : Bool :=
  decide (x.fetched ≠ []) || decide (queueTasks q s ≠ 0) || decide (x.state = 1 ∧ x.reserved ≠ 0 ∧ x.posted ≠ 0)

/-- BUS_MASTER_TIMEOUT: 100 ms with Bus Master Enable clear while jobs wait: the function's enabled queue pairs enter ERROR
with CAUSE 5, and their jobs are abandoned (R226). -/
def execBusMasterTimeout (fn : BitVec 6) (s : State) : Answer :=
  let f := fn.toNat
  let mine (e : Nat × QueuePair) : Bool := e.2.assigned && decide (e.2.owner = fn)
  let qs := s.hif.qps.filter mine
  let waits := qs.any fun e => queueWaits e.1 e.2 s
  .next (if (s.fn f).busMaster || !s.fnExists f || !waits then s
    else
      let s := raiseEvent 15 (detail [(2, f), (2, 0), (4, 1)]) s
      let s := qs.foldl (fun s e => queueError e.1 5 s) s
      let s := qs.foldl (fun s e => (queueWork e.1 s).foldl (fun s t => killTask false t s) s) s
      settleCurrent (qs.foldl (fun s e => releaseMany e.2.fetched.length (s.setQp e.1 { s.qp e.1 with fetched := [] })) s))

/-! ### MSI-X (R227) and requests that a BAR refuses (R208) -/

/-- MSIX_COALESCE_TIMEOUT: TIME has passed since the first counted completion. -/
def execMsixCoalesceTimeout (qp : BitVec 12) (s : State) : Answer :=
  let q := qp.toNat
  let x := s.qp q
  .next (if x.ie && decide (0 < x.counted) then
    sendMsix x.owner.toNat x.vector.toNat (s.setQp q { x with counted := 0 }) else s)

/-- MSIX_UNMASK: a message that a mask held follows. -/
def unmask (f v : Nat) (s : State) : State :=
  let x := s.fn f
  let msix := mapMod {} x.msix v fun e => { e with masked := false }
  if x.msixEnable && x.pba.getLsbD v then sendMsix f v (s.setFn f { x with msix, pba := setBit x.pba v false })
  else s.setFn f { x with msix }

def execMsixUnmask (fn : BitVec 6) (vector : BitVec 5) (s : State) : Answer :=
  .next (if barReaches fn.toNat s then barWake false (unmask fn.toNat vector.toNat s) else s)

/-- A request of more than 8 bytes is taken: the credit words of a doorbell slot, a mailbox area, the MSI-X table. -/
def largeOk (f : Nat) (bar2 : Bool) (offset size : Nat) : Bool :=
  if bar2 then decide (0x10 ≤ offset % 64) && decide (offset % 64 + size ≤ 0x20)
  else
    let w := if f = 0 then offset - 0x40000 else offset
    (decide (f ≠ 0) || decide (0x40000 ≤ offset)) &&
      (decide (w + size ≤ 0x1000) || (decide (0x8000 ≤ w) && decide (w + size ≤ 0x8200)))

/-- BAR_UNSUPPORTED_REQUEST: event 9 with the offset. -/
def execBarUnsupportedRequest (fn : BitVec 6) (bar2 : Bool) (offset : BitVec 32) (size : Nat) (s : State) : Answer :=
  let f := fn.toNat
  .next (if s.fnExists f && s.pwr.released &&
      (!(s.fn f).memEnable || (decide (8 < size) && !largeOk f bar2 offset.toNat size)) then
    raiseEvent 9 (detail [(2, f), (2, 0), (4, offset.toNat)]) s else s)

/-! ### Configuration space (R77, R79, R226, R229, R230) -/

/-- A new value of an LTR field: event 21 where the host term changes, and an exit where the cone is too deep (R79, R80). -/
def setLtr (h : HostIf) (s : State) : State :=
  let t := { s with hif := h }
  let t := if t.hostTerm = s.hostTerm then t else raiseEvent 21 (detail [(2, 0), (2, 0), (4, t.hostTerm)]) t
  reevaluateCone t

/-- Jobs of a function's queue pairs are in flight. -/
def fnWaits (f : Nat) (s : State) : Bool :=
  s.hif.qps.any fun e => e.2.assigned && decide (e.2.owner.toNat = f) && queueWaits e.1 e.2 s

/-- What a write of one field does. -/
def writeConfig (f : Nat) (field : ConfigField) (value : Word) (s : State) : State :=
  let b := value.getLsbD 0
  let x := s.fn f
  match field with
  | .memoryEnable => s.setFn f { x with memEnable := b }
  | .busMaster =>
    let t := s.setFn f { x with busMaster := b }
    if x.busMaster && !b && fnWaits f s then raiseEvent 15 (detail [(2, f), (2, 0), (4, 0)]) t else t
  | .msixEnable => s.setFn f { x with msixEnable := b }
  | .dState =>
    let d : BitVec 2 := value.extractLsb' 0 2
    if d = x.dState then s else raiseEvent 14 (detail [(2, f), (2, 0), (4, d.toNat)]) (s.setFn f { x with dState := d })
  | .vfEnable =>
    if f ≠ 0 then s
    else if b then { s with hif := { s.hif with vfEnable := true } }
    else
      let s := if s.hif.vfEnable then (List.range 63).foldl (fun s i => resetFn (i + 1) s) s else s
      { s with hif := { s.hif with vfEnable := false } }
  | .ltrEnable => if f = 0 then setLtr { s.hif with ltrEnable := b } s else s
  | .ltrSnoop => if f = 0 then setLtr { s.hif with ltrSnoop := value.extractLsb' 0 13 } s else s
  | .ltrNoSnoop => if f = 0 then setLtr { s.hif with ltrNoSnoop := value.extractLsb' 0 13 } s else s

/-- CONFIG_WRITE: a write to the physical function wakes the part from cone 1 to cone 3 (R77). -/
def execConfigWrite (fn : BitVec 6) (field : ConfigField) (value : BitVec 32) (s : State) : Answer :=
  let f := fn.toNat
  .next (if !s.fnExists f || decide (s.pwr.cone = 4) || !s.sup.perstN then s
    else
      let s := writeConfig f field value s
      if f = 0 then barWake true s else s)

/-! ### The link (R92, R94, R206, R229, R230, R561, R592, R593) -/

/-- What PCIE_PERST_N low does: the host interface is reset, the VDM and DOE connections go, the suspended export and the VDM
assembly are dropped (R92, R229, R505, R557, R561). The host term returns to its reset value, which may start an exit
(R80). -/
def hostReset (s : State) : State :=
  let s := reevaluateCone (resetHost s)
  let s := resetConn 2 (resetConn 1 s)
  let s := { s with
    side := { s.side with vdm := [], eidVdm := 0, doeReady := false, doeError := false }
    cards := { s.cards with suspended := none } }
  { s with pwr := { s.pwr with rstCause := setBit s.pwr.rstCause 2 true } }

/-- PCIE_PERST_N_ASSERT: event 13. -/
def execPciePerstNAssert (s : State) : Answer :=
  .next (if !s.sup.perstN then s
    else
      let s := { s with sup := { s.sup with perstN := false } }
      if s.pwr.released then hostReset (raiseEvent 13 0 s) else s)

/-- PCIE_PERST_N_RELEASE: PCIE_WAKE_N is released, link training starts. -/
def execPciePerstNRelease (s : State) : Answer :=
  .next (if s.sup.perstN then s
    else
      let s := { s with
        sup := { s.sup with perstN := true }, pins := { s.pins with pcieWake := false }, pwr := { s.pwr with wakeAsked := false } }
      if s.pwr.released then raiseEvent 13 (detail [(2, 0), (2, 0), (4, 1)]) s else s)

/-- The link is lost: event 0 where it was up, event 13, and the reset of the host interface (R206). -/
def loseLink (s : State) : State :=
  let s := if s.hif.linkUp then raiseEvent 0 0 s else s
  hostReset (raiseEvent 13 0 s)

/-- LINK_LOSS. A loss by PCIE_PERST_N is the row of that pin. -/
def execLinkLoss (kind : LinkLossKind) (s : State) : Answer :=
  .next (if !s.pwr.released || !s.hif.linkUp || decide (kind = .perst) then s else loseLink s)

/-- LINK_UP: event 0, and event 1 where rate or width changed. While the test access port holds the balls the link stays
lost (R569). -/
def execLinkUp (rate width : BitVec 8) (s : State) : Answer :=
  let h := s.hif
  .next (if !s.pwr.released || !s.sup.perstN || ballControl s.side.ir then s
    else
      let t := { s with hif := { h with linkUp := true, rate, width, l12 := false, l2 := false } }
      let t := if h.linkUp then t else raiseEvent 0 (detail [(2, 0), (2, 0), (4, 1)]) t
      if h.rate = rate ∧ h.width = width then t
      else raiseEvent 1 (detail [(2, 0), (2, 0), (1, rate.toNat), (1, width.toNat)]) t)

/-- PME_TURN_OFF: the handshake puts the link in L2. -/
def execPmeTurnOff (s : State) : Answer :=
  .next (if s.hif.linkUp then { s with hif := { s.hif with l2 := true, l12 := false } } else s)

/-! ### The test access port (R486, R568, R569) -/

/-- An instruction that takes the balls: the PCIe link counts as lost. -/
def takeBalls (ir : BitVec 8) (s : State) : State :=
  let t := loadIr ir s
  if s.pwr.released && s.hif.linkUp then loseLink t else t

/-- The test access port works while VDD_VAULT is present. -/
def tap (f : State → State) (s : State) : State := if s.sup.vddVault then f s else s

def execExtest (s : State) : Answer := .next (tap (takeBalls 0x00) s)
def execClamp (s : State) : Answer := .next (tap (takeBalls 0x03) s)
def execHighz (s : State) : Answer := .next (tap (takeBalls 0x04) s)

/-- SAMPLE/PRELOAD: the levels of the balls are outside the model; the instruction is in force. -/
def execSamplePreload (s : State) : Answer := .next (tap (loadIr 0x01) s)

/-- IDCODE: the 32 bits of R568 are read out. -/
def execIdcode (s : State) : Answer := .next (tap (fun s => (loadIr 0x02 s).emit (.tapValue 32 idcode)) s)

/-- BYPASS: one bit, 0. -/
def execBypass (s : State) : Answer := .next (tap (fun s => (loadIr 0xFF s).emit (.tapValue 1 0)) s)

/-- COMPUTE_TAP and VAULT_TAP: gated by their rights. -/
def execComputeTap (s : State) : Answer := .next (tap (loadGated 0x20 0) s)
def execVaultTap (s : State) : Answer := .next (tap (loadGated 0x21 1) s)

/-- TRST_N: Test-Logic-Reset, with IDCODE in the instruction register; nothing else changes (R92). -/
def execTrstN (s : State) : Answer := .next (loadIr 0x02 s)

end Sys2Proof.Machine
end

