-- ==== Sys2Proof/WellFormed.lean ====
section
/-! DEFINITION. Which commands are well formed: operands in the ranges the spec gives, lengths that agree. -/

namespace Sys2Proof

/-- Units of a class (R18). -/
def Machine.unitsOf : UnitClass → Nat | .lane => 16 | .service => 28 | .crucible => 160

/-- A request carries as many payload bytes as its LENGTH says, where a route can carry them (R171, R174); ring 0 uses no
Depepa route (R162). -/
def Req.wf (rq : Req) : Bool :=
  (decide (rq.payload.length = rq.length.toNat) || decide (2032 < rq.length.toNat)) &&
    match rq.route with
    | .ring (.service _) r => decide (r ≠ 0)
    | .ring _ r => decide (r = 1)
    | _ => true

/-- A data descriptor comes with the bytes its LENGTH names, or with none where they could not be read (R237). -/
def DataDesc.wf (d : DataDesc) : Bool := d.source.isEmpty || decide (d.source.length = d.length.toNat)

/-- A fetched command belongs to the queue pair it is fetched from (R223). -/
def FetchResult.wf (qp : BitVec 12) : FetchResult → Bool
  | .failed => true
  | .command _ rq => rq.wf && (match rq.route with | .queue q _ => decide (q = qp) | _ => false)
  | .data d => d.wf

/-- A line fault belongs to the event of its source (R419, R429). -/
def LineFault.wf (source : BitVec 16) : LineFault → Bool
  | .none => true
  | .check c _ => decide (source.toNat = 256 + c.toNat / 4)
  | .backlog _ => decide (source = 260)
  | .session i => decide (source = 260) && decide (i.toNat < 2 ^ 23)
  | .handshake i => decide (source = 260) && decide (i.toNat < 2 ^ 22)
  | .pool _ _ _ => decide (source = 261)

/-- A register write names a word. -/
def RegTarget.aligned : RegTarget → Bool
  | .internal _ a => decide (a.toNat % 4 = 0)
  | .host _ _ o => decide (o.toNat % 4 = 0)

/-- The command is well formed. -/
def Instr.wf : Instr → Bool
  | .add _ _ _ _ | .sub _ _ _ _ | .andW _ _ _ _ | .orW _ _ _ _ | .xorW _ _ _ _ | .sll _ _ _ _ | .srl _ _ _ _
  | .sra _ _ _ _ | .slt _ _ _ _ | .sltu _ _ _ _ | .mul _ _ _ _ | .mulhu _ _ _ _ | .mulh _ _ _ _ | .addv _ _ _ _
  | .subv _ _ _ _ | .mulv _ _ _ _ | .div _ _ _ _ | .divu _ _ _ _ | .rem _ _ _ _ | .remu _ _ _ _ | .addi _ _ _ _
  | .andi _ _ _ _ | .ori _ _ _ _ | .xori _ _ _ _ | .slli _ _ _ _ | .srli _ _ _ _ | .srai _ _ _ _ | .slti _ _ _ _
  | .sltiu _ _ _ _ | .addvi _ _ _ _ | .lui _ _ _ | .movi _ _ _ | .mov _ _ _ | .ldw _ _ _ _ _ | .ldh _ _ _ _ _
  | .ldhu _ _ _ _ _ | .ldb _ _ _ _ _ | .ldbu _ _ _ _ _ | .stw _ _ _ _ _ | .sth _ _ _ _ _ | .stb _ _ _ _ _
  | .ldgw _ _ _ _ | .stgw _ _ _ _ | .beq _ _ _ _ | .bne _ _ _ _ | .blt _ _ _ _ | .bge _ _ _ _ | .bltu _ _ _ _
  | .bgeu _ _ _ _ | .beqz _ _ _ _ | .bnez _ _ _ _ | .jmp _ _ | .call _ _ | .jr _ _ | .callr _ _ _ | .ret _ _
  | .callg _ _ _ _ | .retg _ _ | .eret _ _ | .brk _ | .fence _ | .wait _ | .mfs _ _ _ | .mts _ _ _ | .loopi _ _ _ _
  | .loop _ _ _ _ _ | .lclr _ _ _ | .psetl _ _ _ | .pseth _ _ _ | .pget _ _ _ | .pgeth _ _ _ | .paddi _ _ _
  | .padd _ _ _ | .padds _ _ _ | .pmov _ _ _ | .macd _ _ _ _ _ _ _ _ _ | .accclr _ _ | .acclo _ _ _ | .acchi _ _ _
  | .acctop _ _ _ | .accshr _ _ | .accset _ _ _ _ _ | .accadd _ _ _ | .mac _ _ _ _ | .wmacd _ _ _ _ _ _ _ _ _
  | .wmulacc _ _ _ _ | .wsqracc _ _ _ _ | .wload _ _ _ | .wstore _ _ _ | .wslot _ _ _ | .wclr _ _ | .wshr _ _
  | .wget _ _ _ _ | .wput _ _ _ _ | .pairedWord _ _ | .impreciseException _ | .interrupt _ _ | .watchdogNotice _
  | .machineCheckNotice _ _ | .coreReset _ | .heartbeatLapse _ | .supervisorRestart _ _ | .moduleCallTimeout _
  | .dmbCtrl _ _ | .hifQpOwner _ _ | .queueEnable _ | .queueDisable _ | .queueDrainComplete _ | .sqTail _ _ _
  | .cqHead _ _ _ | .tokenGrant | .msixCoalesceTimeout _ | .msixUnmask _ _ | .busMasterTimeout _
  | .functionLevelReset _ | .pciePerstNAssert | .pciePerstNRelease | .linkLoss _ | .configWrite _ _ _
  | .laneJobStart _ | .contextMove _ | .laneJobComplete _ _ | .releaseComplete _ _ | .granuleZeroed _
  | .laneFaultDetected _ _ _ | .clKeyload _ _ | .keyloadDone | .crucibleJobStart | .leaseLimitExpiry _
  | .keyLoadComplete _ _ | .channelFailing _ | .driftCheck _ _ | .retrainStep _ _ | .zqCalibration _
  | .settingsRecordWrite _ | .logReclaim | .spanClose | .recordsReadable | .ackStateJournal | .byteSecondTick
  | .sourceBlock | .startupTestComplete _ | .healthFailure _ _ | .drbgRequestStart | .drbgGenerateComplete _
  | .entTestctl _ _ | .flcProgram _ | .flcErase _ | .programComplete _ | .eraseResume | .backgroundReerase _
  | .unlockLockoutExpiry _ | .tamperLogEntry | .backupDomainStart | .tmpClass _ _ | .porNAssert | .boot _
  | .computeDieRelease | .lifecycleReset | .pwrfailNAssert | .railUndervoltage _ | .powerGoodFall _
  | .commitComplete | .commitStopped | .thermalAlert _ | .throttleStep _ | .thermalTrip _ | .pmbusRetry _ _
  | .pllLossOfLock _ | .pllRelock _ | .crystalLoss | .crystalReturn | .ratioMeasurement _ | .coneEntry
  | .coneEntryComplete | .wake _ | .coneExitComplete | .d2dFlitError | .d2dRetrain | .d2dLinkStart _
  | .lcsHoursTick | .debugSessionExpiry | .custodianPresenceChange _ _ | .cardTimeout _ | .quorumSessionTimeout
  | .archivePresenceChange _ | .kilnBlockWritten _ | .fieldPresent | .fieldLost | .select _ _ _
  | .queryadjust _ _ _ | .queryrep _ | .ack _ | .nak | .reqRn _ | .read _ _ _ _ | .write _ _ _ _ _ _ | .access _ _
  | .invalidCommand | .accessLockoutExpiry | .sessionFlagExpiry _ | .tagPowerUp _ _ | .rowErase _ | .mirrorSnapshot
  | .backupNoAnswer | .sliceStart | .sliceComplete _ _ | .sliceRequestExpiry _ | .bstLinkctl _ _
  | .linkCheckDone _ _ | .recorderSnapshot | .windowExpiry _ | .setEndpointId _ _ | .getEndpointId _
  | .getEndpointUuid _ | .getMctpVersionSupport _ | .getMessageTypeSupport _ | .entdaa _ | .setdasa _ | .setnewda _
  | .rstdaa | .getpid | .getbcr | .getdcr | .getstatus | .getmxds | .enec _ | .disec _ | .getVersion _ _
  | .getCapabilities _ _ | .negotiateAlgorithms _ _ _ _ | .getDigests _ _ | .getCertificate _ _ _ _ _
  | .respondIfReady _ _ | .doeObject _ _ _ | .doeAbort | .extest | .samplePreload | .idcode | .clamp | .highz
  | .computeTap | .vaultTap | .bypass | .trstN | .drainComplete _ | .coneAonLo _ | .clActBytesLo _ _ | .talSeqLo _
  | .talAckedLo _ | .talMinLo _ | .entOutLo _ | .entHostLo _ | .arcNextLo _ | .bstLinkbitsLo _ | .sbiDrops _
  | .coneReserve _ _ | .coneVlimit _ _ | .dmbDoorbell _ _ | .pmeTurnOff | .thermalAlertClear _ | .timingMarginLow _
  | .lockseqCopyWrite | .lockstepMismatch | .mainPowerLoss | .vddHoldInRange => true
  | .sysIdentify rq | .sysGetCaps rq | .sysSetTime rq | .sysResetFunction rq | .sysGetHealth rq | .sagCreate rq
  | .sagDestroy rq | .sagSetPolicy rq | .sagBindQueue rq | .sagQuery rq | .sagSetLatency rq | .keyGenerate rq
  | .keyImportWrapped rq | .keyExportWrapped rq | .keyDerive rq | .keyDestroy rq | .keyQuery rq | .keyRotate rq
  | .keySetChain rq | .sesOpen rq | .sesClose rq | .sesSaveContext rq | .sesRestoreContext rq | .sesQueryUsage rq
  | .pkSign rq | .pkVerify rq | .pkKeypair rq | .pkAgree rq | .pkEncaps rq | .pkDecaps rq | .pkLeaseRaw rq
  | .pkReleaseRaw rq | .hsServerBegin rq | .hsServerContinue rq | .hsClientBegin rq | .hsKeyUpdate rq
  | .hsExportSecret rq | .hsAbort rq | .talRead rq | .talAck rq | .talGetSeal rq | .entGetBytes rq | .entReseed rq
  | .entStatus rq | .cfgRead rq | .cfgWrite rq | .flsProtect rq | .flsUnlockGroup rq | .lcGetState rq
  | .dbgPresentCert rq | .dbgClose rq | .ccpDeactivate rq | .arcExport rq | .arcUnmount rq | .tagRead rq
  | .bstRunSlice rq | .bstStatus rq | .evrOpenWindow rq | .evrRead rq | .evrClear rq | .pwrSetFloor rq
  | .updStage rq | .updActivate rq | .updRollback rq | .unitRetire rq | .modLoad rq | .modUnload rq | .tmpStatus rq
  | .tmpUnlock rq | .tmpSetResponse rq => rq.wf
  | .lcTransition rq _ => rq.wf
  | .ccpActivate rq _ => rq.wf
  | .ccpApdu rq _ => rq.wf
  | .arcMount rq _ => rq.wf
  | .arcImport rq blocks _ => rq.wf && blocks.all fun b => decide (b.length = 4096)
  | .tagWrite rq _ | .tagSetPassword rq _ => rq.wf
  | .pwrStatus rq _ => rq.wf
  | .unitRecalibrate rq _ => rq.wf
  | .modCall rq _ => rq.wf
  | .dataDescriptor _ d => d.wf
  | .mailboxRequestWrite _ offset bytes => decide (1 ≤ bytes.length) && decide (offset.toNat + bytes.length ≤ 2048)
  | .descriptorFetch qp fetch => fetch.wf qp
  | .barUnsupportedRequest _ _ _ size => decide (1 ≤ size) && decide (size ≤ 4096)
  | .crucibleJobComplete crucible _ => decide (crucible.toNat < 160)
  | .crucibleFaultDetected crucible _ _ _ => decide (crucible.toNat < 160)
  | .rawcmdWmulacc _ crucible _ | .rawcmdWsqracc _ crucible _ | .rawcmdWload _ crucible _
  | .rawcmdWstore _ crucible _ | .rawcmdEnd _ crucible _ => decide (crucible.toNat < 160)
  | .rawOperation crucible | .rawFault crucible => decide (crucible.toNat < 160)
  | .handshakeExpiry handshake | .keyupdatePrepare handshake => decide (handshake.toNat < 2 ^ 22)
  | .eraseComplete pulses _ => decide (1 ≤ pulses.toNat)
  | .flashWindowRead _ offset => decide (offset.toNat % 4 = 0)
  | .tamperAlarm d designs _ => decide (d.toNat ≤ 13) && decide (designs ≠ 0)
  | .detectorStimulus d designs => decide (d.toNat ≤ 13) && decide (designs ≠ 0)
  | .pmAlert status _ => decide (status.length = 4)
  | .avsWindow slackPercent _ _ => decide (slackPercent ≤ 100)
  | .meshFlitError a b | .meshLinkReroute a b => decide (a ≠ b)
  | .query _ _ _ q slot => decide (slot.toNat < 2 ^ q.toNat)
  | .blockwrite _ _ data _ _ _ => decide (1 ≤ data.length) && decide (data.length ≤ 255)
  | .spareRotation cls incoming outgoing => decide (incoming.toNat < Machine.unitsOf cls) && decide (outgoing.toNat < Machine.unitsOf cls)
  | .eventRecord source _ fault => decide (1 ≤ source.toNat) && decide (source.toNat ≤ 323) && fault.wf source
  | .histogramSample metric _ => decide (1 ≤ metric.toNat) && decide (metric.toNat ≤ 12)
  | .mctpPacket _ packet => decide (packet.body.length ≤ 64)
  | .challenge _ _ _ nonce _ => decide (nonce.length = 32)
  | .getMeasurements _ _ signed nonce _ => decide (nonce.length = if signed then 32 else 0)
  | .cruActCycLo _ crucible => decide (crucible.toNat < 160)
  | .registerWrite target _ => target.aligned
  | .linkUp rate width => decide (1 ≤ rate.toNat) && decide (rate.toNat ≤ 6) && [1, 2, 4, 8, 16].contains width.toNat
  | .tamperAlarmEnd d => decide (d.toNat ≤ 13)
  | .debugHaltRequest cls unit => decide (unit.toNat < Machine.unitsOf cls)

end Sys2Proof
end

