-- ==== Sys2Proof/Machine/MemLoss.lean ====
section
/-! DEFINITION. EVENT_RECORD, and what the loss of a memory line does in its region (R246, R416, R417, R419, R546). -/

namespace Sys2Proof.Machine

/-- A failed check counts against its channel, a rewritten line too (R416, R429). -/
def countCheck (c : Nat) (rewritten : Bool) (s : State) : State :=
  let m := s.msub
  { s with msub := { m with
      checks := bump 65535 m.checks c, repaired := if rewritten then bump 65535 m.repaired c else m.repaired } }

/-- A session whose table entry is lost is destroyed as by SES_CLOSE, with no command to answer; its message is discarded
(R244, R419). -/
def loseSession (i : Nat) (s : State) : State :=
  let x := s.session i
  if !x.live || x.destroying then s
  else
    let s := s.setSession i { x with destroying := true }
    let uses (j : Job) : Bool := decide (j.session = some i)
    let s := refuseWaiting uses stBadHandle s
    let held := holders uses s
    if held = [] then closeSession i s
    else
      addTask { opcode := 0x8004, silent := true, effected := true, note := [i], work := [.drain held]
                rq := { route := .ring (.service 0) 1, flags := 0, tag := 0, saggar := x.saggar.setWidth 16, reserved := 0
                        length := 0, payload := [], data := [], respAddr := 0, respRoom := 0, dmaFails := false } } s

/-- A handshake whose state is lost ends; a command that ran for it ends with INTERNAL; sessions of a completed connection
remain (R419). -/
def loseShake (i : Nat) (s : State) : State :=
  if !(s.shake i).live then s
  else
    let runs := (s.tasks.filter fun e =>
      (decide (e.2.opcode.toNat / 256 = 6) || decide (e.2.opcode = 0x8002)) && decide (e.2.note.head? = some i)).map (·.1)
    dropShake i (runs.foldl (fun s t => failInternal t 2 s) s)

/-- A lost line of the service data pool: the reading core gets a machine-check notice, and the module call it ran ends with
INTERNAL (R419). -/
def losePool (c : CoreId) (info : BitVec 4) (call : Option Nat) (s : State) : State :=
  let s := s.setCore c { s.core c with machineCheck := some info }
  match call with
  | some t => if (s.task t).opcode = 0x0F12 ∧ (s.task t).work = [.call] then failInternal t 2 s else s
  | none => s

/-- What a line fault does, where the event is of its source. -/
def lineFault (source : BitVec 16) (f : LineFault) (s : State) : State :=
  if !f.wf source then s
  else match f with
  | .none => s
  | .check c rewritten => countCheck c.toNat rewritten s
  | .backlog seq => loseRecord seq s
  | .session i => loseSession i.toNat s
  | .handshake i => loseShake i.toNat s
  | .pool c info call => losePool c info call s

/-- An event of a queue group with CAUSE 2 and STATE 3 whose queue pair is enabled: a completion-entry write of that queue
pair failed (R226, R230, log entry 122). -/
def failedEntry (source : BitVec 16) (detail : BitVec 64) (s : State) : Option Nat :=
  let d := detail.toNat
  let q := d / 2 ^ 16 % 2 ^ 16
  let x := s.qp q
  if q < 4096 ∧ source.toNat = 24 + q / 256 ∧ d / 2 ^ 32 = 0x2300 ∧ d % 2 ^ 16 = x.owner.toNat ∧ x.assigned ∧ x.state = 1 then some q
  else none

/-- EVENT_RECORD: an event of one of the sources 1 to 323 (R32, R33, R546). Event 22 tells of the L1.2 entry and exit of the
link, one of a queue group may tell of a failed write (R226, R230, log entry 122); an event of the memory may tell of the loss
of a line (R419). -/
def execEventRecord (source : BitVec 16) (detail : BitVec 64) (fault : LineFault) (s : State) : Answer :=
  let s := if source = 22 then { s with hif := { s.hif with l12 := decide (detail.toNat / 2 ^ 32 = 0) } } else s
  .next (match failedEntry source detail s with
    | some q => settleCurrent (queueError q 2 s)
    | none =>
      if 1 ≤ source.toNat ∧ source.toNat ≤ 323 then lineFault source fault (raiseEvent source.toNat detail s) else s)

end Sys2Proof.Machine
end

