-- ==== Sys2Proof/Machine/RegFile.lean ====
section
/-! DEFINITION. Block registers as a core reaches them (R6, R7, R34-R36): one read and one write per block, and who may
use them. -/

namespace Sys2Proof.Machine

/-! ### Words -/

/-- A register word of fields given by their lowest bit; every other bit reads 0 (R7). -/
def regWord (fields : List (Nat × Nat)) : Word := BitVec.ofNat 32 (fields.foldl (fun n e => n + e.2 * 2 ^ e.1) 0)

/-- The mask word `i` of numbered units: bit j stands for unit 32 * i + j. -/
def unitWord (p : Nat → Bool) (i : Nat) : Word :=
  BitVec.ofNat 32 ((List.range 32).foldl (fun n j => if p (32 * i + j) then n + 2 ^ j else n) 0)

/-- Bits 31 to 0, and bits 63 to 32, of a counter. -/
def loWord {w : Nat} (v : BitVec w) : Word := v.setWidth 32
def hiWord {w : Nat} (v : BitVec w) : Word := (v >>> 32).setWidth 32

/-- One word of a string of words held as one bit vector. -/
def wordOf {w : Nat} (v : BitVec w) (i : Nat) : Word := (v >>> (32 * i)).setWidth 32

/-- Puts one word of such a string. -/
def putWord {w : Nat} (v : BitVec w) (i : Nat) (x : Word) : BitVec w :=
  BitVec.ofNat w (v.toNat - (wordOf v i).toNat * 2 ^ (32 * i) + x.toNat * 2 ^ (32 * i))

/-- A W1C mask after a write (R6). -/
def clearOnes {w : Nat} (m ones : BitVec w) : BitVec w := m &&& ~~~ones

/-- A W1C bit after a write. -/
def clearBit (b : Bool) (v : Word) (i : Nat) : Bool := b && !v.getLsbD i

/-! ### CONE_ (R96-R98) -/

/-- A term of the tolerance as its register shows it: 0xFFFFF is the largest. -/
def termField (t : Nat) : Nat := min t 0xFFFFF

/-- The saggar that sets the saggar term; 0 where none does. -/
def termSaggar (s : State) : Nat :=
  match s.vault.saggars.find? fun e => e.2.live && s.saggarActive e.1 && decide (e.2.tolerance.toNat = s.saggarTerm) with
  | some e => e.1
  | none => 0

def coneRead (o : Nat) (s : State) : Word × State :=
  let p := s.pwr
  match o with
  | 0x000 => (regWord [(8, p.throttle.toNat), (4, p.target.toNat), (3, p.moving.toNat), (0, p.cone.toNat)], s)
  | 0x004 => (regWord [(20, toleranceSource s), (0, termField s.tolerance)], s)
  | 0x008 => (regWord [(0, termField s.hostTerm)], s)
  | 0x00C => (regWord [(20, termSaggar s), (0, termField s.saggarTerm)], s)
  | 0x010 => (p.floor.setWidth 32, s)
  | 0x014 => (regWord [(8, p.clusters.toNat), (0, p.lanes.toNat)], s)
  | 0x018 => (regWord [(17, p.avsFault.toNat), (16, p.avsOn.toNat), (0, p.setpoint.toNat)], s)
  | 0x01C => (regWord [(16, p.high.toNat), (0, p.low.toNat)], s)
  | 0x020 => (loWord p.aon, { s with pwr := { p with aonHi := hiWord p.aon } })
  | 0x024 => (p.aonHi, s)
  | 0x028 => (regWord [(1, p.crystalOk.toNat), (0, p.scaled.toNat)], s)
  | 0x02C => (p.rstCause.setWidth 32, s)
  | _ => (0, s)

def coneWrite (o : Nat) (v : Word) (s : State) : State :=
  let p := s.pwr
  match o with
  | 0x010 => setFloor (v.setWidth 20) s
  | 0x014 =>
    let clusters : BitVec 5 := v.extractLsb' 8 5
    let lanes : BitVec 4 := v.setWidth 4
    if clusters.toNat ≤ 19 ∧ lanes.toNat ≤ 14 then { s with pwr := { p with clusters, lanes } } else s
  | 0x01C =>
    let high : BitVec 10 := v.extractLsb' 16 10
    let low : BitVec 10 := v.setWidth 10
    if low.toNat ≤ high.toNat then { s with pwr := { p with high, low } } else s
  | 0x02C => { s with pwr := { p with rstCause := clearOnes p.rstCause (v.setWidth 7) } }
  | _ => s

/-! ### HIF_ (R210, R211) -/

/-- The global registers; the queue registers and the mailboxes lie in the windows of the functions (R163, R209). -/
def hifRead (o : Nat) (s : State) : Word :=
  if o = 0 then BitVec.ofNat 32 s.tokensFree
  else if o = 4 then regWord [(5, s.hif.gevecIe.toNat), (0, s.hif.gevecVec.toNat)]
  else if 0x10000 ≤ o ∧ o < 0x14000 ∧ o % 4 = 0 then
    regWord [(31, (s.qp ((o - 0x10000) / 4)).assigned.toNat), (0, (s.qp ((o - 0x10000) / 4)).owner.toNat)]
  else 0

def hifWrite (o : Nat) (v : Word) (s : State) : State :=
  if o = 4 then { s with hif := { s.hif with gevecIe := v.getLsbD 5, gevecVec := v.setWidth 5 } }
  else if 0x10000 ≤ o ∧ o < 0x14000 ∧ o % 4 = 0 then writeQpOwner ((o - 0x10000) / 4) v s
  else s

/-! ### CL_ (R256, R257, R263) -/

/-- The ROLE field of a lane. A halted unit came from the spare role. -/
def roleCode : Role → Nat
  | .active => 0
  | .spare | .debug => 1
  | .retired => 2
  | .leaving | .retiring => 3

def laneRead (n r : Nat) (s : State) : Word × State :=
  let l := s.lane n
  match r with
  | 0x000 => (regWord [(16, l.saggar.toNat), (8, (unitWord (fun i => (mapGet {} l.slots i).valid) 0).toNat % 256),
      (4, roleCode (s.role n)), (3, l.busy.toNat), (0, l.fault.toNat)], s)
  | 0x008 => (loWord l.actBytes, s.setLane n { l with actHi := hiWord l.actBytes })
  | 0x00C => (l.actHi, s)
  | 0x010 => (l.actJobs, s)
  | _ => (0, s)

def clRead (o : Nat) (s : State) : Word × State :=
  let l := s.lanes
  if o = 0 then (regWord [(0, l.spillEn.toNat)], s)
  else if o = 4 then
    (regWord [(16, (unitWord (fun n => decide (n < 16) && decide (s.role n = .retired)) 0).toNat),
      (0, (unitWord (fun n => decide (n < 16) && decide (s.role n = .spare)) 0).toNat)], s)
  else if o = 8 then (BitVec.ofNat 32 l.dieFree, s)
  else if o = 0xC then (BitVec.ofNat 32 l.spillFree, s)
  else if o = 0x120 then (l.keyLoad ||| bit l.done, s)
  else if 0x10000 ≤ o ∧ o < 0x20000 then laneRead ((o - 0x10000) / 0x1000) (o % 0x1000) s
  else (0, s)

def clWrite (o : Nat) (v : Word) (s : State) : State :=
  let l := s.lanes
  if o = 0 then { s with lanes := { l with spillEn := v.getLsbD 0 } }
  else if 0x100 ≤ o ∧ o < 0x120 then { s with lanes := { l with keyWin := mapSet 0 l.keyWin ((o - 0x100) / 4) v } }
  else if o = 0x120 then writeKeyload v s
  else if 0x10000 ≤ o ∧ o < 0x20000 ∧ o % 0x1000 = 0 then
    let n := (o - 0x10000) / 0x1000
    s.setLane n { s.lane n with fault := clearOnes (s.lane n).fault (v.setWidth 3) }
  else s

/-- Who may use a CL_ register: ring 0; the key windows and CL_KEYLOAD are for the control cores' ring 0 and the service
cores' rings 0 and 1; ring 1 reads CL_STATUS. -/
def clMay (c : CoreId) (ring : BitVec 2) (write : Bool) (o : Nat) : Bool :=
  if 0x100 ≤ o ∧ o < 0x124 then
    (if write then (match c with | .control _ => decide (ring = 0) | .service _ => true | .crucible _ => false)
     else decide (ring = 0) || decide (o < 0x120) || (match c with | .service _ => true | _ => false))
  else decide (ring = 0) || (!write && decide (0x10000 ≤ o) && decide (o < 0x20000) && decide (o % 0x1000 = 0))

/-! ### CRU_ (R266, R288-R290, R294) -/

/-- The ROLE field of a crucible. -/
def crucibleRole (n : Nat) (s : State) : Nat :=
  if (s.crucible n).lease.isSome then 5
  else if s.role (1000 + n) = .active ∧ inRaw s n then 4
  else roleCode (s.role (1000 + n))

/-- A write of CRU_RAWCMD queues an operation; the queue takes 64. -/
def queueRaw (n : Nat) (v : Word) (s : State) : State :=
  let x := s.crucible n
  if 64 ≤ x.rawQueue.length then s.setCrucible n { x with overflow := true }
  else
    let o : RawOp := { op := v.setWidth 3, wacc := v.getLsbD 3, selA := x.rawSel.extractLsb' 16 16, selB := x.rawSel.setWidth 16 }
    s.setCrucible n { x with rawQueue := x.rawQueue ++ [o] }

def crucibleRead (n r : Nat) (s : State) : Word × State :=
  let x := s.crucible n
  match r with
  | 0x00 => (regWord [(16, x.saggar.toNat), (8, x.sealRead.toNat), (4, crucibleRole n s), (3, x.busy.toNat), (0, x.fault.toNat)], s)
  | 0x04 => (regWord [(16, slotCount x.slotLen.toNat), (0, x.slotLen.toNat)], s)
  | 0x08 => (x.actOps, s)
  | 0x0C => (loWord x.actCyc, s.setCrucible n { x with actCycHi := hiWord x.actCyc })
  | 0x10 => (x.actCycHi, s)
  | 0x14 => (x.actRaw, s)
  | 0x60 => (x.rawSel, s)
  | 0x68 => (regWord [(16, x.rawQueue.length), (4, x.expired.toNat), (3, x.rawFault.toNat), (2, x.badOp.toNat),
      (1, x.overflow.toNat), (0, (x.rawQueue.isEmpty && !x.busy).toNat)], s)
  | _ =>
    if 0x20 ≤ r ∧ r < 0x40 then (wordOf x.sealed ((r - 0x20) / 4), s)
    else if 0x40 ≤ r ∧ r < 0x60 then (wordOf x.retain ((r - 0x40) / 4), s)
    else (0, s)

def crucibleWrite (n r : Nat) (v : Word) (s : State) : State :=
  let x := s.crucible n
  match r with
  | 0x00 => s.setCrucible n { x with
      sealRead := clearBit x.sealRead v 8, fault := clearOnes x.fault (v.setWidth 3) }
  | 0x04 =>
    let len : BitVec 8 := v.setWidth 8
    if x.busy ∨ len.toNat < 1 ∨ 128 < len.toNat then s else s.setCrucible n { x with slotLen := len }
  | 0x60 => s.setCrucible n { x with rawSel := v }
  | 0x64 => queueRaw n v s
  | 0x68 => s.setCrucible n { x with
      rawFault := clearBit x.rawFault v 3, badOp := clearBit x.badOp v 2, overflow := clearBit x.overflow v 1 }
  | _ =>
    if 0x40 ≤ r ∧ r < 0x60 then s.setCrucible n { x with retain := putWord x.retain ((r - 0x40) / 4) v } else s

/-- The crucible an offset of the CRU_ block names. -/
def crucibleOf (o : Nat) : Option Nat :=
  if 0x10000 ≤ o ∧ o < 0x10000 + 160 * 0x100 then some ((o - 0x10000) / 0x100) else none

def cruRead (o : Nat) (s : State) : Word × State :=
  match crucibleOf o with
  | some n => crucibleRead n (o % 0x100) s
  | none =>
    let mask (p : Nat → Bool) (base : Nat) : Word := unitWord (fun n => decide (n < 160) && p n) ((o - base) / 4)
    if o = 0 then (s.arr.raw.setWidth 32, s)
    else if o = 4 then (BitVec.ofNat 32 (s.arr.queue.filter fun id => (s.job id).token).length, s)
    else if 0x10 ≤ o ∧ o < 0x24 then (mask (fun n => decide (s.role (1000 + n) = .spare)) 0x10, s)
    else if 0x30 ≤ o ∧ o < 0x44 then (mask (fun n => decide (s.role (1000 + n) = .retired)) 0x30, s)
    else if 0x50 ≤ o ∧ o < 0x64 then (mask (fun n => (s.crucible n).lease.isSome) 0x50, s)
    else (0, s)

def cruWrite (o : Nat) (v : Word) (s : State) : State :=
  match crucibleOf o with
  | some n => crucibleWrite n (o % 0x100) v s
  | none => if o = 0 then { s with arr := { s.arr with raw := v.setWidth 20 } } else s

/-- Who may use a CRU_ register: ring 0, and a service core's ring 1 for the lease of the saggar it serves (R288). -/
def cruMay (c : CoreId) (ring : BitVec 2) (write : Bool) (o : Nat) (s : State) : Bool :=
  if ring = 0 then true
  else match c, crucibleOf o with
  | .service _, some n =>
    let r := o % 0x100
    decide (operandRight s c 1 n = .leaseLike) &&
      ((!write && (decide (r = 0) || decide (r = 4) || (decide (0x20 ≤ r) && decide (r < 0x40)))) ||
        (decide (0x40 ≤ r) && decide (r < 0x6C)))
  | _, _ => false

/-! ### KV_, SAG_ (R360), TAL_ (R386), ENT_ (R410), MEM_ (R429), EVR_ (R554) -/

def kvRead (o : Nat) (s : State) : Word :=
  let v := s.vault
  match o with
  | 0x00 => regWord [(4, v.reclaim.toNat), (3, v.roots.toNat), (1, s.bk.lock.toNat), (0, v.kekValid.toNat)]
  | 0x04 => v.epoch.setWidth 32
  | 0x08 => BitVec.ofNat 32 (65536 - s.hotBusy)
  | 0x0C => BitVec.ofNat 32 (2 ^ 24 - s.recordsUsed)
  | 0x10 => BitVec.ofNat 32 (2 ^ 20 - s.extentsUsed)
  | 0x14 => BitVec.ofNat 32 s.hotReserved
  | 0x18 => BitVec.ofNat 32 v.logErased
  | _ => 0

/-- The STATE field of SAG_STATE. -/
def saggarCode (h : Nat) (s : State) : Nat :=
  let g := s.saggar h
  if !g.live then 3 else if g.destroying then 2 else if s.saggarActive h then 0 else 1

def sagRead (o : Nat) (s : State) : Word :=
  let h := s.vault.sagSel.toNat
  let g := s.saggar h
  match o with
  | 0x00 => BitVec.ofNat 32 (mapCount (fun _ g => g.live) s.vault.saggars)
  | 0x04 => s.vault.sagSel.setWidth 32
  | 0x08 => regWord [(16, saggarCode h s), (0, if g.live then g.owner.toNat else 0)]
  | 0x0C => BitVec.ofNat 32 (s.recordsOf h)
  | 0x10 => BitVec.ofNat 32 (s.hotUsed fun k => decide (k.saggar.toNat = h))
  | _ => 0

def sagWrite (o : Nat) (v : Word) (s : State) : State :=
  if o = 4 then { s with vault := { s.vault with sagSel := v.setWidth 12 } } else s

/-- Highest acknowledged sequence number; 0 before the first TAL_ACK (log entry 2). -/
def ackedWord (s : State) : BitVec 64 := s.tal.acked.getD 0

/-- Whole minutes elapsed in the open span. -/
def elapsedMinutes (s : State) : Nat := if s.tal.isOpen then s.minute.toNat - s.tal.first.toNat else 0

def talRead (o : Nat) (s : State) : Word × State :=
  let t := s.tal
  match o with
  | 0x00 => (regWord [(4, t.checkFail.toNat), (3, t.hold.toNat), (2, (decide (t.target = 16)).toNat),
      (1, (decide (s.brokenSeals ≠ 0)).toNat), (0, t.timeSet.toNat)], s)
  | 0x04 => (loWord t.next, { s with tal := { t with seqHi := hiWord t.next } })
  | 0x08 => (t.seqHi, s)
  | 0x0C => (loWord (ackedWord s), { s with tal := { t with ackedHi := hiWord (ackedWord s) } })
  | 0x10 => (t.ackedHi, s)
  | 0x14 => (BitVec.ofNat 32 t.records.length, s)
  | 0x18 => (regWord [(16, t.target), (0, elapsedMinutes s % 32)], s)
  | 0x1C => (loWord t.first, { s with tal := { t with minHi := hiWord t.first } })
  | 0x20 => (t.minHi, s)
  | _ => (0, s)

def talWrite (o : Nat) (v : Word) (s : State) : State :=
  if o = 0 then { s with tal := { s.tal with checkFail := clearBit s.tal.checkFail v 4 } } else s

def entRead (o : Nat) (s : State) : Word × State :=
  let e := s.ent
  match o with
  | 0x00 => (regWord [(16, e.inst), (8, e.failed.toNat), (3, e.recal.toNat), (2, (decide (e.mode ≠ 0)).toNat), (0, e.state.toNat)], s)
  | 0x04 => (BitVec.ofNat 32 e.pool, s)
  | 0x08 => (regWord [(8, e.pair.toNat), (0, e.tests.toNat)], s)
  | 0x0C => (e.fails, s)
  | 0x10 => (loWord e.out, { s with ent := { e with outHi := hiWord e.out } })
  | 0x14 => (e.outHi, s)
  | 0x18 => (loWord e.host, { s with ent := { e with hostHi := hiWord e.host } })
  | 0x1C => (e.hostHi, s)
  | 0x20 => (regWord [(16, (e.parked.filter fun r => !r.internal).length), (0, (e.parked.filter fun r => r.internal).length)], s)
  | 0x30 => (e.mode.setWidth 32, s)
  | _ => (0, s)

def entWrite (o : Nat) (v : Word) (s : State) : State :=
  let e := s.ent
  if o = 8 then { s with ent := { e with tests := clearOnes e.tests (v.setWidth 4) } }
  else if o = 0x30 then writeTestctl v s
  else if 0x40 ≤ o ∧ o < 0x60 then { s with ent := { e with pattern := mapSet 0 e.pattern ((o - 0x40) / 4) v } }
  else s

def memRegRead (o : Nat) (s : State) : Word :=
  let m := s.msub
  let ch := (o - 0x100) / 0x10
  if o = 0 then
    regWord [(16, m.trained.toNat), (12, match m.retrain with | some r => r.channel | none => 0), (11, m.retrain.isSome.toNat),
      (10, m.degraded.toNat)]
  else if o = 4 then m.failing.setWidth 32
  else if o = 8 then BitVec.ofNat 32 ((s.ddrTop - 0x1600000000) / 2 ^ 20)
  else if 0x100 ≤ o ∧ o < 0x200 ∧ o % 16 = 0 then regWord [(16, mapGet 0 m.repaired ch), (0, mapGet 0 m.checks ch)]
  else if 0x100 ≤ o ∧ o < 0x200 ∧ o % 16 = 4 then regWord [(8, mapGet 0 m.failSteps ch), (0, mapGet 0 m.retrains ch)]
  else 0

/-- EVR_ registers; no command starts the branch trace, so TRACE reads 0. -/
def evrRead (o : Nat) (s : State) : Word :=
  match o with
  | 0x04 => s.evr.next
  | 0x08 => s.evr.lost
  | 0x0C => BitVec.ofNat 32 (mapCount (fun _ w => w.isOpen) s.evr.windows)
  | 0x10 => BitVec.ofNat 32 s.evr.log.length
  | _ => 0

/-! ### BST_ (R553) -/

def bstRead (o : Nat) (s : State) : Word × State :=
  let b := s.bst
  match o with
  | 0x00 => (regWord [(24, (b.waiting.filter fun id => !(s.request id).qualify && !(s.request id).scheduled).length),
      (8, b.running.length), (1, (startsHeld s).toNat), (0, b.full.toNat)], s)
  | 0x04 => (b.unqualLane.setWidth 32, s)
  | 0x08 => (b.unqualSvc.setWidth 32, s)
  | 0x40 => (regWord [(8, b.linkLine.toNat), (0, b.linkLink.toNat)], s)
  | 0x44 => (regWord [(3, b.locked.toNat), (2, b.linkDone.toNat), (0, b.pattern.toNat)], s)
  | 0x48 => (loWord b.linkBits, { s with bst := { b with linkBitsHi := hiWord b.linkBits } })
  | 0x4C => (b.linkBitsHi, s)
  | 0x50 => (b.linkErr, s)
  | _ => if 0x10 ≤ o ∧ o < 0x24 then (wordOf b.unqualCru ((o - 0x10) / 4), s) else (0, s)

def bstWrite (o : Nat) (v : Word) (s : State) : State :=
  if o = 0x40 then { s with bst := { s.bst with linkLine := v.extractLsb' 8 5, linkLink := v.setWidth 6 } }
  else if o = 0x44 then writeLinkctl v s
  else s

/-! ### FLC_ (R445, R446) -/

def flcRead (o : Nat) (s : State) : Word :=
  let f := s.flash
  let g := mapGet {} f.groups f.grpSel.toNat
  let phys := physSector f.wearSel.toNat s
  match o with
  | 0x000 => regWord [(20, f.result.toNat), (8, f.lastPulses.toNat), (6, f.err.toNat), (5, f.retired.toNat), (4, f.warn.toNat),
      (3, (decide (f.erasePending ≠ [])).toNat), (2, f.suspended.toNat), (1, f.era.isSome.toNat), (0, f.prog.isSome.toNat)]
  | 0x008 => regWord [(8, f.addr.toNat)]
  | 0x010 => BitVec.ofNat 32 s.sparesFree
  | 0x014 => f.wearSel.setWidth 32
  | 0x018 => regWord [(31, (decide (phys ≠ f.wearSel.toNat)).toNat), (17, mapGet 0 f.pulses phys % 256), (0, mapGet 0 f.counts phys % 131072)]
  | 0x020 => f.grpSel.setWidth 32
  | 0x024 => regWord [(16, g.count.toNat), (0, g.first.toNat)]
  | 0x028 => g.state.setWidth 32
  | _ =>
    if 0x100 ≤ o ∧ o < 0x200 then mapGet 0 f.buf ((o - 0x100) / 4)
    else if 0x400 ≤ o ∧ o < 0x800 then mapGet 0 f.wp ((o - 0x400) / 4)
    else 0

/-- Changes the registers of the group that FLC_GRPSEL names, unless a program is in progress; the group table keeps what it
held (R445, R446). -/
def writeGroup (f : FlashGroup → FlashGroup) (s : State) : State :=
  if s.flash.prog.isSome then s
  else { s with flash := { s.flash with groups := mapMod {} s.flash.groups s.flash.grpSel.toNat fun g =>
    { f g with table := some (g.table.getD (g.first, g.count, g.state)) } } }

def flcWrite (o : Nat) (v : Word) (s : State) : State :=
  let f := s.flash
  match o with
  | 0x000 => { s with flash := { f with
      err := clearBit f.err v 6, retired := clearBit f.retired v 5, warn := clearBit f.warn v 4 } }
  | 0x004 => flashCommand (v.toNat % 4) s
  | 0x008 => if f.prog.isSome then s else { s with flash := { f with addr := v.extractLsb' 8 17 } }
  | 0x014 => { s with flash := { f with wearSel := v.setWidth 13 } }
  | 0x020 => { s with flash := { f with grpSel := v.setWidth 6 } }
  | 0x024 =>
    let first : BitVec 12 := v.setWidth 12
    let count : BitVec 12 := v.extractLsb' 16 12
    if 3776 < first.toNat + count.toNat then s else writeGroup (fun g => { g with first, count }) s
  | 0x028 => writeGroup (fun g => { g with state := v.setWidth 2 }) s
  | _ =>
    if 0x100 ≤ o ∧ o < 0x200 then
      (if f.prog.isSome then s else { s with flash := { f with buf := mapSet 0 f.buf ((o - 0x100) / 4) v } })
    else if 0x400 ≤ o ∧ o < 0x800 then
      { s with flash := { f with wp := mapMod 0 f.wp ((o - 0x400) / 4) fun w => w ||| v } }
    else s

/-! ### TMP_ (R470), LCS_ (R487) -/

def tmpRead (o : Nat) (s : State) : Word :=
  let b := s.bk
  match o with
  | 0x00 => regWord [(5, b.lost.toNat), (4, b.disarmed.toNat), (3, s.custodians.isSome.toNat), (0, b.lock.toNat)]
  | 0x04 => s.tmpActive.setWidth 32
  | 0x08 => s.tmpLatch.setWidth 32
  | 0x0C => b.fuseDis.setWidth 32
  | 0x10 => b.classes.setWidth 32
  | 0x14 => regWord [(16, b.lockseq.toNat), (0, b.log.length)]
  | 0x18 => regWord [(16, b.designB.toNat), (0, b.designA.toNat)]
  | _ => 0

/-- TMP_LATCH: a 1 written to a bit of class 1 or 2 has no effect while the part is locked. -/
def clearLatch (v : Word) (b : Backup) : Backup :=
  { b with latch := clearOnes b.latch (detectorMask fun d => v.getLsbD d && (decide (b.lock = 0) || decide (b.cls d = 0))) }

def tmpWrite (o : Nat) (v : Word) (s : State) : State :=
  match o with
  | 0x08 => { s with bk := clearLatch v s.bk }
  | 0x10 => writeClass v s
  | _ => s

def lcsRead (o : Nat) (s : State) : Word :=
  let l := s.lcs
  match o with
  | 0x00 => regWord [(9, l.rootDis.toNat), (8, l.marginErr.toNat), (0, l.state.toNat)]
  | 0x04 => regWord [(1, l.signer.toNat), (0, l.isOpen.toNat)]
  | 0x08 => l.rights.setWidth 32
  | 0x20 => l.hours
  | 0x24 => l.cycles
  | _ =>
    if 0x10 ≤ o ∧ o < 0x20 then wordOf l.nonce ((o - 0x10) / 4)
    else if 0x40 ≤ o ∧ o < 0x58 then wordOf l.otpA ((o - 0x40) / 4)
    else if 0x58 ≤ o ∧ o < 0x70 then wordOf l.otpB ((o - 0x58) / 4)
    else 0

/-! ### SBI_ (R570), CCP_ and ARC_ (R509), TAG_ (R530) -/

/-- A sideband command or an SPDM request is being served. -/
def sidebandBusy (s : State) : Bool :=
  (s.tasks.any fun e => match e.2.rq.route with | .sideband _ _ => true | _ => false) || !s.side.waiting.isEmpty ||
    s.side.conns.any fun e => e.2.serving.isSome || e.2.deferred.isSome

/-- A read of SBI_DROPS clears it. -/
def sbiRead (o : Nat) (s : State) : Word × State :=
  let b := s.side
  match o with
  | 0x00 => (regWord [(8, b.dynAddr.toNat), (2, (ballControl b.ir).toNat), (1, (sidebandBusy s).toNat), (0, b.i3c.toNat)], s)
  | 0x04 => (regWord [(8, b.eidVdm.toNat), (0, b.eidWire.toNat)], s)
  | 0x08 => (b.drops, { s with side := { b with drops := 0 } })
  | _ => (0, s)

def ccpRead (o : Nat) (s : State) : Word :=
  let port (n : Nat) : Word :=
    let p := s.port n
    regWord [(16, p.fidi.toNat), (9, p.t1.toNat), (8, p.classC.toNat), (5, p.failed.toNat), (4, p.removed.toNat), (3, p.quorum.toNat),
      (2, (portBusy n s).toNat), (0, if p.isOn then 3 else if p.present && !p.out then 1 else 0)]
  match o with
  | 0x0 => port 0
  | 0x4 => port 1
  | 0x8 => regWord [(31, s.cards.isOpen.toNat), (0, s.cards.collected.toNat)]
  | _ => 0

def ccpWrite (o : Nat) (v : Word) (s : State) : State :=
  let n := o / 4
  if o = 0 ∨ o = 4 then
    s.setPort n { s.port n with failed := clearBit (s.port n).failed v 5, removed := clearBit (s.port n).removed v 4 }
  else s

/-- ARC_ registers; an import is one step, so IMPORTING reads 0. -/
def arcRead (o : Nat) (s : State) : Word × State :=
  let c := s.cards
  match o with
  | 0x0 => (regWord [(10, c.mode.toNat), (8, c.suspended.isSome.toNat), (5, c.crcErr.toNat), (4, c.removed.toNat), (3, s.exporting.toNat),
      (0, if c.mounted then 3 else if c.present then 1 else 0)], s)
  | 0x4 => (loWord c.next, { s with cards := { c with nextHi := hiWord c.next } })
  | 0x8 => (c.nextHi, s)
  | _ => (0, s)

def arcWrite (o : Nat) (v : Word) (s : State) : State :=
  if o = 0 then
    { s with cards := { s.cards with crcErr := clearBit s.cards.crcErr v 5, removed := clearBit s.cards.removed v 4 } }
  else s

/-- TAG_ registers; a change is one step, so WSTEP and FIELDCMD read 0. -/
def tagRead (o : Nat) (s : State) : Word :=
  let t := s.tag
  match o with
  | 0x0 => regWord [(24, t.erased.length), (4, t.recovered.toNat), (3, t.pwdFail.toNat), (2, t.fieldWrite.toNat), (0, t.field.toNat)]
  | 0x4 => t.commits.setWidth 32
  | 0x8 => t.pwdFails.setWidth 32
  | _ => 0

def tagRegWrite (o : Nat) (v : Word) (s : State) : State :=
  let t := s.tag
  if o = 0 then s.withTag { t with
    recovered := clearBit t.recovered v 4, pwdFail := clearBit t.pwdFail v 3, fieldWrite := clearBit t.fieldWrite v 2 }
  else s

/-! ### The blocks (R35) and who may use them -/

/-- The read of offset `o` of the block at base `b` MiB. -/
def blockRead (b o : Nat) (s : State) : Word × State :=
  match b with
  | 0x10 => (hifRead o s, s)
  | 0x13 => clRead o s
  | 0x14 => cruRead o s
  | 0x15 => (kvRead o s, s)
  | 0x16 => (sagRead o s, s)
  | 0x17 => talRead o s
  | 0x18 => (memRegRead o s, s)
  | 0x19 => coneRead o s
  | 0x1A => bstRead o s
  | 0x1B => (evrRead o s, s)
  | 0x1C => entRead o s
  | 0x20 => (flcRead o s, s)
  | 0x21 => (tmpRead o s, s)
  | 0x22 => (lcsRead o s, s)
  | 0x23 => sbiRead o s
  | 0x24 => (ccpRead o s, s)
  | 0x25 => arcRead o s
  | 0x26 => (tagRead o s, s)
  | _ => (0, s)

/-- The write of a word to offset `o` of the block at base `b` MiB. -/
def blockWrite (b o : Nat) (v : Word) (s : State) : State :=
  match b with
  | 0x10 => hifWrite o v s
  | 0x13 => clWrite o v s
  | 0x14 => cruWrite o v s
  | 0x16 => sagWrite o v s
  | 0x17 => talWrite o v s
  | 0x19 => coneWrite o v s
  | 0x1A => bstWrite o v s
  | 0x1C => entWrite o v s
  | 0x20 => flcWrite o v s
  | 0x21 => tmpWrite o v s
  | 0x24 => ccpWrite o v s
  | 0x25 => arcWrite o v s
  | 0x26 => tagRegWrite o v s
  | _ => s

/-- A core in a ring may use a register: ring 0 but for the lane key windows; ring 1 reads KV_, SAG_, TAL_, ENT_, MEM_ and
EVR_, and has the grants of R256, R263 and R294. -/
def blockMay (c : CoreId) (ring : BitVec 2) (write : Bool) (b o : Nat) (s : State) : Bool :=
  match b with
  | 0x13 => clMay c ring write o
  | 0x14 => cruMay c ring write o s
  | 0x15 | 0x16 | 0x17 | 0x18 | 0x1B | 0x1C => decide (ring = 0) || !write
  | _ => decide (ring = 0)

/-- A core in a ring reads the block register at an address: the word and the state after the read; none is a bus
error (R36). -/
def coreRegRead (c : CoreId) (ring : BitVec 2) (a : Nat) (s : State) : Option (Word × State) :=
  let b := a / 0x100000
  let o := a % 0x100000
  if blockMay c ring false b o s then some (blockRead b o s) else none

/-- A core in a ring writes the block register at an address; none is a bus error (R36). -/
def coreRegWrite (c : CoreId) (ring : BitVec 2) (a : Nat) (v : Word) (s : State) : Option State :=
  let b := a / 0x100000
  let o := a % 0x100000
  if blockMay c ring true b o s then some (blockWrite b o v s) else none

/-- Bytes of the flash read window (R34, R436). -/
def flashWindowBytes (off n : Nat) (s : State) : Option (List Byte × State) := some (windowRead off n s)

end Sys2Proof.Machine
end

