-- ==== Sys2Proof/Machine/Operands.lean ====
section
/-! DEFINITION. Every way a word reaches memory: loads and stores by address, the pointer modes, the banks of MACD,
the slot selectors of the W extension. -/

namespace Sys2Proof.Machine

/-! ### Loads and stores by address (R34, R36, R128, R143) -/

/-- What a load brought: its bytes and the state after it, or the INFO of an access fault. -/
abbrev LoadRes := Except (BitVec 4) (List Byte × State)

/-- Bytes of the control ROM. -/
def romBytes (a n : Nat) : List Byte := (List.range n).map fun j => Config.romByte (a + j)

/-- Loads `n` bytes at an address in a ring (R143): the address map first, then the protection unit, then the rules of
operand memory. -/
def loadBytes (c : CoreId) (ring : BitVec 2) (a : Addr) (n : Nat) (s : State) : LoadRes :=
  let k := s.core c
  let ad := a.toNat
  let target := mapTarget c ring s.ddrTop ad
  if target = .nothing then .error 0
  else if !mpuGrant k ring 0 ad n then .error 1
  else match target with
  | .rom => .ok (romBytes ad n, s)
  | .ram => .ok (memRead 0 s.mem ad n, s)
  | .flash =>
    match flashWindowBytes (ad - 0x4000000) n s with
    | some r => .ok r
    | none => .error 0
  | .operand m off =>
    match operandRight s c ring m with
    | .refused => .error 0
    | right =>
      let r := operandRead s m off n right
      .ok (r.1, if r.2 then markSealRead m right s else s)
  | _ =>
    match coreRegRead c ring (ad / 4 * 4) s with
    | some (w, s') => .ok (sliceBytes (leBytes 4 w.toNat) (ad % 4) n, s')
    | none => .error 0

/-- A register word with the bytes of a narrower store put in (log entry 10). -/
def mergeBytes (old : Word) (at_ : Nat) (bs : List Byte) : Word :=
  BitVec.ofNat 32 (leNat (((leBytes 4 old.toNat).take at_) ++ bs ++ ((leBytes 4 old.toNat).drop (at_ + bs.length))))

/-- Stores bytes at an address in a ring, or the INFO of the access fault. -/
def storeBytes (c : CoreId) (ring : BitVec 2) (a : Addr) (bs : List Byte) (s : State) : Except (BitVec 4) State :=
  let k := s.core c
  let ad := a.toNat
  let target := mapTarget c ring s.ddrTop ad
  if target = .nothing ∨ target = .rom ∨ target = .flash then .error 0
  else if !mpuGrant k ring 1 ad bs.length then .error 1
  else match target with
  | .ram => .ok { s with mem := memWrite 0 s.mem ad bs }
  | .operand m off =>
    match operandRight s c ring m with
    | .refused => .error 0
    | .full => .ok { s with mem := memWrite 0 s.mem ad bs }
    | .dispatcher =>
      if (List.range bs.length).any fun j => byteSealed (s.crucible m) (off + j) then .error 2
      else .ok { s with mem := memWrite 0 s.mem ad bs }
    | .leaseLike =>
      let s' := { s with mem := operandStore (s.crucible m) m off bs s.mem }
      .ok (if (List.range bs.length).any fun j => byteSealed (s.crucible m) (off + j) then markSealRead m .leaseLike s' else s')
  | _ =>
    if bs.length = 4 then
      match coreRegWrite c ring ad (BitVec.ofNat 32 (leNat bs)) s with
      | some s' => .ok s'
      | none => .error 0
    else match coreRegRead c ring (ad / 4 * 4) s with
      | some (old, s') =>
        match coreRegWrite c ring (ad / 4 * 4) (mergeBytes old (ad % 4) bs) s' with
        | some s'' => .ok s''
        | none => .error 0
      | none => .error 0

/-! ### Pointer modes (R108, R111) -/

/-- The LM mode: the address and the increment, none for a reserved code. -/
def lmMode (k : Thrower) (p mode : BitVec 3) (disp : BitVec 13) (size : Nat) : Option (Addr × Option Int) :=
  match mode.toNat with
  | 0 => some (k.ptr p + disp.signExtend 40, none)
  | 1 => some (k.ptr p, some size)
  | 2 => some (k.ptr p, some (-(size : Int)))
  | 3 => some (k.ptr p, some disp.toInt)
  | 4 => some (k.ptr p, some (k.stride p))
  | _ => none

/-- The update of a pointer by an optional increment. -/
def Thrower.bumpOpt (k : Thrower) (p : BitVec 3) : Option Int → Thrower
  | none => k
  | some inc => k.bump p inc

/-- The increment an LA update code selects for an element size; none for a reserved code (R108). -/
def laUpdate (k : Thrower) (p code : BitVec 3) (element : Nat) : Option (Option Int) :=
  match code.toNat with
  | 0 => some none
  | 1 => some (some element)
  | 2 => some (some (-(element : Int)))
  | 3 => some (some (k.stride p))
  | _ => none

/-! ### The banks of a core's own memory (R100, R124) -/

/-- The first address of a core's own memory and the size of one bank. -/
def ownMemory : CoreId → Nat × Nat
  | .control k => (0x21000000 + k.val * 0x100000, 0x80000)
  | .service n => (0x20000000 + n.val * 0x40000, 0x20000)
  | .crucible n => (0x30000000 + n.val * 0x10000, 0x8000)

/-- `n` bytes from `a` lie in bank X (false) or bank Y (true), aligned to `align`. -/
def inBank (c : CoreId) (y : Bool) (a n align : Nat) : Bool :=
  let m := ownMemory c
  let lo := m.1 + (if y then m.2 else 0)
  decide (lo ≤ a) && decide (a + n ≤ lo + m.2) && decide (a % align = 0)

/-! ### Slot selectors (R126, R127) -/

end Sys2Proof.Machine
end

