-- ==== Sys2Proof/Machine/RegRows.lean ====
section
/-! DEFINITION. Accesses to block registers by a core, and register writes by the host (R6, R34-R36, R96, R97, R163, R207-R219,
R257, R263, R289, R294, R386, R407, R410, R433-R436, R459, R509, R553, R570). -/

namespace Sys2Proof.Machine

/-! ### Accesses of a core -/

/-- A core makes an access: nothing where it executes nothing, an access fault where the access is refused (R143). -/
def coreAccess (c : CoreId) (a : Addr) (access : State → Except (BitVec 4) State) (s : State) : State :=
  let k := s.core c
  if !k.running || k.halted || k.waiting then s
  else match access s with
  | .ok s' => s'
  | .error i => raise c causeAccess i a s

/-- A core stores a word to a register in the ring it executes in. -/
def coreStore (c : CoreId) (a : Addr) (v : Word) (s : State) : State :=
  coreAccess c a (storeBytes c (s.core c).ring a (leBytes 4 v.toNat)) s

/-- A core loads a word from an address in the ring it executes in; what it does with the word is its own. -/
def coreLoad (c : CoreId) (a : Addr) (s : State) : State :=
  coreAccess c a (fun s => (loadBytes c (s.core c).ring a 4 s).map (·.2)) s

/-- CL_KEYLOAD: the copy of the key windows into a lane slot starts (R257). -/
def execClKeyload (c : CoreId) (value : BitVec 32) (s : State) : Answer := .next (coreStore c 0x1300120 value s)

/-- The address of a register of a crucible. -/
def crucibleReg (crucible : BitVec 8) (r : Nat) : Addr := BitVec.ofNat 40 (0x1410000 + crucible.toNat * 0x100 + r)

/-- A write of CRU_RAWCMD. -/
def rawCommand (op : Nat) (c : CoreId) (crucible : BitVec 8) (wacc : BitVec 1) (s : State) : State :=
  coreStore c (crucibleReg crucible 0x64) (BitVec.ofNat 32 (op + 8 * wacc.toNat)) s

/-- CRU_RAWCMD with OP 0 to 4 (R289, R290). -/
def execRawcmdWmulacc (c : CoreId) (crucible : BitVec 8) (wacc : BitVec 1) (s : State) : Answer :=
  .next (rawCommand 0 c crucible wacc s)
def execRawcmdWsqracc (c : CoreId) (crucible : BitVec 8) (wacc : BitVec 1) (s : State) : Answer :=
  .next (rawCommand 1 c crucible wacc s)
def execRawcmdWload (c : CoreId) (crucible : BitVec 8) (wacc : BitVec 1) (s : State) : Answer :=
  .next (rawCommand 2 c crucible wacc s)
def execRawcmdWstore (c : CoreId) (crucible : BitVec 8) (wacc : BitVec 1) (s : State) : Answer :=
  .next (rawCommand 3 c crucible wacc s)
def execRawcmdEnd (c : CoreId) (crucible : BitVec 8) (wacc : BitVec 1) (s : State) : Answer :=
  .next (rawCommand 4 c crucible wacc s)

/-- ENT_TESTCTL (R407, R408). -/
def execEntTestctl (c : CoreId) (value : BitVec 32) (s : State) : Answer := .next (coreStore c 0x1C00030 value s)

/-- FLC_CMD with OP 1 and 2 (R433, R435). -/
def execFlcProgram (c : CoreId) (s : State) : Answer := .next (coreStore c 0x2000004 1 s)
def execFlcErase (c : CoreId) (s : State) : Answer := .next (coreStore c 0x2000004 2 s)

/-- A load from the flash read window (R34, R436); a misaligned address is an alignment fault. -/
def execFlashWindowRead (c : CoreId) (offset : BitVec 25) (s : State) : Answer :=
  let a : Addr := 0x4000000 + offset.setWidth 40
  .next (if a.toNat % 4 = 0 then coreLoad c a s
    else if (s.core c).running && !(s.core c).halted && !(s.core c).waiting then raise c causeAlign 0 a s else s)

/-- TMP_CLASS (R459). -/
def execTmpClass (c : CoreId) (value : BitVec 32) (s : State) : Answer := .next (coreStore c 0x2100010 value s)

/-- BST_LINKCTL (R553). -/
def execBstLinkctl (c : CoreId) (value : BitVec 32) (s : State) : Answer := .next (coreStore c 0x1A00044 value s)

/-- Reads of the low word of a counter latch its high word (R97, R263, R294, R386, R410, R509, R553). -/
def execConeAonLo (c : CoreId) (s : State) : Answer := .next (coreLoad c 0x1900020 s)
def execClActBytesLo (c : CoreId) (lane : BitVec 4) (s : State) : Answer :=
  .next (coreLoad c (BitVec.ofNat 40 (0x1310008 + lane.toNat * 0x1000)) s)
def execCruActCycLo (c : CoreId) (crucible : BitVec 8) (s : State) : Answer := .next (coreLoad c (crucibleReg crucible 0xC) s)
def execTalSeqLo (c : CoreId) (s : State) : Answer := .next (coreLoad c 0x1700004 s)
def execTalAckedLo (c : CoreId) (s : State) : Answer := .next (coreLoad c 0x170000C s)
def execTalMinLo (c : CoreId) (s : State) : Answer := .next (coreLoad c 0x170001C s)
def execEntOutLo (c : CoreId) (s : State) : Answer := .next (coreLoad c 0x1C00010 s)
def execEntHostLo (c : CoreId) (s : State) : Answer := .next (coreLoad c 0x1C00018 s)
def execArcNextLo (c : CoreId) (s : State) : Answer := .next (coreLoad c 0x2500004 s)
def execBstLinkbitsLo (c : CoreId) (s : State) : Answer := .next (coreLoad c 0x1A00048 s)

/-- A read of SBI_DROPS clears it (R570). -/
def execSbiDrops (c : CoreId) (s : State) : Answer := .next (coreLoad c 0x2300008 s)

/-- CONE_RESERVE and CONE_VLIMIT (R97). -/
def execConeReserve (c : CoreId) (value : BitVec 32) (s : State) : Answer := .next (coreStore c 0x1900014 value s)
def execConeVlimit (c : CoreId) (value : BitVec 32) (s : State) : Answer := .next (coreStore c 0x190001C value s)

/-! ### Register writes of the host (R163, R207-R219, R227) -/

/-- Changes the queue pair that HIF_QSEL of a function names, where it is the function's. -/
def onSelected (f : Nat) (g : Nat → State → State) (s : State) : State :=
  match selected f s with
  | some q => g q s
  | none => s

/-- A field that may change only while the queue pair is DISABLED (R213). -/
def whenDisabled (g : QueuePair → QueuePair) (q : Nat) (s : State) : State :=
  if (s.qp q).state = 0 then s.setQp q (g (s.qp q)) else s

/-- One word of a 64-bit address; the low one keeps bits 31 to `low`. -/
def putLo (low : Nat) (a : BitVec 64) (v : Word) : BitVec 64 := BitVec.ofNat 64 (a.toNat / 2 ^ 32 * 2 ^ 32 + v.toNat / 2 ^ low * 2 ^ low)
def putHi (a : BitVec 64) (v : Word) : BitVec 64 := BitVec.ofNat 64 (v.toNat * 2 ^ 32 + a.toNat % 2 ^ 32)

/-- The queue registers of a window (R212-R214). -/
def queueRegWrite (f w : Nat) (v : Word) (s : State) : State :=
  match w with
  | 0x2000 => s.setFn f { s.fn f with qsel := v.setWidth 12 }
  | 0x2008 => onSelected f (whenDisabled fun x => { x with sqBase := putLo 12 x.sqBase v }) s
  | 0x200C => onSelected f (whenDisabled fun x => { x with sqBase := putHi x.sqBase v }) s
  | 0x2010 => onSelected f (whenDisabled fun x => { x with cqBase := putLo 12 x.cqBase v }) s
  | 0x2014 => onSelected f (whenDisabled fun x => { x with cqBase := putHi x.cqBase v }) s
  | 0x2018 => onSelected f (whenDisabled fun x => { x with credits := v.extractLsb' 16 12, size := v.setWidth 4 }) s
  | 0x201C => onSelected f (fun q s => s.setQp q { s.qp q with
      time := v.extractLsb' 16 10, count := v.extractLsb' 8 8, ie := v.getLsbD 5, vector := v.setWidth 5 }) s
  | 0x2020 => onSelected f (if v.getLsbD 0 then enableQueue else disableQueue) s
  | _ => s

/-- One word of the MSI-X table (R227): address, data, and the mask bit of the vector control word. -/
def msixWrite (f i r : Nat) (v : Word) (s : State) : State :=
  let put (g : MsixEntry → MsixEntry) : State := s.setFn f { s.fn f with msix := mapMod {} (s.fn f).msix i g }
  match r with
  | 0 => put fun e => { e with address := putLo 2 e.address v }
  | 4 => put fun e => { e with address := putHi e.address v }
  | 8 => put fun e => { e with data := v }
  | _ => if v.getLsbD 0 then put fun e => { e with masked := true } else unmask f i s

/-- The window of a function (R163, R209). -/
def windowWrite (f w : Nat) (v : Word) (s : State) : State :=
  if w < 0x800 then writeRequest f w (leBytes 4 v.toNat) s
  else if w = 0x1000 then writeDoorbell f v s
  else if w = 0x1004 then
    s.setBox f { s.box f with overrun := clearBit (s.box f).overrun v 6, pageErr := clearBit (s.box f).pageErr v 5 }
  else if w = 0x1008 then writeDmbCtrl f v s
  else if w < 0x8000 then queueRegWrite f w v s
  else if w < 0x8200 then msixWrite f ((w - 0x8000) / 16) (w % 16) v s
  else s

/-- BAR0 of a function: the physical function has the global registers and, from 0x40000 on, its window. -/
def bar0Write (f o : Nat) (v : Word) (s : State) : State :=
  if f ≠ 0 then (if o < 0x10000 then windowWrite f o v s else s)
  else if o < 0x40000 then hifWrite o v s
  else if o < 0x50000 then windowWrite 0 (o - 0x40000) v s
  else s

/-- BAR2 of a function: slot q holds SQ_TAIL and CQ_HEAD. -/
def bar2Write (f o : Nat) (v : Word) (s : State) : State :=
  let q := o / 64
  if 4096 ≤ q ∨ !queueOf f q s then s
  else if o % 64 = 0 then writeSqTail q v s
  else if o % 64 = 4 then writeCqHead q v s
  else s

/-- REGISTER_WRITE: an aligned word written to a register by a core, or through a BAR by the host. -/
def execRegisterWrite (target : RegTarget) (value : BitVec 32) (s : State) : Answer :=
  .next (match target with
    | .internal c a =>
      if a.toNat % 4 = 0 then coreStore c a value s
      else if (s.core c).running && !(s.core c).halted && !(s.core c).waiting then raise c causeAlign 0 a s else s
    | .host fn bar2 offset =>
      let f := fn.toNat
      let o := offset.toNat
      if !barReaches f s || decide (o % 4 ≠ 0) then s
      else if bar2 then bar2Write f o value (barWake true s)
      else bar0Write f o value (barWake (decide (o = if f = 0 then 0x41000 else 0x1000)) s))

end Sys2Proof.Machine
end

