-- ==== Sys2Proof/Machine/Flags.lean ====
section
/-! DEFINITION. The Thrower core keeps no condition flags (R116); this file holds what takes their place: the branch
conditions, and the arithmetic exceptions with the values written where they are imprecise (R132, R133). -/

namespace Sys2Proof.Machine

/-- An exact signed result fits in 32 bits. -/
def fitsWord (r : Int) : Bool := decide (-(2 ^ 31) ≤ r) && decide (r < 2 ^ 31)

/-- A checked signed result (ADDV, SUBV, MULV, ADDVI): with st.PX set an overflow is precise and the destination is
unchanged; without it the low 32 bits are written and the exception is imprecise. -/
def checkedResult (rd : BitVec 5) (r : Int) (k : Thrower) : OpRes :=
  if fitsWord r then .core (k.setG rd (BitVec.ofInt 32 r))
  else if k.px then .trap causeOverflow 0 0
  else .arith (k.setG rd (BitVec.ofInt 32 r)) causeOverflow

/-- A division: `whenZero` is what an imprecise zero divisor writes. -/
def divideResult (rd : BitVec 5) (divisor whenZero quotient : Word) (k : Thrower) : OpRes :=
  if divisor ≠ 0 then .core (k.setG rd quotient)
  else if k.px then .trap causeDivide 0 0
  else .arith (k.setG rd whenZero) causeDivide

/-- The compare conditions of R116. -/
def condEq (a b : Word) : Bool := decide (a = b)
def condNe (a b : Word) : Bool := decide (a ≠ b)
def condLt (a b : Word) : Bool := a.slt b
def condGe (a b : Word) : Bool := !a.slt b
def condLtu (a b : Word) : Bool := a.ult b
def condGeu (a b : Word) : Bool := !a.ult b

end Sys2Proof.Machine
end

