-- ==== Sys2Proof/Machine/ThrAlu.lean ====
section
/-! DEFINITION. The arithmetic, pointer and accumulator operations of a Thrower core (R103, R109, R110, R124, R132). -/

namespace Sys2Proof.Machine

/-- A register operation: rd = f rs1 rs2. -/
def aluOp (rd rs1 rs2 : BitVec 5) (f : Word → Word → Word) (k : Thrower) (_ : State) : OpRes :=
  .core (k.setG rd (f (k.greg rs1) (k.greg rs2)))

/-- An immediate operation: rd = f rs1. -/
def aluImm (rd rs1 : BitVec 5) (f : Word → Word) (k : Thrower) (_ : State) : OpRes :=
  .core (k.setG rd (f (k.greg rs1)))

/-- A shift by an immediate: imm14[13:5] must be 0. -/
def shiftImm (rd rs1 : BitVec 5) (imm : BitVec 14) (f : Word → Nat → Word) (k : Thrower) (_ : State) : OpRes :=
  if 32 ≤ imm.toNat then .trap causeIllegal 0 0 else .core (k.setG rd (f (k.greg rs1) imm.toNat))

/-- The amount of a shift by a register. -/
def shiftAmount (w : Word) : Nat := w.toNat % 32

/-- One bit as a register value. -/
def boolWord (b : Bool) : Word := if b then 1 else 0

/-- High 32 bits of the unsigned and of the signed 64-bit product. -/
def mulHighU (a b : Word) : Word := BitVec.ofNat 32 (a.toNat * b.toNat / 2 ^ 32)
def mulHighS (a b : Word) : Word := BitVec.ofInt 32 (a.toInt * b.toInt / 2 ^ 32)

/-- ADD (R110). -/
def execAdd (c : CoreId) (rd rs1 rs2 : BitVec 5) (s : State) : Answer :=
  .next (issue c .plain (aluOp rd rs1 rs2 (fun a b => a + b)) s)

/-- SUB (R110). -/
def execSub (c : CoreId) (rd rs1 rs2 : BitVec 5) (s : State) : Answer :=
  .next (issue c .plain (aluOp rd rs1 rs2 (fun a b => a - b)) s)

/-- AND (R110). -/
def execAnd (c : CoreId) (rd rs1 rs2 : BitVec 5) (s : State) : Answer :=
  .next (issue c .plain (aluOp rd rs1 rs2 (fun a b => a &&& b)) s)

/-- OR (R110). -/
def execOr (c : CoreId) (rd rs1 rs2 : BitVec 5) (s : State) : Answer :=
  .next (issue c .plain (aluOp rd rs1 rs2 (fun a b => a ||| b)) s)

/-- XOR (R110). -/
def execXor (c : CoreId) (rd rs1 rs2 : BitVec 5) (s : State) : Answer :=
  .next (issue c .plain (aluOp rd rs1 rs2 (fun a b => a ^^^ b)) s)

/-- SLL (R110). -/
def execSll (c : CoreId) (rd rs1 rs2 : BitVec 5) (s : State) : Answer :=
  .next (issue c .plain (aluOp rd rs1 rs2 (fun a b => a <<< shiftAmount b)) s)

/-- SRL (R110). -/
def execSrl (c : CoreId) (rd rs1 rs2 : BitVec 5) (s : State) : Answer :=
  .next (issue c .plain (aluOp rd rs1 rs2 (fun a b => a >>> shiftAmount b)) s)

/-- SRA (R110). -/
def execSra (c : CoreId) (rd rs1 rs2 : BitVec 5) (s : State) : Answer :=
  .next (issue c .plain (aluOp rd rs1 rs2 (fun a b => a.sshiftRight (shiftAmount b))) s)

/-- SLT (R110). -/
def execSlt (c : CoreId) (rd rs1 rs2 : BitVec 5) (s : State) : Answer :=
  .next (issue c .plain (aluOp rd rs1 rs2 (fun a b => boolWord (a.slt b))) s)

/-- SLTU (R110). -/
def execSltu (c : CoreId) (rd rs1 rs2 : BitVec 5) (s : State) : Answer :=
  .next (issue c .plain (aluOp rd rs1 rs2 (fun a b => boolWord (a.ult b))) s)

/-- MUL (R110). -/
def execMul (c : CoreId) (rd rs1 rs2 : BitVec 5) (s : State) : Answer :=
  .next (issue c .plain (aluOp rd rs1 rs2 (fun a b => a * b)) s)

/-- MULHU (R110). -/
def execMulhu (c : CoreId) (rd rs1 rs2 : BitVec 5) (s : State) : Answer :=
  .next (issue c .plain (aluOp rd rs1 rs2 mulHighU) s)

/-- MULH (R110). -/
def execMulh (c : CoreId) (rd rs1 rs2 : BitVec 5) (s : State) : Answer :=
  .next (issue c .plain (aluOp rd rs1 rs2 mulHighS) s)

/-- ADDV (R132). -/
def execAddv (c : CoreId) (rd rs1 rs2 : BitVec 5) (s : State) : Answer :=
  .next (issue c .plain (fun k _ => checkedResult rd ((k.greg rs1).toInt + (k.greg rs2).toInt) k) s)

/-- SUBV (R132). -/
def execSubv (c : CoreId) (rd rs1 rs2 : BitVec 5) (s : State) : Answer :=
  .next (issue c .plain (fun k _ => checkedResult rd ((k.greg rs1).toInt - (k.greg rs2).toInt) k) s)

/-- MULV (R132). -/
def execMulv (c : CoreId) (rd rs1 rs2 : BitVec 5) (s : State) : Answer :=
  .next (issue c .plain (fun k _ => checkedResult rd ((k.greg rs1).toInt * (k.greg rs2).toInt) k) s)

/-- DIV (R132); signed quotients are rounded toward zero (log entry 11). -/
def execDiv (c : CoreId) (rd rs1 rs2 : BitVec 5) (s : State) : Answer :=
  .next (issue c .plain (fun k _ => divideResult rd (k.greg rs2) 0xFFFFFFFF ((k.greg rs1).sdiv (k.greg rs2)) k) s)

/-- DIVU (R132). -/
def execDivu (c : CoreId) (rd rs1 rs2 : BitVec 5) (s : State) : Answer :=
  .next (issue c .plain (fun k _ => divideResult rd (k.greg rs2) 0xFFFFFFFF (k.greg rs1 / k.greg rs2) k) s)

/-- REM (R132); signed quotients are rounded toward zero (log entry 11). -/
def execRem (c : CoreId) (rd rs1 rs2 : BitVec 5) (s : State) : Answer :=
  .next (issue c .plain (fun k _ => divideResult rd (k.greg rs2) (k.greg rs1) ((k.greg rs1).srem (k.greg rs2)) k) s)

/-- REMU (R132). -/
def execRemu (c : CoreId) (rd rs1 rs2 : BitVec 5) (s : State) : Answer :=
  .next (issue c .plain (fun k _ => divideResult rd (k.greg rs2) (k.greg rs1) (k.greg rs1 % k.greg rs2) k) s)

/-- ADDI (R109). -/
def execAddi (c : CoreId) (rd rs1 : BitVec 5) (imm : BitVec 14) (s : State) : Answer :=
  .next (issue c .plain (aluImm rd rs1 (fun a => a + imm.signExtend 32)) s)

/-- ANDI (R109). -/
def execAndi (c : CoreId) (rd rs1 : BitVec 5) (imm : BitVec 14) (s : State) : Answer :=
  .next (issue c .plain (aluImm rd rs1 (fun a => a &&& imm.setWidth 32)) s)

/-- ORI (R109). -/
def execOri (c : CoreId) (rd rs1 : BitVec 5) (imm : BitVec 14) (s : State) : Answer :=
  .next (issue c .plain (aluImm rd rs1 (fun a => a ||| imm.setWidth 32)) s)

/-- XORI (R109). -/
def execXori (c : CoreId) (rd rs1 : BitVec 5) (imm : BitVec 14) (s : State) : Answer :=
  .next (issue c .plain (aluImm rd rs1 (fun a => a ^^^ imm.setWidth 32)) s)

/-- SLTI (R109). -/
def execSlti (c : CoreId) (rd rs1 : BitVec 5) (imm : BitVec 14) (s : State) : Answer :=
  .next (issue c .plain (aluImm rd rs1 (fun a => boolWord (a.slt (imm.signExtend 32)))) s)

/-- SLTIU (R109). -/
def execSltiu (c : CoreId) (rd rs1 : BitVec 5) (imm : BitVec 14) (s : State) : Answer :=
  .next (issue c .plain (aluImm rd rs1 (fun a => boolWord (a.ult (imm.signExtend 32)))) s)

/-- SLLI (R109). -/
def execSlli (c : CoreId) (rd rs1 : BitVec 5) (imm : BitVec 14) (s : State) : Answer :=
  .next (issue c .plain (shiftImm rd rs1 imm (fun a n => a <<< n)) s)

/-- SRLI (R109). -/
def execSrli (c : CoreId) (rd rs1 : BitVec 5) (imm : BitVec 14) (s : State) : Answer :=
  .next (issue c .plain (shiftImm rd rs1 imm (fun a n => a >>> n)) s)

/-- SRAI (R109). -/
def execSrai (c : CoreId) (rd rs1 : BitVec 5) (imm : BitVec 14) (s : State) : Answer :=
  .next (issue c .plain (shiftImm rd rs1 imm (fun a n => a.sshiftRight n)) s)

/-- ADDVI (R132). -/
def execAddvi (c : CoreId) (rd rs1 : BitVec 5) (imm : BitVec 14) (s : State) : Answer :=
  .next (issue c .plain (fun k _ => checkedResult rd ((k.greg rs1).toInt + imm.toInt) k) s)

/-- LUI (R109). -/
def execLui (c : CoreId) (rd : BitVec 5) (imm : BitVec 19) (s : State) : Answer :=
  .next (issue c .plain (fun k _ => .core (k.setG rd (imm.setWidth 32 <<< 13))) s)

/-! ### Pointers (R103, R108, R109) -/

/-- The pointer a register field selects: bits 4 to 3 of the field must be 0. -/
def pointerField (f : BitVec 5) : Option (BitVec 3) := if f.toNat < 8 then some (f.setWidth 3) else none

/-- An operation on the pointer a field selects; a field above 7 is illegal. -/
def withPointer (f : BitVec 5) (g : BitVec 3 → OpRes) : OpRes :=
  match pointerField f with
  | some p => g p
  | none => .trap causeIllegal 0 0

/-- PSETL: p[31:0] = rs1. -/
def execPsetl (c : CoreId) (pd rs1 : BitVec 5) (s : State) : Answer :=
  .next (issue c .plain (fun k _ => withPointer pd fun p =>
    .core (k.setP p (((k.ptr p >>> 32) <<< 32) ||| (k.greg rs1).setWidth 40))) s)

/-- PSETH: p[39:32] = imm14[7:0]. -/
def execPseth (c : CoreId) (pd : BitVec 5) (imm : BitVec 14) (s : State) : Answer :=
  .next (issue c .plain (fun k _ => withPointer pd fun p =>
    .core (k.setP p ((imm.setWidth 8).setWidth 40 <<< 32 ||| ((k.ptr p).setWidth 32).setWidth 40))) s)

/-- PGET: rd = p[31:0]. -/
def execPget (c : CoreId) (rd ps : BitVec 5) (s : State) : Answer :=
  .next (issue c .plain (fun k _ => withPointer ps fun p => .core (k.setG rd ((k.ptr p).setWidth 32))) s)

/-- PGETH: rd = p[39:32]. -/
def execPgeth (c : CoreId) (rd ps : BitVec 5) (s : State) : Answer :=
  .next (issue c .plain (fun k _ => withPointer ps fun p => .core (k.setG rd ((k.ptr p >>> 32).setWidth 32))) s)

/-- PADDI, with the update of R103. -/
def execPaddi (c : CoreId) (pd : BitVec 5) (imm : BitVec 14) (s : State) : Answer :=
  .next (issue c .plain (fun k _ => withPointer pd fun p => .core (k.bump p imm.toInt)) s)

/-- PADD, with the update of R103. -/
def execPadd (c : CoreId) (pd rs1 : BitVec 5) (s : State) : Answer :=
  .next (issue c .plain (fun k _ => withPointer pd fun p => .core (k.bump p (k.greg rs1).toInt)) s)

/-- PMOV copies all 40 bits. -/
def execPmov (c : CoreId) (pd ps : BitVec 5) (s : State) : Answer :=
  .next (issue c .plain (fun k _ => withPointer pd fun p => withPointer ps fun q => .core (k.setP p (k.ptr q))) s)

/-! ### Short forms with a row of their own (R112): they issue paired with the no-operation -/

/-- The register a 4-bit short field names. -/
def shortReg (f : BitVec 4) : BitVec 5 := f.setWidth 5

/-- MOVI (R112). -/
def execMovi (c : CoreId) (rd : BitVec 4) (imm : BitVec 6) (s : State) : Answer :=
  .next (issue c .plain (fun k _ => .core (k.setG (shortReg rd) (imm.signExtend 32))) s)

/-- MOV (R112). -/
def execMov (c : CoreId) (rd rs : BitVec 4) (s : State) : Answer :=
  .next (issue c .plain (fun k _ => .core (k.setG (shortReg rd) (k.greg (shortReg rs)))) s)

/-- PADDS: p += 4 × imm6, with the update of R103. -/
def execPadds (c : CoreId) (p : BitVec 3) (imm : BitVec 6) (s : State) : Answer :=
  .next (issue c .plain (fun k _ => .core (k.bump p (4 * imm.toInt))) s)

/-! ### Accumulators (R110, R124, R125) -/

/-- Accumulator arithmetic is modulo 2^72. -/
def accAdd (v : BitVec 72) (n : Nat) : BitVec 72 := v + BitVec.ofNat 72 n

/-- ACCCLR. -/
def execAccclr (c : CoreId) (a : BitVec 1) (s : State) : Answer :=
  .next (issue c .plain (fun k _ => .core (k.setAcc a 0)) s)

/-- ACCLO. -/
def execAcclo (c : CoreId) (a : BitVec 1) (rd : BitVec 5) (s : State) : Answer :=
  .next (issue c .plain (fun k _ => .core (k.setG rd ((k.accOf a).setWidth 32))) s)

/-- ACCHI. -/
def execAcchi (c : CoreId) (a : BitVec 1) (rd : BitVec 5) (s : State) : Answer :=
  .next (issue c .plain (fun k _ => .core (k.setG rd ((k.accOf a >>> 32).setWidth 32))) s)

/-- ACCTOP. -/
def execAcctop (c : CoreId) (a : BitVec 1) (rd : BitVec 5) (s : State) : Answer :=
  .next (issue c .plain (fun k _ => .core (k.setG rd ((k.accOf a >>> 64).setWidth 32))) s)

/-- ACCSHR. -/
def execAccshr (c : CoreId) (a : BitVec 1) (s : State) : Answer :=
  .next (issue c .plain (fun k _ => .core (k.setAcc a (k.accOf a >>> 32))) s)

/-- ACCSET: acc = {rd[7:0], rs2, rs1}. -/
def execAccset (c : CoreId) (a : BitVec 1) (rd rs1 rs2 : BitVec 5) (s : State) : Answer :=
  .next (issue c .plain (fun k _ => .core (k.setAcc a (((k.greg rd).setWidth 8 ++ k.greg rs2) ++ k.greg rs1))) s)

/-- ACCADD. -/
def execAccadd (c : CoreId) (a : BitVec 1) (rs1 : BitVec 5) (s : State) : Answer :=
  .next (issue c .plain (fun k _ => .core (k.setAcc a (accAdd (k.accOf a) (k.greg rs1).toNat))) s)

/-- MAC. -/
def execMac (c : CoreId) (a : BitVec 1) (rs1 rs2 : BitVec 5) (s : State) : Answer :=
  .next (issue c .plain (fun k _ => .core (k.setAcc a (accAdd (k.accOf a) ((k.greg rs1).toNat * (k.greg rs2).toNat)))) s)

/-- The 64-bit product of MACD, signed when S is 1 (R124). -/
def macdProduct (signed : Bool) (x y : Word) : Int := if signed then x.toInt * y.toInt else (x.toNat * y.toNat : Nat)

/-- MACD over the elements at px and py (R124): outside its bank or misaligned is an access fault; the loads follow the
protection unit and the rules of operand memory; then both pointers are updated. -/
def macdOp (c : CoreId) (a : BitVec 1) (px py : BitVec 3) (ux uy : Option Int) (signed neg : Bool) (k : Thrower)
    (s : State) : OpRes :=
  if !inBank c false (k.ptr px).toNat 4 4 then .trap causeAccess 0 (k.ptr px)
  else if !inBank c true (k.ptr py).toNat 4 4 then .trap causeAccess 0 (k.ptr py)
  else match loadBytes c k.ring (k.ptr px) 4 s with
  | .error i => .trap causeAccess i (k.ptr px)
  | .ok x =>
    match loadBytes c k.ring (k.ptr py) 4 x.2 with
    | .error i => .trap causeAccess i (k.ptr py)
    | .ok y =>
      let product := macdProduct signed (BitVec.ofNat 32 (leNat x.1)) (BitVec.ofNat 32 (leNat y.1))
      let v := if neg then k.accOf a - BitVec.ofInt 72 product else k.accOf a + BitVec.ofInt 72 product
      .state (y.2.setCore c (((k.setAcc a v).bumpOpt px ux).bumpOpt py uy))

/-- MACD (R124): a reserved update code or a non-zero reserved bit is illegal (R108). -/
def execMacd (c : CoreId) (a : BitVec 1) (px py mx my : BitVec 3) (sgn neg : BitVec 1) (zero : BitVec 9) (s : State) :
    Answer :=
  .next (issue c .plain (fun k s =>
    match laUpdate k px mx 4, laUpdate k py my 4 with
    | some ux, some uy =>
      if zero ≠ 0 then .trap causeIllegal 0 0 else macdOp c a px py ux uy (sgn == 1) (neg == 1) k s
    | _, _ => .trap causeIllegal 0 0) s)

end Sys2Proof.Machine
end

