-- ==== Sys2Proof/Machine/ThrCtl.lean ====
section
/-! DEFINITION. Branches, jumps, calls, returns, gates and loops of a Thrower core (R109, R116-R123, R146-R158). -/

namespace Sys2Proof.Machine

/-- The address `n` words from `pc`. -/
def wordsFrom (pc : Addr) (n : Int) : Addr := pc + BitVec.ofInt 40 (4 * n)

/-- A transfer to `next` after the delay slot. -/
def goAfterSlot (k : Thrower) (next : Addr) : OpRes := .transfer k (.branch next)

/-- A compare-and-branch: the word after the slot, or pc + 4 × off14. -/
def branchOp (taken : Bool) (off : BitVec 14) (k : Thrower) : OpRes :=
  goAfterSlot k (if taken then wordsFrom k.pc off.toInt else k.pc + 8)

/-- The word an address register names. -/
def jumpTarget (w : Word) : Addr := w.setWidth 40

/-- BEQ (R116). -/
def execBeq (c : CoreId) (rs1 rs2 : BitVec 5) (off : BitVec 14) (s : State) : Answer :=
  .next (issue c .branch (fun k _ => branchOp (condEq (k.greg rs1) (k.greg rs2)) off k) s)

/-- BNE (R116). -/
def execBne (c : CoreId) (rs1 rs2 : BitVec 5) (off : BitVec 14) (s : State) : Answer :=
  .next (issue c .branch (fun k _ => branchOp (condNe (k.greg rs1) (k.greg rs2)) off k) s)

/-- BLT (R116). -/
def execBlt (c : CoreId) (rs1 rs2 : BitVec 5) (off : BitVec 14) (s : State) : Answer :=
  .next (issue c .branch (fun k _ => branchOp (condLt (k.greg rs1) (k.greg rs2)) off k) s)

/-- BGE (R116). -/
def execBge (c : CoreId) (rs1 rs2 : BitVec 5) (off : BitVec 14) (s : State) : Answer :=
  .next (issue c .branch (fun k _ => branchOp (condGe (k.greg rs1) (k.greg rs2)) off k) s)

/-- BLTU (R116). -/
def execBltu (c : CoreId) (rs1 rs2 : BitVec 5) (off : BitVec 14) (s : State) : Answer :=
  .next (issue c .branch (fun k _ => branchOp (condLtu (k.greg rs1) (k.greg rs2)) off k) s)

/-- BGEU (R116). -/
def execBgeu (c : CoreId) (rs1 rs2 : BitVec 5) (off : BitVec 14) (s : State) : Answer :=
  .next (issue c .branch (fun k _ => branchOp (condGeu (k.greg rs1) (k.greg rs2)) off k) s)

/-- BEQZ (R116); rs2 must be 0. -/
def execBeqz (c : CoreId) (rs1 rs2 : BitVec 5) (off : BitVec 14) (s : State) : Answer :=
  .next (issue c .branch (fun k _ =>
    if rs2 ≠ 0 then .trap causeIllegal 0 0 else branchOp (condEq (k.greg rs1) 0) off k) s)

/-- BNEZ (R116); rs2 must be 0. -/
def execBnez (c : CoreId) (rs1 rs2 : BitVec 5) (off : BitVec 14) (s : State) : Answer :=
  .next (issue c .branch (fun k _ =>
    if rs2 ≠ 0 then .trap causeIllegal 0 0 else branchOp (condNe (k.greg rs1) 0) off k) s)

/-- JMP (R116). -/
def execJmp (c : CoreId) (off : BitVec 24) (s : State) : Answer :=
  .next (issue c .branch (fun k _ => goAfterSlot k (wordsFrom k.pc off.toInt)) s)

/-- CALL: g31 = pc + 8 (R109, R117). -/
def execCall (c : CoreId) (off : BitVec 24) (s : State) : Answer :=
  .next (issue c .branch (fun k _ =>
    goAfterSlot (k.setG 31 ((k.pc + 8).setWidth 32)) (wordsFrom k.pc off.toInt)) s)

/-- JR (R109). -/
def execJr (c : CoreId) (rs1 : BitVec 5) (s : State) : Answer :=
  .next (issue c .branch (fun k _ => goAfterSlot k (jumpTarget (k.greg rs1))) s)

/-- CALLR: rd = pc + 8 (R109). -/
def execCallr (c : CoreId) (rd rs1 : BitVec 5) (s : State) : Answer :=
  .next (issue c .branch (fun k _ =>
    goAfterSlot (k.setG rd ((k.pc + 8).setWidth 32)) (jumpTarget (k.greg rs1))) s)

/-- RET: jump to g31; every register field must be 0 (R109). -/
def execRet (c : CoreId) (fields : BitVec 24) (s : State) : Answer :=
  .next (issue c .branch (fun k _ =>
    if fields.toNat / 512 ≠ 0 then .trap causeIllegal 0 0 else goAfterSlot k (jumpTarget (k.greg 31))) s)

/-! ### Gates (R145-R148) -/

/-- A gate table entry, read by the address map alone (R145): words 0 and 1, none on a bus error. -/
def gateEntry (c : CoreId) (k : Thrower) (i : Nat) (s : State) : Option (Nat × Nat) :=
  let a := k.gtbase.toNat + 8 * i
  match mapTarget c 0 s.ddrTop a with
  | .rom => some (leNat (romBytes a 4), leNat (romBytes (a + 4) 4))
  | .ram => some (leNat (memRead 0 s.mem a 4), leNat (memRead 0 s.mem (a + 4) 4))
  | .operand n off =>
    match operandRight s c 0 n with
    | .refused => none
    | right => some (leNat (operandRead s n off 4 right).1, leNat (operandRead s n (off + 4) 4 right).1)
  | _ => none

/-- The checks of R146 in order; the INFO of the first that fails, or the target address and ring. -/
def gateChecks (c : CoreId) (k : Thrower) (i : Nat) (s : State) : Except (BitVec 4) (Addr × BitVec 2) :=
  if k.gtlen.toNat ≤ i then .error 0
  else match gateEntry c k i s with
  | none => .error 5
  | some (w0, w1) =>
    let maxCall := w1 / 16 % 4
    let tring : BitVec 2 := BitVec.ofNat 2 w1
    let target : Addr := BitVec.ofNat 40 (w0 / 4 * 4)
    if w1 / 128 % 2 = 0 then .error 1
    else if maxCall < k.ring.toNat then .error 2
    else if k.ring.toNat < tring.toNat ∨ !hasRing c tring then .error 3
    else if (fetchFault c k tring target).isSome then .error 4
    else .ok (target, tring)

/-- CALLG (R146): illegal while unarmed (R141); the gate checks, then the stack check of R153; the entry follows the
delay slot. -/
def execCallg (c : CoreId) (rd rs1 : BitVec 5) (imm : BitVec 14) (s : State) : Answer :=
  .next (issue c .gate (fun k s =>
    if rd ≠ 0 ∨ rs1 ≠ 0 ∨ !k.armed then .trap causeIllegal 0 0
    else match gateChecks c k imm.toNat s with
    | .error info => .trap causeGate info 0
    | .ok (target, tring) =>
      match stackCheck c tring s with
      | some info => .gateDouble info tring
      | none => .transfer k (.gate target tring (mapGet 0 k.sp tring.toNat) k.st)) s)

/-- The return address and status on the stack of a ring, read as that ring (R147). -/
def poppedWords (c : CoreId) (ring : BitVec 2) (k : Thrower) (s : State) : Except (BitVec 4 × Addr) (Addr × Word × State) :=
  let a : Addr := (mapGet 0 k.sp ring.toNat).setWidth 40
  match loadBytes c ring a 4 s with
  | .error i => .error (i, a)
  | .ok x =>
    match loadBytes c ring (a + 4) 4 x.2 with
    | .error i => .error (i, a + 4)
    | .ok y => .ok (BitVec.ofNat 40 (leNat x.1), BitVec.ofNat 32 (leNat y.1), y.2)

/-- The status a return in ring `t` restores: RING and PX from the popped word, IE only in ring 0 (R154). -/
def restoredSt (t : BitVec 2) (now popped : Word) : Word :=
  mkSt (stRing popped) (if t = 0 then stIe popped else stIe now) (stPx popped)

/-- A return by RETG or ERET whose record kind is `gate`; `ringOk` is its ring check on the popped ring and the ring of the
record, `ringInfo` the INFO when that fails (R147, R154, R158). -/
def returnOp (c : CoreId) (gate : Bool) (ringInfo : BitVec 4) (ringOk : BitVec 2 → BitVec 2 → Bool) (k : Thrower)
    (s : State) : OpRes :=
  let t := k.ring
  match poppedWords c t k s with
  | .error (i, a) => .trap causeAccess i a
  | .ok (ret, st, _) =>
    if k.erdepth = 0 then .trap causeForged 3 0
    else if k.topGate ≠ gate then .trap causeForged 2 0
    else if !ringOk (stRing st) k.topRing then .trap causeForged ringInfo 0
    else .transfer k (.ret ret (restoredSt t k.st st) t (mapGet 0 k.sp t.toNat) k.st)

/-- RETG (R147). -/
def execRetg (c : CoreId) (fields : BitVec 24) (s : State) : Answer :=
  .next (issue c .gate (fun k s =>
    if fields ≠ 0 ∨ !k.armed then .trap causeIllegal 0 0
    else returnOp c true 1 (fun popped record => decide (popped = record) && decide (k.ring.toNat ≤ popped.toNat)) k s) s)

/-- ERET (R154); in ring 0 while XSTATE.DF is 1 it returns by xsave0 and xsave1 (R157). -/
def execEret (c : CoreId) (fields : BitVec 24) (s : State) : Answer :=
  .next (issue c .gate (fun k s =>
    if fields ≠ 0 ∨ !k.armed ∨ 2 ≤ k.ring.toNat then .trap causeIllegal 0 0
    else if k.ring = 0 ∧ k.df then
      let st := mapGet 0 k.xsave 1
      if (stRing st).toNat < k.dfring.toNat then .trap causeForged 0 0
      else .transfer k (.dfret ((mapGet 0 k.xsave 0).setWidth 40) (restoredSt 0 k.st st) k.st)
    else returnOp c false 0 (fun popped record => decide (record.toNat ≤ popped.toNat) && hasRing c popped) k s) s)

/-! ### Loops (R120) -/

/-- LOOPI and LOOP: level 3 and offset 0 are illegal; a count of 0 leaves the level unarmed and continues after its end. -/
def loopOp (lvl : BitVec 2) (count : Word) (off : BitVec 12) (k : Thrower) : OpRes :=
  if lvl = 3 ∨ off = 0 then .trap causeIllegal 0 0
  else
    let last := wordsFrom k.pc off.toNat
    let k' := ({ k with
      ls := mapSet 0 k.ls lvl.toNat ((k.pc + 4).setWidth 32)
      le := mapSet 0 k.le lvl.toNat (last.setWidth 32)
      lc := mapSet 0 k.lc lvl.toNat count } : Thrower).setTag lvl.toNat k.ring
    if count = 0 then .goto_ k' (last + 4) else .core k'

/-- LOOPI (R120). -/
def execLoopi (c : CoreId) (k : BitVec 2) (count : BitVec 10) (off : BitVec 12) (s : State) : Answer :=
  .next (issue c .loop (fun t _ => loopOp k (count.setWidth 32) off t) s)

/-- LOOP (R120). -/
def execLoop (c : CoreId) (k : BitVec 2) (rs zero : BitVec 5) (off : BitVec 12) (s : State) : Answer :=
  .next (issue c .loop (fun t _ =>
    if zero ≠ 0 then .trap causeIllegal 0 0 else loopOp k (t.greg rs) off t) s)

/-- LCLR (R120): every other field must be 0. -/
def execLclr (c : CoreId) (k : BitVec 2) (zero : BitVec 22) (s : State) : Answer :=
  .next (issue c .loop (fun t _ =>
    if k = 3 ∨ zero ≠ 0 then .trap causeIllegal 0 0 else .core { t with lc := mapSet 0 t.lc k.toNat 0 }) s)

end Sys2Proof.Machine
end

