-- ==== Sys2Proof/Machine/ThrMem.lean ====
section
/-! DEFINITION. Loads and stores of a Thrower core (R108, R128). -/

namespace Sys2Proof.Machine

/-- A load of `size` bytes through a pointer mode: a reserved mode is illegal, a misaligned address an alignment fault,
a refused access an access fault; none of them changes a register. -/
def loadOp (c : CoreId) (rd : BitVec 5) (p mode : BitVec 3) (disp : BitVec 13) (size : Nat) (ext : Nat → Word)
    (k : Thrower) (s : State) : OpRes :=
  match lmMode k p mode disp size with
  | none => .trap causeIllegal 0 0
  | some (a, upd) =>
    if a.toNat % size ≠ 0 then .trap causeAlign 0 a
    else match loadBytes c k.ring a size s with
    | .error i => .trap causeAccess i a
    | .ok r => .state (r.2.setCore c ((k.setG rd (ext (leNat r.1))).bumpOpt p upd))

/-- A store of the low `size` bytes of a register through a pointer mode. -/
def storeOp (c : CoreId) (rd : BitVec 5) (p mode : BitVec 3) (disp : BitVec 13) (size : Nat) (k : Thrower) (s : State) :
    OpRes :=
  match lmMode k p mode disp size with
  | none => .trap causeIllegal 0 0
  | some (a, upd) =>
    if a.toNat % size ≠ 0 then .trap causeAlign 0 a
    else match storeBytes c k.ring a (leBytes size (k.greg rd).toNat) s with
    | .error i => .trap causeAccess i a
    | .ok s' => .state (s'.setCore c ((s'.core c).bumpOpt p upd))

/-- The address of LDGW and STGW: rs1 + imm14 as 32 bits, zero-extended. -/
def globalAddress (k : Thrower) (rs1 : BitVec 5) (imm : BitVec 14) : Addr :=
  (k.greg rs1 + imm.signExtend 32).setWidth 40

/-- A load of a word at a given address. -/
def loadWordAt (c : CoreId) (rd : BitVec 5) (a : Addr) (k : Thrower) (s : State) : OpRes :=
  if a.toNat % 4 ≠ 0 then .trap causeAlign 0 a
  else match loadBytes c k.ring a 4 s with
  | .error i => .trap causeAccess i a
  | .ok r => .state (r.2.setCore c (k.setG rd (BitVec.ofNat 32 (leNat r.1))))

/-- A store of a word at a given address. -/
def storeWordAt (c : CoreId) (rd : BitVec 5) (a : Addr) (k : Thrower) (s : State) : OpRes :=
  if a.toNat % 4 ≠ 0 then .trap causeAlign 0 a
  else match storeBytes c k.ring a (leBytes 4 (k.greg rd).toNat) s with
  | .error i => .trap causeAccess i a
  | .ok s' => .state s'

/-- LDW (R109, R128). -/
def execLdw (c : CoreId) (rd : BitVec 5) (p mode : BitVec 3) (disp : BitVec 13) (s : State) : Answer :=
  .next (issue c .plain (loadOp c rd p mode disp 4 (BitVec.ofNat 32)) s)

/-- LDH (R109, R128). -/
def execLdh (c : CoreId) (rd : BitVec 5) (p mode : BitVec 3) (disp : BitVec 13) (s : State) : Answer :=
  .next (issue c .plain (loadOp c rd p mode disp 2 (fun v => (BitVec.ofNat 16 v).signExtend 32)) s)

/-- LDHU (R109, R128). -/
def execLdhu (c : CoreId) (rd : BitVec 5) (p mode : BitVec 3) (disp : BitVec 13) (s : State) : Answer :=
  .next (issue c .plain (loadOp c rd p mode disp 2 (BitVec.ofNat 32)) s)

/-- LDB (R109, R128). -/
def execLdb (c : CoreId) (rd : BitVec 5) (p mode : BitVec 3) (disp : BitVec 13) (s : State) : Answer :=
  .next (issue c .plain (loadOp c rd p mode disp 1 (fun v => (BitVec.ofNat 8 v).signExtend 32)) s)

/-- LDBU (R109, R128). -/
def execLdbu (c : CoreId) (rd : BitVec 5) (p mode : BitVec 3) (disp : BitVec 13) (s : State) : Answer :=
  .next (issue c .plain (loadOp c rd p mode disp 1 (BitVec.ofNat 32)) s)

/-- STW (R109, R128). -/
def execStw (c : CoreId) (rd : BitVec 5) (p mode : BitVec 3) (disp : BitVec 13) (s : State) : Answer :=
  .next (issue c .plain (storeOp c rd p mode disp 4) s)

/-- STH (R109, R128). -/
def execSth (c : CoreId) (rd : BitVec 5) (p mode : BitVec 3) (disp : BitVec 13) (s : State) : Answer :=
  .next (issue c .plain (storeOp c rd p mode disp 2) s)

/-- STB (R109, R128). -/
def execStb (c : CoreId) (rd : BitVec 5) (p mode : BitVec 3) (disp : BitVec 13) (s : State) : Answer :=
  .next (issue c .plain (storeOp c rd p mode disp 1) s)

/-- LDGW (R109, R128). -/
def execLdgw (c : CoreId) (rd rs1 : BitVec 5) (imm : BitVec 14) (s : State) : Answer :=
  .next (issue c .plain (fun k s => loadWordAt c rd (globalAddress k rs1 imm) k s) s)

/-- STGW (R109, R128). -/
def execStgw (c : CoreId) (rd rs1 : BitVec 5) (imm : BitVec 14) (s : State) : Answer :=
  .next (issue c .plain (fun k s => storeWordAt c rd (globalAddress k rs1 imm) k s) s)

end Sys2Proof.Machine
end

