-- ==== Sys2Proof/Machine/ThrWide.lean ====
section
/-! DEFINITION. The W extension (R100, R109, R110, R126, R127): crucibles only, an illegal instruction elsewhere. -/

namespace Sys2Proof.Machine

/-- A W-extension word: on a control or service core an illegal-instruction fault (R100). -/
def wideOp (c : CoreId) (f : Nat → Thrower → State → OpRes) (k : Thrower) (s : State) : OpRes :=
  match c with
  | .crucible n => f n.val k s
  | _ => .trap causeIllegal 0 0

/-- Wide arithmetic is unsigned modulo 2^288. -/
def waccAdd (v : BitVec 288) (n : Nat) : BitVec 288 := v + BitVec.ofNat 288 n

/-- Marks SEAL_READ where sealed bytes were read. -/
def sealMarked (read : Bool) (n : Nat) (right : OperandRight) (s : State) : State :=
  if read then markSealRead n right s else s

/-- The wide operand a selector register names, as the core's ring may read it: the reserved bits and the slot number are
checked first (R127). INFO 2 is the rule of operand memory (R143). -/
def wideRead (c : CoreId) (n : Nat) (sel : Word) (i : Nat) (k : Thrower) (s : State) : Except (BitVec 4) (Nat × State) :=
  if !selectorOk (s.crucible n) sel then .error 2
  else match operandRight s c k.ring n with
  | .refused => .error 0
  | right =>
    let r := wideOperand s n sel i right
    .ok (r.1, sealMarked r.2 n right s)

/-- The address a fault of a slot access reports. -/
def selectorAddress (s : State) (n : Nat) (sel : Word) : Addr :=
  BitVec.ofNat 40 (operandAddress n (slotWordOffset (s.crucible n) sel (selectorIndex sel)))

/-- WMULACC: wacc += A × B (R126). -/
def wmulaccOp (c : CoreId) (a : BitVec 1) (selA selB : Word) (n : Nat) (k : Thrower) (s : State) : OpRes :=
  match wideRead c n selA (selectorIndex selA) k s with
  | .error i => .trap causeAccess i (selectorAddress s n selA)
  | .ok x =>
    match wideRead c n selB (selectorIndex selB) k x.2 with
    | .error i => .trap causeAccess i (selectorAddress s n selB)
    | .ok y => .state (y.2.setCore c (k.setWacc a (waccAdd (k.waccOf a) (x.1 * y.1))))

/-- The product WSQRACC adds: doubled when the two word indices differ. -/
def squareTerm (i j x y : Nat) : Nat := if i = j then x * y else 2 * (x * y)

/-- WSQRACC: both operands from the slot of the first selector, at the two word indices (R126). -/
def wsqraccOp (c : CoreId) (a : BitVec 1) (selA selB : Word) (n : Nat) (k : Thrower) (s : State) : OpRes :=
  if 65536 ≤ selB.toNat ∨ selB.getLsbD 7 then .trap causeAccess 2 (selectorAddress s n selA)
  else match wideRead c n selA (selectorIndex selA) k s with
  | .error i => .trap causeAccess i (selectorAddress s n selA)
  | .ok x =>
    match wideRead c n selA (selectorIndex selB) k x.2 with
    | .error i => .trap causeAccess i (selectorAddress s n selA)
    | .ok y =>
      .state (y.2.setCore c (k.setWacc a
        (waccAdd (k.waccOf a) (squareTerm (selectorIndex selA) (selectorIndex selB) x.1 y.1))))

/-- WLOAD: wacc = the operand, zero-extended. -/
def wloadOp (c : CoreId) (a : BitVec 1) (sel : Word) (n : Nat) (k : Thrower) (s : State) : OpRes :=
  match wideRead c n sel (selectorIndex sel) k s with
  | .error i => .trap causeAccess i (selectorAddress s n sel)
  | .ok x => .state (x.2.setCore c (k.setWacc a (BitVec.ofNat 288 x.1)))

/-- WSTORE: the operand = wacc[127:0], then wacc shifts right by 128; a store into sealed bytes follows R271. -/
def wstoreOp (c : CoreId) (a : BitVec 1) (sel : Word) (n : Nat) (k : Thrower) (s : State) : OpRes :=
  let x := s.crucible n
  let i := selectorIndex sel
  if !selectorOk x sel then .trap causeAccess 2 (selectorAddress s n sel)
  else match operandRight s c k.ring n with
  | .refused => .trap causeAccess 0 (selectorAddress s n sel)
  | .dispatcher =>
    if byteSealed x (slotWordOffset x sel 0) then .trap causeAccess 2 (selectorAddress s n sel)
    else .state ((storeWide s n sel i ((k.waccOf a).toNat % 2 ^ 128)).setCore c (k.setWacc a (k.waccOf a >>> 128)))
  | _ => .state ((storeWide s n sel i ((k.waccOf a).toNat % 2 ^ 128)).setCore c (k.setWacc a (k.waccOf a >>> 128)))

/-- WMACD over the 128-bit operands at px and py (R126), aligned to 8 bytes in banks X and Y. -/
def wmacdOp (c : CoreId) (a : BitVec 1) (px py : BitVec 3) (ux uy : Option Int) (k : Thrower) (s : State) : OpRes :=
  if !inBank c false (k.ptr px).toNat 16 8 then .trap causeAccess 0 (k.ptr px)
  else if !inBank c true (k.ptr py).toNat 16 8 then .trap causeAccess 0 (k.ptr py)
  else match loadBytes c k.ring (k.ptr px) 16 s with
  | .error i => .trap causeAccess i (k.ptr px)
  | .ok x =>
    match loadBytes c k.ring (k.ptr py) 16 x.2 with
    | .error i => .trap causeAccess i (k.ptr py)
    | .ok y =>
      .state (y.2.setCore c
        (((k.setWacc a (waccAdd (k.waccOf a) (leNat x.1 * leNat y.1))).bumpOpt px ux).bumpOpt py uy))

/-- WMACD: reserved update codes and non-zero reserved bits are illegal; S and NEG have no effect on unsigned wide sums
(log entry 13). -/
def execWmacd (c : CoreId) (a : BitVec 1) (px py mx my : BitVec 3) (_sgn _neg : BitVec 1) (zero : BitVec 9) (s : State) :
    Answer :=
  .next (issue c .plain (wideOp c fun _ k s =>
    match laUpdate k px mx 16, laUpdate k py my 16 with
    | some ux, some uy => if zero ≠ 0 then .trap causeIllegal 0 0 else wmacdOp c a px py ux uy k s
    | _, _ => .trap causeIllegal 0 0) s)

/-- WMULACC (R126). -/
def execWmulacc (c : CoreId) (a : BitVec 1) (rs1 rs2 : BitVec 5) (s : State) : Answer :=
  .next (issue c .plain (wideOp c fun n k s => wmulaccOp c a (k.greg rs1) (k.greg rs2) n k s) s)

/-- WSQRACC (R126). -/
def execWsqracc (c : CoreId) (a : BitVec 1) (rs1 rs2 : BitVec 5) (s : State) : Answer :=
  .next (issue c .plain (wideOp c fun n k s => wsqraccOp c a (k.greg rs1) (k.greg rs2) n k s) s)

/-- WLOAD (R126). -/
def execWload (c : CoreId) (a : BitVec 1) (rs1 : BitVec 5) (s : State) : Answer :=
  .next (issue c .plain (wideOp c fun n k s => wloadOp c a (k.greg rs1) n k s) s)

/-- WSTORE (R126). -/
def execWstore (c : CoreId) (a : BitVec 1) (rs1 : BitVec 5) (s : State) : Answer :=
  .next (issue c .plain (wideOp c fun n k s => wstoreOp c a (k.greg rs1) n k s) s)

/-- WSLOT: p = the address of word 0 of the slot (R126). -/
def execWslot (c : CoreId) (rs1 rs2 : BitVec 5) (s : State) : Answer :=
  .next (issue c .plain (wideOp c fun n k s => withPointer rs1 fun p =>
    if !selectorOk (s.crucible n) (k.greg rs2) then .trap causeAccess 2 0
    else .core (k.setP p (BitVec.ofNat 40 (operandAddress n (slotWordOffset (s.crucible n) (k.greg rs2) 0))))) s)

/-- WCLR (R110). -/
def execWclr (c : CoreId) (a : BitVec 1) (s : State) : Answer :=
  .next (issue c .plain (wideOp c fun _ k _ => .core (k.setWacc a 0)) s)

/-- WSHR (R110). -/
def execWshr (c : CoreId) (a : BitVec 1) (s : State) : Answer :=
  .next (issue c .plain (wideOp c fun _ k _ => .core (k.setWacc a (k.waccOf a >>> 128))) s)

/-- wacc with word `i` replaced. -/
def putWide (v : BitVec 288) (i : Nat) (x : Word) : BitVec 288 :=
  (v &&& ~~~((0xFFFFFFFF : BitVec 288) <<< (32 * i))) ||| (x.setWidth 288 <<< (32 * i))

/-- WGET: the index is the rs2 field, since an index above 8 is found at decode (R110, R115, log entry 14). -/
def execWget (c : CoreId) (a : BitVec 1) (rs1 rs2 : BitVec 5) (s : State) : Answer :=
  .next (issue c .plain (wideOp c fun _ k _ =>
    if 8 < rs2.toNat then .trap causeIllegal 0 0
    else .core (k.setG rs1 ((k.waccOf a >>> (32 * rs2.toNat)).setWidth 32))) s)

/-- WPUT. -/
def execWput (c : CoreId) (a : BitVec 1) (rs1 rs2 : BitVec 5) (s : State) : Answer :=
  .next (issue c .plain (wideOp c fun _ k _ =>
    if 8 < rs2.toNat then .trap causeIllegal 0 0
    else .core (k.setWacc a (putWide (k.waccOf a) rs2.toNat (k.greg rs1)))) s)

end Sys2Proof.Machine
end

