-- ==== Sys2Proof/Machine/ThrPair.lean ====
section
/-! DEFINITION. Paired words (R107, R111-R115): the two short operations, which pairs are legal, and what they do. -/

namespace Sys2Proof.Machine

/-- A decoded short operation (R112). -/
inductive ShortOp where
  | alu (fn : Nat) (rd rs : BitVec 5)
  | addi (rd : BitVec 5) (imm : BitVec 6)
  | movi (rd : BitVec 5) (imm : BitVec 6)
  | shift (kind : Nat) (rd : BitVec 5) (amount : Nat)
  | ldw (rd : BitVec 5) (p upd : BitVec 3)
  | stw (rd : BitVec 5) (p upd : BitVec 3)
  | macd (a : BitVec 1) (px py : BitVec 3) (dx dy : Bool) (signed : Bool)
  | wmacd (a : BitVec 1) (px py : BitVec 3) (dx dy : Bool)
  | accGet (high : Bool) (rd : BitVec 5) (a : BitVec 1)
  | accShr (a : BitVec 1)
  | accClr (a : BitVec 1)
  | accAdd (rd : BitVec 5) (a : BitVec 1)
  | padds (p : BitVec 3) (imm : BitVec 6)
  | pmov (pd ps : BitVec 3)
deriving DecidableEq, Repr

/-- The 15 bits of a short operation (R111, R112); none is an illegal encoding. -/
def decodeShort (w : BitVec 15) : Option ShortOp :=
  let n := w.toNat
  let rd : BitVec 5 := BitVec.ofNat 5 (n / 64 % 16)
  let rs : BitVec 5 := BitVec.ofNat 5 (n / 4 % 16)
  let imm : BitVec 6 := BitVec.ofNat 6 n
  let p : BitVec 3 := BitVec.ofNat 3 (n / 8)
  let upd : BitVec 3 := BitVec.ofNat 3 n
  let p7 : BitVec 3 := BitVec.ofNat 3 (n / 128)
  let a5 : BitVec 1 := BitVec.ofNat 1 (n / 32)
  let a9 : BitVec 1 := BitVec.ofNat 1 (n / 512)
  let px : BitVec 3 := BitVec.ofNat 3 (n / 64)
  let flag (i : Nat) : Bool := n.testBit i
  match n / 1024 with
  | 0 => some (.alu (n % 4) rd rs)
  | 1 => some (.alu (4 + n % 4) rd rs)
  | 2 => some (.addi rd imm)
  | 3 => some (.movi rd imm)
  | 4 => if flag 5 then none else some (.shift 0 rd (n % 32))
  | 5 => if flag 5 then none else some (.shift 1 rd (n % 32))
  | 6 => if flag 5 then none else some (.shift 2 rd (n % 32))
  | 7 => if 4 ≤ upd.toNat then none else some (.ldw rd p upd)
  | 8 => if 4 ≤ upd.toNat then none else some (.stw rd p upd)
  | 9 => some (.macd a9 px p (flag 2) (flag 1) (flag 0))
  | 10 =>
    if n % 4 ≠ 0 then none
    else match n / 4 % 8 with
    | 0 => some (.accGet false rd a5)
    | 1 => some (.accGet true rd a5)
    | 2 => if rd = 0 then some (.accShr a5) else none
    | 3 => if rd = 0 then some (.accClr a5) else none
    | 4 => some (.accAdd rd a5)
    | _ => none
  | 11 => if flag 0 then none else some (.padds p7 (BitVec.ofNat 6 (n / 2)))
  | 12 => some (.wmacd a9 px p (flag 2) (flag 1))
  | 13 => if n % 16 = 0 then some (.pmov p7 (BitVec.ofNat 3 (n / 16))) else none
  | _ => none

/-- The registers R113 counts: g1 to g15 as 1 to 15, p0 to p7 as 100 to 107, the accumulators as 200, 201 and the wide
ones as 300, 301. g0 is not counted. -/
def regName (r : BitVec 5) : List Nat := if r = 0 then [] else [r.toNat]

/-- What a short operation reads. -/
def shortReads : ShortOp → List Nat
  | .alu fn rd rs => if fn = 0 then regName rs else regName rd ++ regName rs
  | .addi rd _ => regName rd
  | .movi _ _ => []
  | .shift _ rd _ => regName rd
  | .ldw _ p _ => [100 + p.toNat]
  | .stw rd p _ => regName rd ++ [100 + p.toNat]
  | .macd a px py _ _ _ => [200 + a.toNat, 100 + px.toNat, 100 + py.toNat]
  | .wmacd a px py _ _ => [300 + a.toNat, 100 + px.toNat, 100 + py.toNat]
  | .accGet _ _ a => [200 + a.toNat]
  | .accShr a => [200 + a.toNat]
  | .accClr _ => []
  | .accAdd rd a => regName rd ++ [200 + a.toNat]
  | .padds p _ => [100 + p.toNat]
  | .pmov _ ps => [100 + ps.toNat]

/-- What a short operation writes; a post-update writes its pointer. -/
def shortWrites : ShortOp → List Nat
  | .alu _ rd _ => regName rd
  | .addi rd _ => regName rd
  | .movi rd _ => regName rd
  | .shift _ rd _ => regName rd
  | .ldw rd p upd => regName rd ++ (if upd = 0 then [] else [100 + p.toNat])
  | .stw _ p upd => if upd = 0 then [] else [100 + p.toNat]
  | .macd a px py _ _ _ => [200 + a.toNat, 100 + px.toNat, 100 + py.toNat]
  | .wmacd a px py _ _ => [300 + a.toNat, 100 + px.toNat, 100 + py.toNat]
  | .accGet _ rd _ => regName rd
  | .accShr a => [200 + a.toNat]
  | .accClr a => [200 + a.toNat]
  | .accAdd _ a => [200 + a.toNat]
  | .padds p _ => [100 + p.toNat]
  | .pmov pd _ => [100 + pd.toNat]

/-- LDW, STW, MACD and WMACD access memory. -/
def shortMemory : ShortOp → Bool
  | .ldw _ _ _ => true
  | .stw _ _ _ => true
  | .macd _ _ _ _ _ _ => true
  | .wmacd _ _ _ _ _ => true
  | _ => false

/-- WMACD is for crucibles only. -/
def shortOk (c : CoreId) : ShortOp → Bool
  | .wmacd _ _ _ _ _ => match c with | .crucible _ => true | _ => false
  | _ => true

/-- A legal pair (R113). -/
def pairLegal (c : CoreId) (a b : ShortOp) : Bool :=
  shortOk c a && shortOk c b && !(shortMemory a && shortMemory b) &&
    (shortWrites a).all (fun r => !(shortReads b ++ shortWrites b).contains r) &&
    (shortWrites b).all (fun r => !(shortReads a ++ shortWrites a).contains r)

/-- The two operations of a word (R107): bit 15 must be 0. -/
def decodePair (c : CoreId) (w : BitVec 31) : Option (ShortOp × ShortOp) :=
  if w.getLsbD 15 then none
  else match decodeShort (w.extractLsb' 16 15), decodeShort (w.extractLsb' 0 15) with
  | some a, some b => if pairLegal c a b then some (a, b) else none
  | _, _ => none

/-- A short register operation (R112). -/
def shortAlu (fn : Nat) (x y : Word) : Word :=
  match fn with
  | 0 => y
  | 1 => x + y
  | 2 => x - y
  | 3 => x &&& y
  | 4 => x ||| y
  | 5 => x ^^^ y
  | 6 => boolWord (x.ult y)
  | _ => x * y

/-- A post-update of ±element. -/
def signedElement (down : Bool) (element : Nat) : Option Int := some (if down then -(element : Int) else element)

/-- One short operation. -/
def shortRun (c : CoreId) (op : ShortOp) (k : Thrower) (s : State) : OpRes :=
  match op with
  | .alu fn rd rs => .core (k.setG rd (shortAlu fn (k.greg rd) (k.greg rs)))
  | .addi rd imm => .core (k.setG rd (k.greg rd + imm.signExtend 32))
  | .movi rd imm => .core (k.setG rd (imm.signExtend 32))
  | .shift kind rd n =>
    .core (k.setG rd (match kind with
      | 0 => k.greg rd <<< n
      | 1 => k.greg rd >>> n
      | _ => (k.greg rd).sshiftRight n))
  | .ldw rd p upd => loadOp c rd p (if upd = 3 then 4 else upd) 0 4 (BitVec.ofNat 32) k s
  | .stw rd p upd => storeOp c rd p (if upd = 3 then 4 else upd) 0 4 k s
  | .macd a px py dx dy signed => macdOp c a px py (signedElement dx 4) (signedElement dy 4) signed false k s
  | .wmacd a px py dx dy => wmacdOp c a px py (signedElement dx 16) (signedElement dy 16) k s
  | .accGet high rd a => .core (k.setG rd (if high then (k.accOf a >>> 32).setWidth 32 else (k.accOf a).setWidth 32))
  | .accShr a => .core (k.setAcc a (k.accOf a >>> 32))
  | .accClr a => .core (k.setAcc a 0)
  | .accAdd rd a => .core (k.setAcc a (accAdd (k.accOf a) (k.greg rd).toNat))
  | .padds p imm => .core (k.bump p (4 * imm.toInt))
  | .pmov pd ps => .core (k.setP pd (k.ptr ps))

/-- The second operation of a pair after the first. A legal pair shares no register, so running them one after the other
is running them in one cycle (R113, R114); a fault leaves neither in effect. -/
def pairRun (c : CoreId) (a b : ShortOp) (k : Thrower) (s : State) : OpRes :=
  match shortRun c a k s with
  | .core k1 => 
    (match shortRun c b k1 (s.setCore c k1) with
     | .core k2 => .core k2
     | r => r)
  | .state s1 => 
    (match shortRun c b (s1.core c) s1 with
     | .core k2 => .state (s1.setCore c k2)
     | r => r)
  | r => r

/-- PAIRED_WORD: bits 30 to 0 of the word, bit 31 being 1; an illegal word takes no effect (R113, R115). -/
def execPairedWord (c : CoreId) (w : BitVec 31) (s : State) : Answer :=
  .next (issue c .plain (fun k s =>
    match decodePair c w with
    | some (a, b) => pairRun c a b k s
    | none => .trap causeIllegal 0 0) s)

end Sys2Proof.Machine
end

