-- ==== Sys2Proof/Machine/ThrSys.lean ====
section
/-! DEFINITION. Special registers, BRK, FENCE, WAIT, the events of a core and core reset (R106, R129, R138-R141, R149,
R159). -/

namespace Sys2Proof.Machine

/-- A field of a register, or an illegal access: the rings that may reach a number (R138), with the class's rings. -/
def specialGrant (c : CoreId) (ring : BitVec 2) (num : Nat) (write : Bool) : Bool :=
  let r := ring.toNat
  if num ≤ 9 then true
  else if 0x10 ≤ num ∧ num ≤ 0x17 then true
  else if 0x20 ≤ num ∧ num ≤ 0x22 then !write
  else if 0x40 ≤ num ∧ num ≤ 0x43 then decide (r ≤ num - 0x40) && hasRing c (BitVec.ofNat 2 (num - 0x40))
  else if num = 0x44 ∨ num = 0x45 then decide (r = 0)
  else if 0x46 ≤ num ∧ num ≤ 0x49 then decide (r = 0) && !write
  else if 0x4A ≤ num ∧ num ≤ 0x4D then decide (r ≤ 1) && !write
  else if num = 0x4E ∨ num = 0x4F then decide (r = 0) && !write
  else if 0x50 ≤ num ∧ num ≤ 0x58 then decide (r = 0)
  else if num = 0x59 then decide (r = 0) && !write
  else if num = 0x5A ∨ num = 0x5C then decide (r = 0)
  else if num = 0x5B then decide (r ≤ 1)
  else false

/-- The region MPUSEL selects; a ring the class does not implement has none. -/
def Thrower.selectedRegion (k : Thrower) : MpuRegion := mapGet {} k.mpu k.mpusel.toNat

/-- MPUBASE, MPULIMIT and MPUATTR of a ring the core class does not implement (R138). -/
def selectedRingOk (c : CoreId) (k : Thrower) (num : Nat) : Bool :=
  if 0x56 ≤ num ∧ num ≤ 0x58 then hasRing c (BitVec.ofNat 2 (k.mpusel.toNat / 16)) else true

/-- What MFS reads of a special register that is not a cycle count (R106, R138, R139). -/
def specialRead (c : CoreId) (k : Thrower) (num : Nat) : Word :=
  if num = 0 then k.st
  else if num ≤ 3 then mapGet 0 k.ls (num - 1)
  else if num ≤ 6 then mapGet 0 k.le (num - 4)
  else if num ≤ 9 then mapGet 0 k.lc (num - 7)
  else if num ≤ 0x17 then mapGet 0 k.pm (num - 0x10)
  else if num = 0x21 then k.cychi
  else if num = 0x22 then coreCid c
  else if 0x40 ≤ num ∧ num ≤ 0x43 then mapGet 0 k.sp (num - 0x40)
  else if num = 0x44 ∨ num = 0x45 then mapGet 0 k.vbase (num - 0x44)
  else if num = 0x46 then mapGet 0 k.xcause 0
  else if num = 0x47 then mapGet 0 k.xpc 0
  else if num = 0x48 then mapGet 0 k.xaddr 0
  else if num = 0x49 then mapGet 0 k.xaddrh 0
  else if num = 0x4A then mapGet 0 k.xcause 1
  else if num = 0x4B then mapGet 0 k.xpc 1
  else if num = 0x4C then mapGet 0 k.xaddr 1
  else if num = 0x4D then mapGet 0 k.xaddrh 1
  else if num = 0x4E ∨ num = 0x4F then mapGet 0 k.xsave (num - 0x4E)
  else if num = 0x50 then BitVec.ofNat 32 (k.dfring.toNat * 2 + (if k.df then 1 else 0))
  else if num = 0x51 then k.gtbase
  else if num = 0x52 then k.gtlen.setWidth 32
  else if num = 0x53 then k.erring
  else if num = 0x54 then BitVec.ofNat 32 (k.erdepth.toNat * 65536 + k.erkind.toNat)
  else if num = 0x55 then k.mpusel.setWidth 32
  else if num = 0x56 then k.selectedRegion.base
  else if num = 0x57 then k.selectedRegion.limit
  else if num = 0x58 then k.selectedRegion.attr.setWidth 32
  else if num = 0x59 then k.ipend
  else if num = 0x5A then k.imask
  else if num = 0x5C then k.ltag.setWidth 32
  else 0

/-- Changes the selected region. -/
def Thrower.setRegion (k : Thrower) (r : MpuRegion) : Thrower := { k with mpu := mapSet {} k.mpu k.mpusel.toNat r }

/-- What MTS does to the core, by number (R105, R106, R137-R139). Writing VBASE0 arms the core (R141); writing a loop count
sets its ring tag (R137). -/
def specialWrite (k : Thrower) (num : Nat) (v : Word) : Thrower :=
  if num = 0 then { k with st := mkSt k.ring (if k.ring = 0 then stIe v else k.ie) (stPx v) }
  else if num ≤ 3 then { k with ls := mapSet 0 k.ls (num - 1) v }
  else if num ≤ 6 then { k with le := mapSet 0 k.le (num - 4) v }
  else if num ≤ 9 then ({ k with lc := mapSet 0 k.lc (num - 7) v } : Thrower).setTag (num - 7) k.ring
  else if num ≤ 0x17 then { k with pm := mapSet 0 k.pm (num - 0x10) v }
  else if 0x40 ≤ num ∧ num ≤ 0x43 then { k with sp := mapSet 0 k.sp (num - 0x40) v }
  else if num = 0x44 then
    { k with vbase := mapSet 0 k.vbase 0 (v &&& 0xFFFFFF00), armed := if k.ring = 0 then true else k.armed }
  else if num = 0x45 then { k with vbase := mapSet 0 k.vbase 1 (v &&& 0xFFFFFF00) }
  else if num = 0x50 then { k with df := k.df && !v.getLsbD 0 }
  else if num = 0x51 then { k with gtbase := v &&& 0xFFFFFFF8 }
  else if num = 0x52 then { k with gtlen := v.setWidth 14 }
  else if num = 0x53 then { k with erring := v }
  else if num = 0x54 then
    if 16 < v.toNat / 65536 % 32 then k
    else { k with erkind := v.setWidth 16, erdepth := BitVec.ofNat 5 (v.toNat / 65536) }
  else if num = 0x55 then { k with mpusel := v.setWidth 6 }
  else if num = 0x56 then k.setRegion { k.selectedRegion with base := v }
  else if num = 0x57 then k.setRegion { k.selectedRegion with limit := v }
  else if num = 0x58 then k.setRegion { k.selectedRegion with attr := v.setWidth 4 }
  else if num = 0x5A then { k with imask := v }
  else if num = 0x5B then { k with lapsed := false }
  else if num = 0x5C then { k with ltag := v.setWidth 6 }
  else k

/-- A read of CYCLO: the words issued, with the stall cycles since the last read as a free value (log entry 9); it latches
CYCHI. -/
def readCycles (c : CoreId) (rd : BitVec 5) (k : Thrower) (s : State) : OpRes :=
  let cyc := k.cyc + s.free 64
  .state ((s.used 1).setCore c ({ k with cyc, cychi := (cyc >>> 32).setWidth 32 }.setG rd (cyc.setWidth 32)))

/-- MFS (R106, R138). -/
def execMfs (c : CoreId) (rd : BitVec 5) (imm : BitVec 14) (s : State) : Answer :=
  .next (issue c .plain (fun k s =>
    let num := imm.toNat % 256
    if !specialGrant c k.ring num false ∨ !selectedRingOk c k num then .trap causeIllegal 0 0
    else if num = 0x20 then readCycles c rd k s
    else .core (k.setG rd (specialRead c k num))) s)

/-- MTS to a loop register, which no delay slot may hold (R118). -/
def mtsKind (imm : BitVec 14) : WordKind := if 1 ≤ imm.toNat % 256 ∧ imm.toNat % 256 ≤ 9 then .mtsLoop else .plain

/-- An MTS that changes st.PX while an imprecise exception is pending: that exception is taken first (R134). -/
def pxChangeHeld (k : Thrower) (num : Nat) (v : Word) : Bool :=
  decide (num = 0) && k.imprecise.isSome && decide (stPx v ≠ k.px) && k.slot.isNone

/-- MTS (R106, R138). -/
def execMts (c : CoreId) (rs1 : BitVec 5) (imm : BitVec 14) (s : State) : Answer :=
  let k := s.core c
  let num := imm.toNat % 256
  if k.running && !k.halted && !k.waiting && pxChangeHeld k num (k.greg rs1) then .next (takeImprecise c s)
  else .next (issue c (mtsKind imm) (fun k _ =>
    if !specialGrant c k.ring num true ∨ !selectedRingOk c k num then .trap causeIllegal 0 0
    else .core (specialWrite k num (k.greg rs1))) s)

/-- BRK (R149). -/
def execBrk (c : CoreId) (s : State) : Answer :=
  .next (issue c .plain (fun _ _ => .trap causeBreak 0 0) s)

/-- FENCE: every earlier access of the core has completed already, one command at a time (R129). -/
def execFence (c : CoreId) (s : State) : Answer :=
  .next (issue c .plain (fun k _ => .core k) s)

/-- WAIT (R129). -/
def execWait (c : CoreId) (s : State) : Answer :=
  .next (issue c .plain (fun _ _ => .wait) s)

/-! ### Events of a core -/

/-- A pending imprecise arithmetic exception is taken at a word boundary (R132); none pending, or a delay slot open (R119),
changes nothing. -/
def execImpreciseException (c : CoreId) (s : State) : Answer :=
  let k := s.core c
  .next (if k.running && !k.halted && k.slot.isNone then takeImprecise c s else s)

/-- The 32 interrupt lines of a core stand as given (IPEND, R139, log entry 12); an admitted one is taken at the word
boundary, in the order of R151. -/
def execInterrupt (c : CoreId) (lines : BitVec 32) (s : State) : Answer :=
  .next (boundary c (s.setCore c { s.core c with ipend := lines }))

/-- A watchdog notice that waits is taken when admitted (R149, R151). -/
def execWatchdogNotice (c : CoreId) (s : State) : Answer :=
  .next (if (s.core c).watchdog then boundary c s else s)

/-- A machine-check notice is given and is taken when admitted (R149). -/
def execMachineCheckNotice (c : CoreId) (info : BitVec 4) (s : State) : Answer :=
  .next (boundary c (s.setCore c { s.core c with machineCheck := some info }))

/-- A heartbeat lapses (R159): a supervised core receives a watchdog notice; a crucible is not supervised. -/
def execHeartbeatLapse (c : CoreId) (s : State) : Answer :=
  match c with
  | .crucible _ => .next s
  | _ =>
    let k := s.core c
    .next (if k.running && !k.halted then boundary c (s.setCore c { k with watchdog := true, lapsed := true }) else s)

/-- CORE_RESET (R140). -/
def execCoreReset (c : CoreId) (s : State) : Answer := .next (coreReset c s)

end Sys2Proof.Machine
end

