-- ==== Sys2Proof/Machine/Dispatch.lean ====
section
/-! DEFINITION. One arm per command: each one direct call of its meaning. -/

namespace Sys2Proof.Machine

def exec (i : Instr) (s : State) : Host.Outcome State Fault Refusal :=
  match i with
  | .add c rd rs1 rs2 => Sys2Proof.Machine.execAdd c rd rs1 rs2 s
  | .sub c rd rs1 rs2 => Sys2Proof.Machine.execSub c rd rs1 rs2 s
  | .andW c rd rs1 rs2 => Sys2Proof.Machine.execAnd c rd rs1 rs2 s
  | .orW c rd rs1 rs2 => Sys2Proof.Machine.execOr c rd rs1 rs2 s
  | .xorW c rd rs1 rs2 => Sys2Proof.Machine.execXor c rd rs1 rs2 s
  | .sll c rd rs1 rs2 => Sys2Proof.Machine.execSll c rd rs1 rs2 s
  | .srl c rd rs1 rs2 => Sys2Proof.Machine.execSrl c rd rs1 rs2 s
  | .sra c rd rs1 rs2 => Sys2Proof.Machine.execSra c rd rs1 rs2 s
  | .slt c rd rs1 rs2 => Sys2Proof.Machine.execSlt c rd rs1 rs2 s
  | .sltu c rd rs1 rs2 => Sys2Proof.Machine.execSltu c rd rs1 rs2 s
  | .mul c rd rs1 rs2 => Sys2Proof.Machine.execMul c rd rs1 rs2 s
  | .mulhu c rd rs1 rs2 => Sys2Proof.Machine.execMulhu c rd rs1 rs2 s
  | .mulh c rd rs1 rs2 => Sys2Proof.Machine.execMulh c rd rs1 rs2 s
  | .addv c rd rs1 rs2 => Sys2Proof.Machine.execAddv c rd rs1 rs2 s
  | .subv c rd rs1 rs2 => Sys2Proof.Machine.execSubv c rd rs1 rs2 s
  | .mulv c rd rs1 rs2 => Sys2Proof.Machine.execMulv c rd rs1 rs2 s
  | .div c rd rs1 rs2 => Sys2Proof.Machine.execDiv c rd rs1 rs2 s
  | .divu c rd rs1 rs2 => Sys2Proof.Machine.execDivu c rd rs1 rs2 s
  | .rem c rd rs1 rs2 => Sys2Proof.Machine.execRem c rd rs1 rs2 s
  | .remu c rd rs1 rs2 => Sys2Proof.Machine.execRemu c rd rs1 rs2 s
  | .addi c rd rs1 imm => Sys2Proof.Machine.execAddi c rd rs1 imm s
  | .andi c rd rs1 imm => Sys2Proof.Machine.execAndi c rd rs1 imm s
  | .ori c rd rs1 imm => Sys2Proof.Machine.execOri c rd rs1 imm s
  | .xori c rd rs1 imm => Sys2Proof.Machine.execXori c rd rs1 imm s
  | .slli c rd rs1 imm => Sys2Proof.Machine.execSlli c rd rs1 imm s
  | .srli c rd rs1 imm => Sys2Proof.Machine.execSrli c rd rs1 imm s
  | .srai c rd rs1 imm => Sys2Proof.Machine.execSrai c rd rs1 imm s
  | .slti c rd rs1 imm => Sys2Proof.Machine.execSlti c rd rs1 imm s
  | .sltiu c rd rs1 imm => Sys2Proof.Machine.execSltiu c rd rs1 imm s
  | .addvi c rd rs1 imm => Sys2Proof.Machine.execAddvi c rd rs1 imm s
  | .lui c rd imm => Sys2Proof.Machine.execLui c rd imm s
  | .movi c rd imm => Sys2Proof.Machine.execMovi c rd imm s
  | .mov c rd rs => Sys2Proof.Machine.execMov c rd rs s
  | .ldw c rd p mode disp => Sys2Proof.Machine.execLdw c rd p mode disp s
  | .ldh c rd p mode disp => Sys2Proof.Machine.execLdh c rd p mode disp s
  | .ldhu c rd p mode disp => Sys2Proof.Machine.execLdhu c rd p mode disp s
  | .ldb c rd p mode disp => Sys2Proof.Machine.execLdb c rd p mode disp s
  | .ldbu c rd p mode disp => Sys2Proof.Machine.execLdbu c rd p mode disp s
  | .stw c rd p mode disp => Sys2Proof.Machine.execStw c rd p mode disp s
  | .sth c rd p mode disp => Sys2Proof.Machine.execSth c rd p mode disp s
  | .stb c rd p mode disp => Sys2Proof.Machine.execStb c rd p mode disp s
  | .ldgw c rd rs1 imm => Sys2Proof.Machine.execLdgw c rd rs1 imm s
  | .stgw c rd rs1 imm => Sys2Proof.Machine.execStgw c rd rs1 imm s
  | .beq c rs1 rs2 off => Sys2Proof.Machine.execBeq c rs1 rs2 off s
  | .bne c rs1 rs2 off => Sys2Proof.Machine.execBne c rs1 rs2 off s
  | .blt c rs1 rs2 off => Sys2Proof.Machine.execBlt c rs1 rs2 off s
  | .bge c rs1 rs2 off => Sys2Proof.Machine.execBge c rs1 rs2 off s
  | .bltu c rs1 rs2 off => Sys2Proof.Machine.execBltu c rs1 rs2 off s
  | .bgeu c rs1 rs2 off => Sys2Proof.Machine.execBgeu c rs1 rs2 off s
  | .beqz c rs1 rs2 off => Sys2Proof.Machine.execBeqz c rs1 rs2 off s
  | .bnez c rs1 rs2 off => Sys2Proof.Machine.execBnez c rs1 rs2 off s
  | .jmp c off => Sys2Proof.Machine.execJmp c off s
  | .call c off => Sys2Proof.Machine.execCall c off s
  | .jr c rs1 => Sys2Proof.Machine.execJr c rs1 s
  | .callr c rd rs1 => Sys2Proof.Machine.execCallr c rd rs1 s
  | .ret c fields => Sys2Proof.Machine.execRet c fields s
  | .callg c rd rs1 imm => Sys2Proof.Machine.execCallg c rd rs1 imm s
  | .retg c fields => Sys2Proof.Machine.execRetg c fields s
  | .eret c fields => Sys2Proof.Machine.execEret c fields s
  | .brk c => Sys2Proof.Machine.execBrk c s
  | .fence c => Sys2Proof.Machine.execFence c s
  | .wait c => Sys2Proof.Machine.execWait c s
  | .mfs c rd imm => Sys2Proof.Machine.execMfs c rd imm s
  | .mts c rs1 imm => Sys2Proof.Machine.execMts c rs1 imm s
  | .loopi c k count off => Sys2Proof.Machine.execLoopi c k count off s
  | .loop c k rs zero off => Sys2Proof.Machine.execLoop c k rs zero off s
  | .lclr c k zero => Sys2Proof.Machine.execLclr c k zero s
  | .psetl c pd rs1 => Sys2Proof.Machine.execPsetl c pd rs1 s
  | .pseth c pd imm => Sys2Proof.Machine.execPseth c pd imm s
  | .pget c rd ps => Sys2Proof.Machine.execPget c rd ps s
  | .pgeth c rd ps => Sys2Proof.Machine.execPgeth c rd ps s
  | .paddi c pd imm => Sys2Proof.Machine.execPaddi c pd imm s
  | .padd c pd rs1 => Sys2Proof.Machine.execPadd c pd rs1 s
  | .padds c p imm => Sys2Proof.Machine.execPadds c p imm s
  | .pmov c pd ps => Sys2Proof.Machine.execPmov c pd ps s
  | .macd c a px py mx my sgn neg zero => Sys2Proof.Machine.execMacd c a px py mx my sgn neg zero s
  | .accclr c a => Sys2Proof.Machine.execAccclr c a s
  | .acclo c a rd => Sys2Proof.Machine.execAcclo c a rd s
  | .acchi c a rd => Sys2Proof.Machine.execAcchi c a rd s
  | .acctop c a rd => Sys2Proof.Machine.execAcctop c a rd s
  | .accshr c a => Sys2Proof.Machine.execAccshr c a s
  | .accset c a rd rs1 rs2 => Sys2Proof.Machine.execAccset c a rd rs1 rs2 s
  | .accadd c a rs1 => Sys2Proof.Machine.execAccadd c a rs1 s
  | .mac c a rs1 rs2 => Sys2Proof.Machine.execMac c a rs1 rs2 s
  | .wmacd c a px py mx my sgn neg zero => Sys2Proof.Machine.execWmacd c a px py mx my sgn neg zero s
  | .wmulacc c a rs1 rs2 => Sys2Proof.Machine.execWmulacc c a rs1 rs2 s
  | .wsqracc c a rs1 rs2 => Sys2Proof.Machine.execWsqracc c a rs1 rs2 s
  | .wload c a rs1 => Sys2Proof.Machine.execWload c a rs1 s
  | .wstore c a rs1 => Sys2Proof.Machine.execWstore c a rs1 s
  | .wslot c rs1 rs2 => Sys2Proof.Machine.execWslot c rs1 rs2 s
  | .wclr c a => Sys2Proof.Machine.execWclr c a s
  | .wshr c a => Sys2Proof.Machine.execWshr c a s
  | .wget c a rs1 rs2 => Sys2Proof.Machine.execWget c a rs1 rs2 s
  | .wput c a rs1 rs2 => Sys2Proof.Machine.execWput c a rs1 rs2 s
  | .pairedWord c w => Sys2Proof.Machine.execPairedWord c w s
  | .impreciseException c => Sys2Proof.Machine.execImpreciseException c s
  | .interrupt c lines => Sys2Proof.Machine.execInterrupt c lines s
  | .watchdogNotice c => Sys2Proof.Machine.execWatchdogNotice c s
  | .machineCheckNotice c info => Sys2Proof.Machine.execMachineCheckNotice c info s
  | .coreReset c => Sys2Proof.Machine.execCoreReset c s
  | .heartbeatLapse c => Sys2Proof.Machine.execHeartbeatLapse c s
  | .supervisorRestart c ieBound => Sys2Proof.Machine.execSupervisorRestart c ieBound s
  | .sysIdentify rq => Sys2Proof.Machine.execSysIdentify rq s
  | .sysGetCaps rq => Sys2Proof.Machine.execSysGetCaps rq s
  | .sysSetTime rq => Sys2Proof.Machine.execSysSetTime rq s
  | .sysResetFunction rq => Sys2Proof.Machine.execSysResetFunction rq s
  | .sysGetHealth rq => Sys2Proof.Machine.execSysGetHealth rq s
  | .sagCreate rq => Sys2Proof.Machine.execSagCreate rq s
  | .sagDestroy rq => Sys2Proof.Machine.execSagDestroy rq s
  | .sagSetPolicy rq => Sys2Proof.Machine.execSagSetPolicy rq s
  | .sagBindQueue rq => Sys2Proof.Machine.execSagBindQueue rq s
  | .sagQuery rq => Sys2Proof.Machine.execSagQuery rq s
  | .sagSetLatency rq => Sys2Proof.Machine.execSagSetLatency rq s
  | .keyGenerate rq => Sys2Proof.Machine.execKeyGenerate rq s
  | .keyImportWrapped rq => Sys2Proof.Machine.execKeyImportWrapped rq s
  | .keyExportWrapped rq => Sys2Proof.Machine.execKeyExportWrapped rq s
  | .keyDerive rq => Sys2Proof.Machine.execKeyDerive rq s
  | .keyDestroy rq => Sys2Proof.Machine.execKeyDestroy rq s
  | .keyQuery rq => Sys2Proof.Machine.execKeyQuery rq s
  | .keyRotate rq => Sys2Proof.Machine.execKeyRotate rq s
  | .keySetChain rq => Sys2Proof.Machine.execKeySetChain rq s
  | .sesOpen rq => Sys2Proof.Machine.execSesOpen rq s
  | .sesClose rq => Sys2Proof.Machine.execSesClose rq s
  | .sesSaveContext rq => Sys2Proof.Machine.execSesSaveContext rq s
  | .sesRestoreContext rq => Sys2Proof.Machine.execSesRestoreContext rq s
  | .sesQueryUsage rq => Sys2Proof.Machine.execSesQueryUsage rq s
  | .pkSign rq => Sys2Proof.Machine.execPkSign rq s
  | .pkVerify rq => Sys2Proof.Machine.execPkVerify rq s
  | .pkKeypair rq => Sys2Proof.Machine.execPkKeypair rq s
  | .pkAgree rq => Sys2Proof.Machine.execPkAgree rq s
  | .pkEncaps rq => Sys2Proof.Machine.execPkEncaps rq s
  | .pkDecaps rq => Sys2Proof.Machine.execPkDecaps rq s
  | .pkLeaseRaw rq => Sys2Proof.Machine.execPkLeaseRaw rq s
  | .pkReleaseRaw rq => Sys2Proof.Machine.execPkReleaseRaw rq s
  | .hsServerBegin rq => Sys2Proof.Machine.execHsServerBegin rq s
  | .hsServerContinue rq => Sys2Proof.Machine.execHsServerContinue rq s
  | .hsClientBegin rq => Sys2Proof.Machine.execHsClientBegin rq s
  | .hsKeyUpdate rq => Sys2Proof.Machine.execHsKeyUpdate rq s
  | .hsExportSecret rq => Sys2Proof.Machine.execHsExportSecret rq s
  | .hsAbort rq => Sys2Proof.Machine.execHsAbort rq s
  | .talRead rq => Sys2Proof.Machine.execTalRead rq s
  | .talAck rq => Sys2Proof.Machine.execTalAck rq s
  | .talGetSeal rq => Sys2Proof.Machine.execTalGetSeal rq s
  | .entGetBytes rq => Sys2Proof.Machine.execEntGetBytes rq s
  | .entReseed rq => Sys2Proof.Machine.execEntReseed rq s
  | .entStatus rq => Sys2Proof.Machine.execEntStatus rq s
  | .cfgRead rq => Sys2Proof.Machine.execCfgRead rq s
  | .cfgWrite rq => Sys2Proof.Machine.execCfgWrite rq s
  | .flsProtect rq => Sys2Proof.Machine.execFlsProtect rq s
  | .flsUnlockGroup rq => Sys2Proof.Machine.execFlsUnlockGroup rq s
  | .lcGetState rq => Sys2Proof.Machine.execLcGetState rq s
  | .lcTransition rq fuses => Sys2Proof.Machine.execLcTransition rq fuses s
  | .dbgPresentCert rq => Sys2Proof.Machine.execDbgPresentCert rq s
  | .dbgClose rq => Sys2Proof.Machine.execDbgClose rq s
  | .ccpActivate rq card => Sys2Proof.Machine.execCcpActivate rq card s
  | .ccpApdu rq card => Sys2Proof.Machine.execCcpApdu rq card s
  | .ccpDeactivate rq => Sys2Proof.Machine.execCcpDeactivate rq s
  | .arcMount rq card => Sys2Proof.Machine.execArcMount rq card s
  | .arcExport rq => Sys2Proof.Machine.execArcExport rq s
  | .arcImport rq blocks removed => Sys2Proof.Machine.execArcImport rq blocks removed s
  | .arcUnmount rq => Sys2Proof.Machine.execArcUnmount rq s
  | .tagRead rq => Sys2Proof.Machine.execTagRead rq s
  | .tagWrite rq worn => Sys2Proof.Machine.execTagWrite rq worn s
  | .tagSetPassword rq worn => Sys2Proof.Machine.execTagSetPassword rq worn s
  | .bstRunSlice rq => Sys2Proof.Machine.execBstRunSlice rq s
  | .bstStatus rq => Sys2Proof.Machine.execBstStatus rq s
  | .evrOpenWindow rq => Sys2Proof.Machine.execEvrOpenWindow rq s
  | .evrRead rq => Sys2Proof.Machine.execEvrRead rq s
  | .evrClear rq => Sys2Proof.Machine.execEvrClear rq s
  | .pwrSetFloor rq => Sys2Proof.Machine.execPwrSetFloor rq s
  | .pwrStatus rq powerMilliwatt => Sys2Proof.Machine.execPwrStatus rq powerMilliwatt s
  | .updStage rq => Sys2Proof.Machine.execUpdStage rq s
  | .updActivate rq => Sys2Proof.Machine.execUpdActivate rq s
  | .updRollback rq => Sys2Proof.Machine.execUpdRollback rq s
  | .unitRetire rq => Sys2Proof.Machine.execUnitRetire rq s
  | .unitRecalibrate rq passes => Sys2Proof.Machine.execUnitRecalibrate rq passes s
  | .modLoad rq => Sys2Proof.Machine.execModLoad rq s
  | .modUnload rq => Sys2Proof.Machine.execModUnload rq s
  | .modCall rq outcome => Sys2Proof.Machine.execModCall rq outcome s
  | .moduleCallTimeout call => Sys2Proof.Machine.execModuleCallTimeout call s
  | .tmpStatus rq => Sys2Proof.Machine.execTmpStatus rq s
  | .tmpUnlock rq => Sys2Proof.Machine.execTmpUnlock rq s
  | .tmpSetResponse rq => Sys2Proof.Machine.execTmpSetResponse rq s
  | .dataDescriptor qp d => Sys2Proof.Machine.execDataDescriptor qp d s
  | .mailboxRequestWrite fn offset bytes => Sys2Proof.Machine.execMailboxRequestWrite fn offset bytes s
  | .dmbCtrl fn value => Sys2Proof.Machine.execDmbCtrl fn value s
  | .hifQpOwner qp value => Sys2Proof.Machine.execHifQpOwner qp value s
  | .queueEnable fn => Sys2Proof.Machine.execQueueEnable fn s
  | .queueDisable fn => Sys2Proof.Machine.execQueueDisable fn s
  | .queueDrainComplete qp => Sys2Proof.Machine.execQueueDrainComplete qp s
  | .sqTail fn qp value => Sys2Proof.Machine.execSqTail fn qp value s
  | .cqHead fn qp value => Sys2Proof.Machine.execCqHead fn qp value s
  | .descriptorFetch qp fetch => Sys2Proof.Machine.execDescriptorFetch qp fetch s
  | .tokenGrant => Sys2Proof.Machine.execTokenGrant s
  | .msixCoalesceTimeout qp => Sys2Proof.Machine.execMsixCoalesceTimeout qp s
  | .msixUnmask fn vector => Sys2Proof.Machine.execMsixUnmask fn vector s
  | .barUnsupportedRequest fn bar2 offset size => Sys2Proof.Machine.execBarUnsupportedRequest fn bar2 offset size s
  | .busMasterTimeout fn => Sys2Proof.Machine.execBusMasterTimeout fn s
  | .functionLevelReset fn => Sys2Proof.Machine.execFunctionLevelReset fn s
  | .pciePerstNAssert => Sys2Proof.Machine.execPciePerstNAssert s
  | .pciePerstNRelease => Sys2Proof.Machine.execPciePerstNRelease s
  | .linkLoss kind => Sys2Proof.Machine.execLinkLoss kind s
  | .configWrite fn field value => Sys2Proof.Machine.execConfigWrite fn field value s
  | .laneJobStart job => Sys2Proof.Machine.execLaneJobStart job s
  | .contextMove job => Sys2Proof.Machine.execContextMove job s
  | .laneJobComplete job dmaFails => Sys2Proof.Machine.execLaneJobComplete job dmaFails s
  | .releaseComplete job spillFailures => Sys2Proof.Machine.execReleaseComplete job spillFailures s
  | .granuleZeroed spill => Sys2Proof.Machine.execGranuleZeroed spill s
  | .laneFaultDetected lane detector addedMicros => Sys2Proof.Machine.execLaneFaultDetected lane detector addedMicros s
  | .clKeyload c value => Sys2Proof.Machine.execClKeyload c value s
  | .keyloadDone => Sys2Proof.Machine.execKeyloadDone s
  | .crucibleJobStart => Sys2Proof.Machine.execCrucibleJobStart s
  | .crucibleJobComplete crucible attempts => Sys2Proof.Machine.execCrucibleJobComplete crucible attempts s
  | .crucibleFaultDetected crucible detector ranCycles addedMicros => Sys2Proof.Machine.execCrucibleFaultDetected crucible detector ranCycles addedMicros s
  | .rawcmdWmulacc c crucible wacc => Sys2Proof.Machine.execRawcmdWmulacc c crucible wacc s
  | .rawcmdWsqracc c crucible wacc => Sys2Proof.Machine.execRawcmdWsqracc c crucible wacc s
  | .rawcmdWload c crucible wacc => Sys2Proof.Machine.execRawcmdWload c crucible wacc s
  | .rawcmdWstore c crucible wacc => Sys2Proof.Machine.execRawcmdWstore c crucible wacc s
  | .rawcmdEnd c crucible wacc => Sys2Proof.Machine.execRawcmdEnd c crucible wacc s
  | .rawOperation crucible => Sys2Proof.Machine.execRawOperation crucible s
  | .rawFault crucible => Sys2Proof.Machine.execRawFault crucible s
  | .leaseLimitExpiry lease => Sys2Proof.Machine.execLeaseLimitExpiry lease s
  | .keyLoadComplete job line => Sys2Proof.Machine.execKeyLoadComplete job line s
  | .channelFailing channel => Sys2Proof.Machine.execChannelFailing channel s
  | .driftCheck channel driftPercent => Sys2Proof.Machine.execDriftCheck channel driftPercent s
  | .retrainStep passes last => Sys2Proof.Machine.execRetrainStep passes last s
  | .zqCalibration channel => Sys2Proof.Machine.execZqCalibration channel s
  | .settingsRecordWrite saggar => Sys2Proof.Machine.execSettingsRecordWrite saggar s
  | .logReclaim => Sys2Proof.Machine.execLogReclaim s
  | .handshakeExpiry handshake => Sys2Proof.Machine.execHandshakeExpiry handshake s
  | .keyupdatePrepare handshake => Sys2Proof.Machine.execKeyupdatePrepare handshake s
  | .spanClose => Sys2Proof.Machine.execSpanClose s
  | .recordsReadable => Sys2Proof.Machine.execRecordsReadable s
  | .ackStateJournal => Sys2Proof.Machine.execAckStateJournal s
  | .byteSecondTick => Sys2Proof.Machine.execByteSecondTick s
  | .sourceBlock => Sys2Proof.Machine.execSourceBlock s
  | .startupTestComplete failing => Sys2Proof.Machine.execStartupTestComplete failing s
  | .healthFailure pair test => Sys2Proof.Machine.execHealthFailure pair test s
  | .drbgRequestStart => Sys2Proof.Machine.execDrbgRequestStart s
  | .drbgGenerateComplete inst => Sys2Proof.Machine.execDrbgGenerateComplete inst s
  | .entTestctl c value => Sys2Proof.Machine.execEntTestctl c value s
  | .flcProgram c => Sys2Proof.Machine.execFlcProgram c s
  | .flcErase c => Sys2Proof.Machine.execFlcErase c s
  | .programComplete verifies => Sys2Proof.Machine.execProgramComplete verifies s
  | .eraseComplete pulses verifies => Sys2Proof.Machine.execEraseComplete pulses verifies s
  | .flashWindowRead c offset => Sys2Proof.Machine.execFlashWindowRead c offset s
  | .eraseResume => Sys2Proof.Machine.execEraseResume s
  | .backgroundReerase sector => Sys2Proof.Machine.execBackgroundReerase sector s
  | .unlockLockoutExpiry group => Sys2Proof.Machine.execUnlockLockoutExpiry group s
  | .tamperAlarm d designs under => Sys2Proof.Machine.execTamperAlarm d designs under s
  | .detectorStimulus d designs => Sys2Proof.Machine.execDetectorStimulus d designs s
  | .tamperLogEntry => Sys2Proof.Machine.execTamperLogEntry s
  | .backupDomainStart => Sys2Proof.Machine.execBackupDomainStart s
  | .tmpClass c value => Sys2Proof.Machine.execTmpClass c value s
  | .porNAssert => Sys2Proof.Machine.execPorNAssert s
  | .boot env => Sys2Proof.Machine.execBoot env s
  | .computeDieRelease => Sys2Proof.Machine.execComputeDieRelease s
  | .lifecycleReset => Sys2Proof.Machine.execLifecycleReset s
  | .pwrfailNAssert => Sys2Proof.Machine.execPwrfailNAssert s
  | .railUndervoltage vault => Sys2Proof.Machine.execRailUndervoltage vault s
  | .powerGoodFall input => Sys2Proof.Machine.execPowerGoodFall input s
  | .commitComplete => Sys2Proof.Machine.execCommitComplete s
  | .commitStopped => Sys2Proof.Machine.execCommitStopped s
  | .thermalAlert junction => Sys2Proof.Machine.execThermalAlert junction s
  | .throttleStep junction => Sys2Proof.Machine.execThrottleStep junction s
  | .thermalTrip junction => Sys2Proof.Machine.execThermalTrip junction s
  | .pmAlert status coreCollapsed => Sys2Proof.Machine.execPmAlert status coreCollapsed s
  | .pmbusRetry answers millivolt => Sys2Proof.Machine.execPmbusRetry answers millivolt s
  | .avsWindow slackPercent minMillivolt acknowledged => Sys2Proof.Machine.execAvsWindow slackPercent minMillivolt acknowledged s
  | .pllLossOfLock pll => Sys2Proof.Machine.execPllLossOfLock pll s
  | .pllRelock pll => Sys2Proof.Machine.execPllRelock pll s
  | .crystalLoss => Sys2Proof.Machine.execCrystalLoss s
  | .crystalReturn => Sys2Proof.Machine.execCrystalReturn s
  | .ratioMeasurement ratio => Sys2Proof.Machine.execRatioMeasurement ratio s
  | .coneEntry => Sys2Proof.Machine.execConeEntry s
  | .coneEntryComplete => Sys2Proof.Machine.execConeEntryComplete s
  | .wake source => Sys2Proof.Machine.execWake source s
  | .coneExitComplete => Sys2Proof.Machine.execConeExitComplete s
  | .meshFlitError a b => Sys2Proof.Machine.execMeshFlitError a b s
  | .meshLinkReroute a b => Sys2Proof.Machine.execMeshLinkReroute a b s
  | .d2dFlitError => Sys2Proof.Machine.execD2dFlitError s
  | .d2dRetrain => Sys2Proof.Machine.execD2dRetrain s
  | .d2dLinkStart pairingMatches => Sys2Proof.Machine.execD2dLinkStart pairingMatches s
  | .lcsHoursTick => Sys2Proof.Machine.execLcsHoursTick s
  | .debugSessionExpiry => Sys2Proof.Machine.execDebugSessionExpiry s
  | .custodianPresenceChange port present => Sys2Proof.Machine.execCustodianPresenceChange port present s
  | .cardTimeout port => Sys2Proof.Machine.execCardTimeout port s
  | .quorumSessionTimeout => Sys2Proof.Machine.execQuorumSessionTimeout s
  | .archivePresenceChange present => Sys2Proof.Machine.execArchivePresenceChange present s
  | .kilnBlockWritten write => Sys2Proof.Machine.execKilnBlockWritten write s
  | .fieldPresent => Sys2Proof.Machine.execFieldPresent s
  | .fieldLost => Sys2Proof.Machine.execFieldLost s
  | .select flag action matching => Sys2Proof.Machine.execSelect flag action matching s
  | .query sel session target q slot => Sys2Proof.Machine.execQuery sel session target q slot s
  | .queryadjust session updn slot => Sys2Proof.Machine.execQueryadjust session updn slot s
  | .queryrep session => Sys2Proof.Machine.execQueryrep session s
  | .ack rn => Sys2Proof.Machine.execAck rn s
  | .nak => Sys2Proof.Machine.execNak s
  | .reqRn rn => Sys2Proof.Machine.execReqRn rn s
  | .read bank ptr count handle => Sys2Proof.Machine.execRead bank ptr count handle s
  | .write bank ptr data handle weakField worn => Sys2Proof.Machine.execWrite bank ptr data handle weakField worn s
  | .blockwrite bank ptr data handle weakField worn => Sys2Proof.Machine.execBlockwrite bank ptr data handle weakField worn s
  | .access password handle => Sys2Proof.Machine.execAccess password handle s
  | .invalidCommand => Sys2Proof.Machine.execInvalidCommand s
  | .accessLockoutExpiry => Sys2Proof.Machine.execAccessLockoutExpiry s
  | .sessionFlagExpiry flag => Sys2Proof.Machine.execSessionFlagExpiry flag s
  | .tagPowerUp partly slot => Sys2Proof.Machine.execTagPowerUp partly slot s
  | .rowErase row => Sys2Proof.Machine.execRowErase row s
  | .mirrorSnapshot => Sys2Proof.Machine.execMirrorSnapshot s
  | .backupNoAnswer => Sys2Proof.Machine.execBackupNoAnswer s
  | .spareRotation cls incoming outgoing => Sys2Proof.Machine.execSpareRotation cls incoming outgoing s
  | .sliceStart => Sys2Proof.Machine.execSliceStart s
  | .sliceComplete run result => Sys2Proof.Machine.execSliceComplete run result s
  | .sliceRequestExpiry request => Sys2Proof.Machine.execSliceRequestExpiry request s
  | .bstLinkctl c value => Sys2Proof.Machine.execBstLinkctl c value s
  | .linkCheckDone locked errors => Sys2Proof.Machine.execLinkCheckDone locked errors s
  | .eventRecord source detail fault => Sys2Proof.Machine.execEventRecord source detail fault s
  | .recorderSnapshot => Sys2Proof.Machine.execRecorderSnapshot s
  | .windowExpiry window => Sys2Proof.Machine.execWindowExpiry window s
  | .histogramSample metric value => Sys2Proof.Machine.execHistogramSample metric value s
  | .mctpPacket vdm packet => Sys2Proof.Machine.execMctpPacket vdm packet s
  | .setEndpointId vdm eid => Sys2Proof.Machine.execSetEndpointId vdm eid s
  | .getEndpointId vdm => Sys2Proof.Machine.execGetEndpointId vdm s
  | .getEndpointUuid vdm => Sys2Proof.Machine.execGetEndpointUuid vdm s
  | .getMctpVersionSupport vdm => Sys2Proof.Machine.execGetMctpVersionSupport vdm s
  | .getMessageTypeSupport vdm => Sys2Proof.Machine.execGetMessageTypeSupport vdm s
  | .entdaa addr => Sys2Proof.Machine.execEntdaa addr s
  | .setdasa addr => Sys2Proof.Machine.execSetdasa addr s
  | .setnewda addr => Sys2Proof.Machine.execSetnewda addr s
  | .rstdaa => Sys2Proof.Machine.execRstdaa s
  | .getpid => Sys2Proof.Machine.execGetpid s
  | .getbcr => Sys2Proof.Machine.execGetbcr s
  | .getdcr => Sys2Proof.Machine.execGetdcr s
  | .getstatus => Sys2Proof.Machine.execGetstatus s
  | .getmxds => Sys2Proof.Machine.execGetmxds s
  | .enec events => Sys2Proof.Machine.execEnec events s
  | .disec events => Sys2Proof.Machine.execDisec events s
  | .getVersion t request => Sys2Proof.Machine.execGetVersion t request s
  | .getCapabilities t request => Sys2Proof.Machine.execGetCapabilities t request s
  | .negotiateAlgorithms t p384 sha384 request => Sys2Proof.Machine.execNegotiateAlgorithms t p384 sha384 request s
  | .getDigests t request => Sys2Proof.Machine.execGetDigests t request s
  | .getCertificate t slot offset length request => Sys2Proof.Machine.execGetCertificate t slot offset length request s
  | .challenge t slot summary nonce request => Sys2Proof.Machine.execChallenge t slot summary nonce request s
  | .getMeasurements t index signed nonce request => Sys2Proof.Machine.execGetMeasurements t index signed nonce request s
  | .respondIfReady t token => Sys2Proof.Machine.execRespondIfReady t token s
  | .doeObject vendor type body => Sys2Proof.Machine.execDoeObject vendor type body s
  | .doeAbort => Sys2Proof.Machine.execDoeAbort s
  | .extest => Sys2Proof.Machine.execExtest s
  | .samplePreload => Sys2Proof.Machine.execSamplePreload s
  | .idcode => Sys2Proof.Machine.execIdcode s
  | .clamp => Sys2Proof.Machine.execClamp s
  | .highz => Sys2Proof.Machine.execHighz s
  | .computeTap => Sys2Proof.Machine.execComputeTap s
  | .vaultTap => Sys2Proof.Machine.execVaultTap s
  | .bypass => Sys2Proof.Machine.execBypass s
  | .trstN => Sys2Proof.Machine.execTrstN s
  | .drainComplete id => Sys2Proof.Machine.execDrainComplete id s
  | .coneAonLo c => Sys2Proof.Machine.execConeAonLo c s
  | .clActBytesLo c lane => Sys2Proof.Machine.execClActBytesLo c lane s
  | .cruActCycLo c crucible => Sys2Proof.Machine.execCruActCycLo c crucible s
  | .talSeqLo c => Sys2Proof.Machine.execTalSeqLo c s
  | .talAckedLo c => Sys2Proof.Machine.execTalAckedLo c s
  | .talMinLo c => Sys2Proof.Machine.execTalMinLo c s
  | .entOutLo c => Sys2Proof.Machine.execEntOutLo c s
  | .entHostLo c => Sys2Proof.Machine.execEntHostLo c s
  | .arcNextLo c => Sys2Proof.Machine.execArcNextLo c s
  | .bstLinkbitsLo c => Sys2Proof.Machine.execBstLinkbitsLo c s
  | .sbiDrops c => Sys2Proof.Machine.execSbiDrops c s
  | .coneReserve c value => Sys2Proof.Machine.execConeReserve c value s
  | .coneVlimit c value => Sys2Proof.Machine.execConeVlimit c value s
  | .registerWrite target value => Sys2Proof.Machine.execRegisterWrite target value s
  | .dmbDoorbell fn value => Sys2Proof.Machine.execDmbDoorbell fn value s
  | .pmeTurnOff => Sys2Proof.Machine.execPmeTurnOff s
  | .linkUp rate width => Sys2Proof.Machine.execLinkUp rate width s
  | .tamperAlarmEnd d => Sys2Proof.Machine.execTamperAlarmEnd d s
  | .thermalAlertClear junction => Sys2Proof.Machine.execThermalAlertClear junction s
  | .timingMarginLow domain => Sys2Proof.Machine.execTimingMarginLow domain s
  | .lockseqCopyWrite => Sys2Proof.Machine.execLockseqCopyWrite s
  | .lockstepMismatch => Sys2Proof.Machine.execLockstepMismatch s
  | .mainPowerLoss => Sys2Proof.Machine.execMainPowerLoss s
  | .vddHoldInRange => Sys2Proof.Machine.execVddHoldInRange s
  | .debugHaltRequest cls unit => Sys2Proof.Machine.execDebugHaltRequest cls unit s

end Sys2Proof.Machine
end

