-- ==== Sys2Proof/Safety.lean ====
section
/-! DEFINITION. What statements count on in a state: the canonical form of the memories, and the legal values of registers. -/

namespace Sys2Proof

open Machine

/-- The internal address space is in canonical form: addresses rising, no listed byte 0. -/
abbrev Memory.wf (m : FMap Byte) : Prop := mapWf 0 m = true

/-- The step answered a next state: the part went on. -/
def goesOn (o : Host.Outcome State Fault Refusal) : Prop := ∃ t, o = .next t

end Sys2Proof
end

