-- ==== Sys2Proof/Certificates/Slice0/Obligations.lean ====
section
/-! DEFINITION. The statements about the model: `Obligations.<Name>`, and the words they are made of. -/

set_option linter.unusedVariables false

namespace Sys2Proof.Claims

open Sys2Proof.Machine

/-! ### Words of the statements -/

/-- Core `c` can issue its next word with nothing in the way: it runs, it may fetch at an aligned pc, no delay slot is open,
no armed loop ends here, nothing waits to be taken (R118-R122, R129, R140, R143, R151, R156). -/
def ready (c : CoreId) (s : State) : Bool :=
  let k := s.core c
  k.running && !k.halted && !k.waiting && k.slot.isNone && k.imprecise.isNone && !k.eventPending &&
    (fetchFault c k k.ring k.pc).isNone && decide (k.pc.toNat % 4 = 0) && !([2, 1, 0].any (k.endsAt k.pc))

/-- The state after a word of core `c` that changed the core by `f`: the next word follows, one cycle later. -/
def after (c : CoreId) (s : State) (f : Thrower → Thrower) : State :=
  s.setCore c { f (s.core c) with pc := (s.core c).pc + 4, cyc := (s.core c).cyc + 1 }

/-- The state after a transfer: its delay slot is next, and `kind` follows that. -/
def openSlot (c : CoreId) (s : State) (kind : SlotKind) (f : Thrower → Thrower) : State :=
  s.setCore c { f (s.core c) with
    pc := (s.core c).pc + 4, cyc := (s.core c).cyc + 1, slot := some { from_ := (s.core c).pc, kind } }

/-- A request is accepted: it is taken up on its route, and checks 1 to 6 of R179 pass. -/
def accepted (c : CmdSpec) (rq : Req) (s : State) : Bool :=
  (takeUp c.opcode rq s).2 && decide (preCheck c rq (takeUp c.opcode rq s).1 = none)

/-- The state in which the body of an accepted command runs. -/
def taken (c : CmdSpec) (rq : Req) (s : State) : State := (takeUp c.opcode rq s).1

/-- The command completes with OK and a response payload, in the state `s`. -/
def okWith (c : CmdSpec) (rq : Req) (payload : List Byte) (s : State) : Host.Outcome State Fault Refusal :=
  .next (respond c.opcode rq stOk 0 payload (dropReservation rq s))

/-- The command stays in progress as the task `t`, in the state `s`. -/
def inProgress (c : CmdSpec) (rq : Req) (t : Task) (s : State) : Host.Outcome State Fault Refusal :=
  .next (addTask { t with
    opcode := BitVec.ofNat 16 c.opcode, rq, reserved := match rq.route with | .queue _ _ => true | _ => false } s)

/-- The part runs in cone 0, with no cone change and no commit under way. -/
def awake (s : State) : Bool := s.pwr.up && decide (s.pwr.cone = 0) && !s.pwr.moving && s.pwr.commit.isNone

/-- A memory request of function `f` reaches the part in cone 0. -/
def reachable (f : BitVec 6) (s : State) : Bool := s.fnExists f.toNat && (s.fn f.toNat).memEnable && awake s

/-- The command completes with a status other than OK and no payload. -/
def fails (c : CmdSpec) (rq : Req) (status : Nat) (s : State) : Host.Outcome State Fault Refusal :=
  .next (respond c.opcode rq status 0 [] (dropReservation rq s))

/-- A payload of `n` bytes whose fields (offset, bytes, value) are as given. -/
def holds (n : Nat) (fields : List (Nat × Nat × Nat)) (p : List Byte) : Prop :=
  p.length = n ∧ ∀ f ∈ fields, leField p f.1 f.2.1 = f.2.2 % 256 ^ f.2.1

/-- The command completes with OK, a payload that meets `P`, and a state that meets `Q`. -/
def completes (o : Host.Outcome State Fault Refusal) (c : CmdSpec) (rq : Req) (P : List Byte → Prop) (Q : State → Prop) : Prop :=
  ∃ p t, o = okWith c rq p t ∧ P p ∧ Q t

/-- The state before the response of a command is delivered is `n` but for what `f` changes. -/
def becomes (n : State) (f : State → State) (t : State) : Prop := t = f n

end Sys2Proof.Claims

namespace Sys2Proof.Claims

open Sys2Proof.Machine

/-- The register forms of R110 with their results. -/
def registerRows : List ((CoreId → BitVec 5 → BitVec 5 → BitVec 5 → Instr) × (Word → Word → Word)) :=
  [(.add, fun a b => a + b), (.sub, fun a b => a - b), (.andW, fun a b => a &&& b), (.orW, fun a b => a ||| b),
    (.xorW, fun a b => a ^^^ b), (.sll, fun a b => a <<< (b.toNat % 32)), (.srl, fun a b => a >>> (b.toNat % 32)),
    (.sra, fun a b => a.sshiftRight (b.toNat % 32)), (.slt, fun a b => if a.toInt < b.toInt then 1 else 0),
    (.sltu, fun a b => if a.toNat < b.toNat then 1 else 0), (.mul, fun a b => BitVec.ofNat 32 (a.toNat * b.toNat)),
    (.mulhu, fun a b => BitVec.ofNat 32 (a.toNat * b.toNat / 2 ^ 32)),
    (.mulh, fun a b => BitVec.ofInt 32 (a.toInt * b.toInt / 2 ^ 32))]

end Sys2Proof.Claims

open Sys2Proof Sys2Proof.Machine Sys2Proof.Claims in
/-- For every core, register fields and state in which the core can issue, each of ADD, SUB, AND, OR, XOR, SLL, SRL, SRA, SLT,
SLTU, MUL, MULHU and MULH answers the next state in which rd holds the result R110 gives for rs1 and rs2 (a write to g0 is
discarded), the pc has moved by 4 and the cycle count by 1; every other part of the state is unchanged. (R102, R110,
04_thrower_isa.md) -/
def Obligations.RegisterOperationsWriteTheirResult : Prop :=
  ∀ (c : CoreId) (rd rs1 rs2 : BitVec 5) (s : State), ready c s = true → ∀ e ∈ registerRows,
    exec (e.1 c rd rs1 rs2) s = .next (after c s fun k => k.setG rd (e.2 (k.greg rs1) (k.greg rs2)))

namespace Sys2Proof.Claims

open Sys2Proof.Machine

/-- The checked forms with the exact result. -/
def checkedRows : List ((CoreId → BitVec 5 → BitVec 5 → BitVec 5 → Instr) × (Int → Int → Int)) :=
  [(.addv, fun a b => a + b), (.subv, fun a b => a - b), (.mulv, fun a b => a * b)]

/-- The divisions with their results for a divisor other than 0. -/
def divisionRows : List ((CoreId → BitVec 5 → BitVec 5 → BitVec 5 → Instr) × (Word → Word → Word)) :=
  [(.div, fun a b => BitVec.ofInt 32 (a.toInt.tdiv b.toInt)), (.rem, fun a b => BitVec.ofInt 32 (a.toInt.tmod b.toInt)),
    (.divu, fun a b => BitVec.ofNat 32 (a.toNat / b.toNat)), (.remu, fun a b => BitVec.ofNat 32 (a.toNat % b.toNat))]

/-- A signed number that 32 bits hold. -/
abbrev inWord (n : Int) : Prop := -(2 ^ 31) ≤ n ∧ n < 2 ^ 31

end Sys2Proof.Claims

open Sys2Proof Sys2Proof.Machine Sys2Proof.Claims in
/-- For every ready core: ADDV, SUBV, MULV and ADDVI whose exact signed result fits in 32 bits write it to rd; DIVU and REMU
with a non-zero divisor write quotient and remainder; DIV and REM with a non-zero divisor write the signed quotient rounded
toward zero and its remainder (the rounding is the model's choice, log entry 11), 0x80000000 and 0 for 0x80000000 by -1.
Nothing else changes but the pc and the cycle count. (R110, R132, 04_thrower_isa.md) -/
def Obligations.CheckedOperationsAndDivisionsWriteTheirResult : Prop :=
  ∀ (c : CoreId) (rd rs1 rs2 : BitVec 5) (imm : BitVec 14) (s : State), ready c s = true →
    (∀ e ∈ checkedRows, inWord (e.2 ((s.core c).greg rs1).toInt ((s.core c).greg rs2).toInt) →
      exec (e.1 c rd rs1 rs2) s =
        .next (after c s fun k => k.setG rd (BitVec.ofInt 32 (e.2 (k.greg rs1).toInt (k.greg rs2).toInt)))) ∧
    (inWord (((s.core c).greg rs1).toInt + imm.toInt) →
      exec (.addvi c rd rs1 imm) s = .next (after c s fun k => k.setG rd (BitVec.ofInt 32 ((k.greg rs1).toInt + imm.toInt)))) ∧
    (∀ e ∈ divisionRows, (s.core c).greg rs2 ≠ 0 →
      exec (e.1 c rd rs1 rs2) s = .next (after c s fun k => k.setG rd (e.2 (k.greg rs1) (k.greg rs2))))

namespace Sys2Proof.Claims

open Sys2Proof.Machine

/-- The exception an arithmetic word leaves waiting. -/
def waitingExc (k : Thrower) (cause : BitVec 8) : Imprecise := { cause, pc := k.pc, ring := k.ring, multi := false, age := 1 }

/-- The divisions with what a zero divisor writes. -/
def zeroDivisorRows : List ((CoreId → BitVec 5 → BitVec 5 → BitVec 5 → Instr) × (Word → Word)) :=
  [(.div, fun _ => 0xFFFFFFFF), (.divu, fun _ => 0xFFFFFFFF), (.rem, fun a => a), (.remu, fun a => a)]

end Sys2Proof.Claims

open Sys2Proof Sys2Proof.Machine Sys2Proof.Claims in
/-- For every ready core: with st.PX at 1 an ADDV, SUBV or MULV that does not fit takes the overflow exception, and a division
by zero the divide exception, with the state otherwise that of the exception's entry. With st.PX at 0 the destination
receives the low 32 bits of the exact result, or 0xFFFFFFFF (DIV, DIVU) or the dividend (REM, REMU), and the exception is
recorded as waiting, with the address and ring of the word. (R132, R133, 04_thrower_isa.md) -/
def Obligations.ArithmeticExceptionsArePreciseUnderPxElseWriteTheTableValue : Prop :=
  ∀ (c : CoreId) (rd rs1 rs2 : BitVec 5) (s : State), ready c s = true →
    (∀ e ∈ checkedRows, ¬ inWord (e.2 ((s.core c).greg rs1).toInt ((s.core c).greg rs2).toInt) →
      ((s.core c).px = true → exec (e.1 c rd rs1 rs2) s = .next (raise c 0x07 0 0 s)) ∧
      ((s.core c).px = false → exec (e.1 c rd rs1 rs2) s = .next (after c s fun k =>
        { k.setG rd (BitVec.ofInt 32 (e.2 (k.greg rs1).toInt (k.greg rs2).toInt)) with imprecise := some (waitingExc k 0x07) }))) ∧
    (∀ e ∈ zeroDivisorRows, (s.core c).greg rs2 = 0 →
      ((s.core c).px = true → exec (e.1 c rd rs1 rs2) s = .next (raise c 0x06 0 0 s)) ∧
      ((s.core c).px = false → exec (e.1 c rd rs1 rs2) s = .next (after c s fun k =>
        { k.setG rd (e.2 (k.greg rs1)) with imprecise := some (waitingExc k 0x06) })))

namespace Sys2Proof.Claims

open Sys2Proof.Machine

/-- The immediate forms of R109 with their results. -/
def immediateRows : List ((CoreId → BitVec 5 → BitVec 5 → BitVec 14 → Instr) × (Word → BitVec 14 → Word)) :=
  [(.addi, fun a i => a + i.signExtend 32), (.andi, fun a i => a &&& i.setWidth 32), (.ori, fun a i => a ||| i.setWidth 32),
    (.xori, fun a i => a ^^^ i.setWidth 32), (.slti, fun a i => if a.toInt < i.toInt then 1 else 0),
    (.sltiu, fun a i => if a.toNat < (i.signExtend 32).toNat then 1 else 0)]

/-- The shifts by an immediate. -/
def shiftRows : List ((CoreId → BitVec 5 → BitVec 5 → BitVec 14 → Instr) × (Word → Nat → Word)) :=
  [(.slli, fun a n => a <<< n), (.srli, fun a n => a >>> n), (.srai, fun a n => a.sshiftRight n)]

end Sys2Proof.Claims

open Sys2Proof Sys2Proof.Machine Sys2Proof.Claims in
/-- For every ready core: ADDI, ANDI, ORI, XORI, SLTI and SLTIU write the result of R109 for rs1 and the extended immediate;
SLLI, SRLI and SRAI with an amount below 32 write the shifted value, and with one of 32 or more raise the illegal-
instruction fault; LUI writes imm19 shifted left by 13, MOVI its sign-extended immediate, MOV the source register. Nothing
else changes but pc and cycle count. (R109, R112, 04_thrower_isa.md) -/
def Obligations.ImmediateOperationsWriteTheirResult : Prop :=
  ∀ (c : CoreId) (rd rs1 : BitVec 5) (imm : BitVec 14) (s : State), ready c s = true →
    (∀ e ∈ immediateRows, exec (e.1 c rd rs1 imm) s = .next (after c s fun k => k.setG rd (e.2 (k.greg rs1) imm))) ∧
    (∀ e ∈ shiftRows,
      (imm.toNat < 32 → exec (e.1 c rd rs1 imm) s = .next (after c s fun k => k.setG rd (e.2 (k.greg rs1) imm.toNat))) ∧
      (32 ≤ imm.toNat → exec (e.1 c rd rs1 imm) s = .next (raise c 0x01 0 0 s))) ∧
    (∀ i : BitVec 19, exec (.lui c rd i) s = .next (after c s fun k => k.setG rd (i.setWidth 32 <<< 13))) ∧
    (∀ (r q : BitVec 4) (i : BitVec 6),
      exec (.movi c r i) s = .next (after c s fun k => k.setG (r.setWidth 5) (i.signExtend 32)) ∧
      exec (.mov c r q) s = .next (after c s fun k => k.setG (r.setWidth 5) (k.greg (q.setWidth 5))))

open Sys2Proof Sys2Proof.Machine Sys2Proof.Claims in
/-- For every ready core and pointers 0 to 7: PSETL sets bits 31 to 0 and PSETH bits 39 to 32 of the pointer, PGET and PGETH
read them, PADDI, PADD and PADDS add their operand (4 times it for PADDS) with the modulo update of R103, PMOV copies all 40
bits. Nothing else changes but pc and cycle count. A pointer field above 7 raises the illegal-instruction fault. (R103,
R109, R112, 04_thrower_isa.md) -/
def Obligations.PointerOperationsFollowTheirRows : Prop :=
  ∀ (c : CoreId) (rd rs1 f g : BitVec 5) (imm : BitVec 14) (i6 : BitVec 6) (s : State), ready c s = true →
    (f.toNat < 8 → g.toNat < 8 → let p : BitVec 3 := f.setWidth 3; let q : BitVec 3 := g.setWidth 3
      exec (.psetl c f rs1) s = .next (after c s fun k =>
        k.setP p (BitVec.ofNat 40 ((k.ptr p).toNat / 2 ^ 32 * 2 ^ 32 + (k.greg rs1).toNat))) ∧
      exec (.pseth c f imm) s = .next (after c s fun k =>
        k.setP p (BitVec.ofNat 40 (imm.toNat % 256 * 2 ^ 32 + (k.ptr p).toNat % 2 ^ 32))) ∧
      exec (.pget c rd f) s = .next (after c s fun k => k.setG rd (BitVec.ofNat 32 (k.ptr p).toNat)) ∧
      exec (.pgeth c rd f) s = .next (after c s fun k => k.setG rd (BitVec.ofNat 32 ((k.ptr p).toNat / 2 ^ 32))) ∧
      exec (.paddi c f imm) s = .next (after c s fun k => k.bump p imm.toInt) ∧
      exec (.padd c f rs1) s = .next (after c s fun k => k.bump p (k.greg rs1).toInt) ∧
      exec (.padds c p i6) s = .next (after c s fun k => k.bump p (4 * i6.toInt)) ∧
      exec (.pmov c f g) s = .next (after c s fun k => k.setP p (k.ptr q))) ∧
    (8 ≤ f.toNat → exec (.pget c rd f) s = .next (raise c 0x01 0 0 s) ∧ exec (.psetl c f rs1) s = .next (raise c 0x01 0 0 s))

open Sys2Proof Sys2Proof.Machine Sys2Proof.Claims in
/-- For every ready core: ACCCLR clears acc, ACCLO, ACCHI and ACCTOP read its bits 31 to 0, 63 to 32 and 71 to 64, ACCSHR shifts
it right by 32, ACCSET sets it to rd[7:0], rs2, rs1, ACCADD adds rs1 and MAC the unsigned product of rs1 and rs2 modulo
2^72. Nothing else changes but pc and cycle count. (R110, 04_thrower_isa.md) -/
def Obligations.AccumulatorOperationsFollowTheirRows : Prop :=
  ∀ (c : CoreId) (a : BitVec 1) (rd rs1 rs2 : BitVec 5) (s : State), ready c s = true →
    exec (.accclr c a) s = .next (after c s fun k => k.setAcc a 0) ∧
    exec (.acclo c a rd) s = .next (after c s fun k => k.setG rd (BitVec.ofNat 32 (k.accOf a).toNat)) ∧
    exec (.acchi c a rd) s = .next (after c s fun k => k.setG rd (BitVec.ofNat 32 ((k.accOf a).toNat / 2 ^ 32))) ∧
    exec (.acctop c a rd) s = .next (after c s fun k => k.setG rd (BitVec.ofNat 32 ((k.accOf a).toNat / 2 ^ 64))) ∧
    exec (.accshr c a) s = .next (after c s fun k => k.setAcc a (BitVec.ofNat 72 ((k.accOf a).toNat / 2 ^ 32))) ∧
    exec (.accset c a rd rs1 rs2) s = .next (after c s fun k => k.setAcc a (BitVec.ofNat 72
      ((k.greg rd).toNat % 256 * 2 ^ 64 + (k.greg rs2).toNat * 2 ^ 32 + (k.greg rs1).toNat))) ∧
    exec (.accadd c a rs1) s = .next (after c s fun k => k.setAcc a (BitVec.ofNat 72 ((k.accOf a).toNat + (k.greg rs1).toNat))) ∧
    exec (.mac c a rs1 rs2) s = .next (after c s fun k => k.setAcc a (BitVec.ofNat 72
      ((k.accOf a).toNat + (k.greg rs1).toNat * (k.greg rs2).toNat)))

open Sys2Proof Sys2Proof.Machine Sys2Proof.Claims in
/-- For every ready crucible core: WCLR clears wacc, WSHR shifts it right by 128, WGET and WPUT with an index of at most 8 read
and replace 32 bits of it, WSLOT with a legal selector points at word 0 of the slot; WMULACC, WSQRACC and WLOAD whose
operands can be read without touching sealed bytes add the product (doubled where the word indices of WSQRACC differ) or
load the operand; WSTORE in ring 1 of a running whole-operation job stores bits 127 to 0 and shifts wacc right by 128; WMACD
whose operands can be read adds their product and updates both pointers. On a control or service core each of them raises
the illegal-instruction fault. (R100, R110, R126, R127, 04_thrower_isa.md) -/
def Obligations.WideAccumulatorOperationsRunOnCruciblesOnly : Prop :=
  ∀ (n : Fin 160) (a : BitVec 1) (rs1 rs2 rd : BitVec 5) (px py mx my : BitVec 3) (sgn neg : BitVec 1) (s : State) (x y : Nat),
    let c : CoreId := .crucible n
    let k := s.core c
    (ready c s = true →
      exec (.wclr c a) s = .next (after c s fun k => k.setWacc a 0) ∧
      exec (.wshr c a) s = .next (after c s fun k => k.setWacc a (BitVec.ofNat 288 ((k.waccOf a).toNat / 2 ^ 128))) ∧
      (rs2.toNat ≤ 8 →
        exec (.wget c a rs1 rs2) s = .next (after c s fun k =>
          k.setG rs1 (BitVec.ofNat 32 ((k.waccOf a).toNat / 2 ^ (32 * rs2.toNat)))) ∧
        exec (.wput c a rs1 rs2) s = .next (after c s fun k => k.setWacc a (putWide (k.waccOf a) rs2.toNat (k.greg rs1)))) ∧
      (rd.toNat < 8 → selectorOk (s.crucible n.val) (k.greg rs2) = true →
        exec (.wslot c rd rs2) s = .next (after c s fun k => k.setP (rd.setWidth 3)
          (BitVec.ofNat 40 (operandAddress n.val (slotWordOffset (s.crucible n.val) (k.greg rs2) 0))))) ∧
      (wideRead c n.val (k.greg rs1) (selectorIndex (k.greg rs1)) k s = .ok (x, s) →
        exec (.wload c a rs1) s = .next (after c s fun k => k.setWacc a (BitVec.ofNat 288 x)) ∧
        (wideRead c n.val (k.greg rs2) (selectorIndex (k.greg rs2)) k s = .ok (y, s) →
          exec (.wmulacc c a rs1 rs2) s = .next (after c s fun k => k.setWacc a (k.waccOf a + BitVec.ofNat 288 (x * y)))) ∧
        ((k.greg rs2).toNat < 65536 → (k.greg rs2).getLsbD 7 = false →
          wideRead c n.val (k.greg rs1) (selectorIndex (k.greg rs2)) k s = .ok (y, s) →
          exec (.wsqracc c a rs1 rs2) s = .next (after c s fun k => k.setWacc a (k.waccOf a + BitVec.ofNat 288
            (if selectorIndex (k.greg rs1) = selectorIndex (k.greg rs2) then x * y else 2 * (x * y)))))) ∧
      (selectorOk (s.crucible n.val) (k.greg rs1) = true → operandRight s c k.ring n.val = .full →
        exec (.wstore c a rs1) s = .next (after c (storeWide s n.val (k.greg rs1) (selectorIndex (k.greg rs1))
          ((k.waccOf a).toNat % 2 ^ 128)) fun k => k.setWacc a (BitVec.ofNat 288 ((k.waccOf a).toNat / 2 ^ 128)))) ∧
      (∀ (ux uy : Option Int) (bx by_ : List Byte), laUpdate k px mx 16 = some ux → laUpdate k py my 16 = some uy →
        inBank c false (k.ptr px).toNat 16 8 = true → inBank c true (k.ptr py).toNat 16 8 = true →
        loadBytes c k.ring (k.ptr px) 16 s = .ok (bx, s) → loadBytes c k.ring (k.ptr py) 16 s = .ok (by_, s) →
        exec (.wmacd c a px py mx my sgn neg 0) s = .next (after c s fun k =>
          (((k.setWacc a (k.waccOf a + BitVec.ofNat 288 (leNat bx * leNat by_))).bumpOpt px ux).bumpOpt py uy)))) ∧
    (∀ m : CoreId, (∀ j : Fin 160, m ≠ .crucible j) → ready m s = true →
      ∀ i ∈ [Instr.wclr m a, .wshr m a, .wget m a rs1 rs2, .wput m a rs1 rs2, .wslot m rs1 rs2, .wload m a rs1, .wstore m a rs1,
        .wmulacc m a rs1 rs2, .wsqracc m a rs1 rs2, .wmacd m a px py mx my sgn neg 0],
        exec i s = .next (raise m 0x01 0 0 s))

namespace Sys2Proof.Claims

open Sys2Proof.Machine

/-- The loads by pointer: size, and how the value is extended. -/
def loadRows : List ((CoreId → BitVec 5 → BitVec 3 → BitVec 3 → BitVec 13 → Instr) × Nat × (Nat → Word)) :=
  [(.ldw, 4, BitVec.ofNat 32), (.ldh, 2, fun v => (BitVec.ofNat 16 v).signExtend 32), (.ldhu, 2, BitVec.ofNat 32),
    (.ldb, 1, fun v => (BitVec.ofNat 8 v).signExtend 32), (.ldbu, 1, BitVec.ofNat 32)]

end Sys2Proof.Claims

open Sys2Proof Sys2Proof.Machine Sys2Proof.Claims in
/-- For every ready core, pointer, mode that is not reserved and displacement: where the address is aligned to the size and the
read answers bytes without a side effect, LDW, LDH, LDHU, LDB and LDBU write them to rd, sign- or zero-extended, and the
post-update of the mode to the pointer; LDGW does so at rs1 + imm14. Memory and every register but rd, the pointer, pc and
cycle count are unchanged. Misaligned, each takes the alignment fault at that address; where the read is refused with an
INFO, the access fault. (R108, R128, R143, 04_thrower_isa.md) -/
def Obligations.LoadsWriteTheLoadedValueAndThePointerUpdate : Prop :=
  ∀ (c : CoreId) (rd rs1 : BitVec 5) (p mode : BitVec 3) (disp : BitVec 13) (imm : BitVec 14) (s : State) (a : Addr)
      (upd : Option Int) (bs : List Byte) (info : BitVec 4), ready c s = true → let k := s.core c
    (∀ e ∈ loadRows, lmMode k p mode disp e.2.1 = some (a, upd) →
      (a.toNat % e.2.1 = 0 → loadBytes c k.ring a e.2.1 s = .ok (bs, s) → exec (e.1 c rd p mode disp) s =
        .next (after c s fun k => (k.setG rd (e.2.2 (leNat bs))).bumpOpt p upd)) ∧
      (a.toNat % e.2.1 = 0 → loadBytes c k.ring a e.2.1 s = .error info →
        exec (e.1 c rd p mode disp) s = .next (raise c 0x03 info a s)) ∧
      (a.toNat % e.2.1 ≠ 0 → exec (e.1 c rd p mode disp) s = .next (raise c 0x02 0 a s))) ∧
    (let g : Addr := (k.greg rs1 + imm.signExtend 32).setWidth 40;
      g.toNat % 4 = 0 → loadBytes c k.ring g 4 s = .ok (bs, s) →
        exec (.ldgw c rd rs1 imm) s = .next (after c s fun k => k.setG rd (BitVec.ofNat 32 (leNat bs))))

namespace Sys2Proof.Claims

open Sys2Proof.Machine

/-- The stores by pointer with their size. -/
def storeRows : List ((CoreId → BitVec 5 → BitVec 3 → BitVec 3 → BitVec 13 → Instr) × Nat) := [(.stw, 4), (.sth, 2), (.stb, 1)]

/-- A store of `n` bytes at `a` reaches plain memory. -/
def storeGranted (c : CoreId) (a : Addr) (n : Nat) (s : State) : Bool :=
  decide (a.toNat % n = 0) && decide (mapTarget c (s.core c).ring s.ddrTop a.toNat = .ram) &&
    mpuGrant (s.core c) (s.core c).ring 1 a.toNat n

end Sys2Proof.Claims

open Sys2Proof Sys2Proof.Machine Sys2Proof.Claims in
/-- For every ready core, pointer, mode that is not reserved and displacement: where the computed address is aligned to the
size, lies in memory the map grants the core and ring, and the protection unit grants the store, the store answers the next
state in which exactly those bytes hold the low bytes of rd, little-endian, and the pointer has its post-update. Every byte
of memory outside them reads as before; nothing else changes but pc and cycle count. (R34, R108, R128, R143,
04_thrower_isa.md) -/
def Obligations.StoresWriteExactlyTheirBytes : Prop :=
  ∀ (c : CoreId) (rd rs1 : BitVec 5) (p mode : BitVec 3) (disp : BitVec 13) (imm : BitVec 14) (s : State) (a : Addr)
      (upd : Option Int), ready c s = true → let k := s.core c
    (∀ e ∈ storeRows, lmMode k p mode disp e.2 = some (a, upd) → storeGranted c a e.2 s = true →
      ∃ t, exec (e.1 c rd p mode disp) s = .next t ∧
        t = { after c s (fun k => k.bumpOpt p upd) with mem := t.mem } ∧
        memRead 0 t.mem a.toNat e.2 = leBytes e.2 (k.greg rd).toNat ∧
        ∀ x, x < a.toNat ∨ a.toNat + e.2 ≤ x → mapGet 0 t.mem x = mapGet 0 s.mem x) ∧
    (let g : Addr := (k.greg rs1 + imm.signExtend 32).setWidth 40;
      storeGranted c g 4 s = true →
      ∃ t, exec (.stgw c rd rs1 imm) s = .next t ∧ t = { after c s (fun k => k) with mem := t.mem } ∧
        memRead 0 t.mem g.toNat 4 = leBytes 4 (k.greg rd).toNat ∧
        ∀ x, x < g.toNat ∨ g.toNat + 4 ≤ x → mapGet 0 t.mem x = mapGet 0 s.mem x)

namespace Sys2Proof.Claims

open Sys2Proof.Machine

/-- The compare-and-branch words with their conditions. -/
def branchRows : List ((CoreId → BitVec 5 → BitVec 5 → BitVec 14 → Instr) × (Word → Word → Bool)) :=
  [(.beq, fun a b => decide (a = b)), (.bne, fun a b => decide (a ≠ b)), (.blt, fun a b => decide (a.toInt < b.toInt)),
    (.bge, fun a b => decide (b.toInt ≤ a.toInt)), (.bltu, fun a b => decide (a.toNat < b.toNat)),
    (.bgeu, fun a b => decide (b.toNat ≤ a.toNat))]

/-- The continuation of a branch: `n` words from it, or the word after the slot. -/
def branchTo (k : Thrower) (taken : Bool) (n : Int) : SlotKind :=
  .branch (if taken then k.pc + BitVec.ofInt 40 (4 * n) else k.pc + 8)

end Sys2Proof.Claims

open Sys2Proof Sys2Proof.Machine Sys2Proof.Claims in
/-- For every ready core, each compare-and-branch answers the state whose next word is the delay slot and whose continuation is
pc + 4 off14 where its condition on rs1 and rs2 (signed for BLT and BGE, unsigned for BLTU and BGEU, against zero for BEQZ
and BNEZ) holds, else pc + 8; JMP and CALL continue at pc + 4 off24, JR and CALLR at rs1, RET at g31; CALL writes pc + 8 to
g31 and CALLR to rd. Nothing else changes but the cycle count. (R109, R116, R117, 04_thrower_isa.md) -/
def Obligations.TransfersOpenADelaySlot : Prop :=
  ∀ (c : CoreId) (rd rs1 rs2 : BitVec 5) (off : BitVec 14) (o24 : BitVec 24) (s : State), ready c s = true → let k := s.core c
    (∀ e ∈ branchRows, exec (e.1 c rs1 rs2 off) s =
      .next (openSlot c s (branchTo k (e.2 (k.greg rs1) (k.greg rs2)) off.toInt) fun k => k)) ∧
    exec (.beqz c rs1 0 off) s = .next (openSlot c s (branchTo k (decide (k.greg rs1 = 0)) off.toInt) fun k => k) ∧
    exec (.bnez c rs1 0 off) s = .next (openSlot c s (branchTo k (decide (k.greg rs1 ≠ 0)) off.toInt) fun k => k) ∧
    exec (.jmp c o24) s = .next (openSlot c s (branchTo k true o24.toInt) fun k => k) ∧
    exec (.call c o24) s = .next (openSlot c s (branchTo k true o24.toInt) fun k => k.setG 31 ((k.pc + 8).setWidth 32)) ∧
    exec (.jr c rs1) s = .next (openSlot c s (.branch ((k.greg rs1).setWidth 40)) fun k => k) ∧
    exec (.callr c rd rs1) s =
      .next (openSlot c s (.branch ((k.greg rs1).setWidth 40)) fun k => k.setG rd ((k.pc + 8).setWidth 32)) ∧
    exec (.ret c 0) s = .next (openSlot c s (.branch ((k.greg 31).setWidth 40)) fun k => k)

namespace Sys2Proof.Claims

open Sys2Proof.Machine

/-- Core `c` is in the delay slot of a branch at `from_` to `next`, with nothing else in the way. -/
def inSlot (c : CoreId) (from_ next : Addr) (s : State) : Bool :=
  let k := s.core c
  ready c (s.setCore c { k with slot := none }) && decide (k.slot = some { from_, kind := .branch next })

end Sys2Proof.Claims

open Sys2Proof Sys2Proof.Machine Sys2Proof.Claims in
/-- For a core whose pending transfer is a branch to `next`, with nothing else in the way, ADD in the slot writes its result and
the pc becomes `next` with no slot open; a branch, a call, a gate word, a loop word or an MTS to a loop register there
raises the illegal-instruction fault, whose saved return address is the branch's (R119) as `raise` takes it from the open
slot. (R117, R118, R119, 04_thrower_isa.md) -/
def Obligations.SlotWordRunsBeforeTheTransferTakesEffect : Prop :=
  ∀ (c : CoreId) (rd rs1 rs2 : BitVec 5) (off : BitVec 14) (from_ next : Addr) (s : State), inSlot c from_ next s = true →
    exec (.add c rd rs1 rs2) s = .next (s.setCore c (
      let k := s.core c
      { k.setG rd (k.greg rs1 + k.greg rs2) with pc := next, cyc := k.cyc + 1, slot := none })) ∧
    (∀ i ∈ [Instr.beq c rs1 rs2 off, .jmp c 0, .call c 0, .jr c rs1, .ret c 0, .callg c 0 0 0, .retg c 0, .eret c 0,
        .loopi c 0 1 1, .loop c 0 rs1 0 1, .lclr c 0 0, .mts c rs1 7],
      exec i s = .next (raise c 0x01 0 0 s))

open Sys2Proof Sys2Proof.Machine Sys2Proof.Claims in
/-- For every ready core and level 0 to 2: LOOPI and LOOP with an offset other than 0 and a count other than 0 set ls to pc + 4,
le to pc + 4 off12, lc to the count and the level's ring tag to the current ring; with a count of 0 execution continues at
le + 4. LCLR clears lc. On a core whose only armed level ends at its pc, FENCE with lc above 1 continues at ls with lc one
less, and with lc 1 continues at pc + 4 with lc 0. (R120, R121, R137, 04_thrower_isa.md) -/
def Obligations.LoopWordsArmAndCloseTheirLevel : Prop :=
  (∀ (c : CoreId) (lvl : BitVec 2) (rs : BitVec 5) (count : BitVec 10) (off : BitVec 12) (s : State), ready c s = true →
    lvl ≠ 3 → let k := s.core c
    let armed (n : Word) : Thrower → Thrower := fun k => ({ k with
      ls := mapSet 0 k.ls lvl.toNat ((k.pc + 4).setWidth 32)
      le := mapSet 0 k.le lvl.toNat ((k.pc + BitVec.ofNat 40 (4 * off.toNat)).setWidth 32)
      lc := mapSet 0 k.lc lvl.toNat n } : Thrower).setTag lvl.toNat k.ring
    (off ≠ 0 → count ≠ 0 → exec (.loopi c lvl count off) s = .next (after c s (armed (count.setWidth 32)))) ∧
    (off ≠ 0 → k.greg rs ≠ 0 → exec (.loop c lvl rs 0 off) s = .next (after c s (armed (k.greg rs)))) ∧
    (off ≠ 0 → exec (.loopi c lvl 0 off) s = .next (s.setCore c { armed 0 k with
      pc := k.pc + BitVec.ofNat 40 (4 * off.toNat) + 4, cyc := k.cyc + 1 })) ∧
    exec (.lclr c lvl 0) s = .next (after c s fun k => { k with lc := mapSet 0 k.lc lvl.toNat 0 }) ∧
    exec (.loopi c 3 count off) s = .next (raise c 0x01 0 0 s)) ∧
  ∀ (c : CoreId) (lvl : BitVec 2) (s : State), lvl ≠ 3 → let k := s.core c
    ready c (s.setCore c { k with lc := mapSet 0 k.lc lvl.toNat 0 }) = true → k.endsAt k.pc lvl.toNat = true →
    (1 < (mapGet 0 k.lc lvl.toNat).toNat → exec (.fence c) s = .next (s.setCore c { k with
      lc := mapSet 0 k.lc lvl.toNat (mapGet 0 k.lc lvl.toNat - 1), pc := (mapGet 0 k.ls lvl.toNat).setWidth 40, cyc := k.cyc + 1 })) ∧
    (mapGet 0 k.lc lvl.toNat = 1 → exec (.fence c) s = .next (s.setCore c { k with
      lc := mapSet 0 k.lc lvl.toNat 0, pc := k.pc + 4, cyc := k.cyc + 1 }))

open Sys2Proof Sys2Proof.Machine Sys2Proof.Claims in
/-- For every ready armed core: CALLG whose gate and stack checks pass opens its slot with the target and ring of the entry;
RETG and ERET whose stack words can be read and whose record checks pass open theirs with the popped return address and the
status R154 restores; ERET in ring 0 with XSTATE.DF set returns by xsave0 and xsave1. A gate check that fails takes the gate
fault with its INFO, an empty record stack the forged-return fault with INFO 3. On an unarmed core each is an illegal
instruction. (R146, R147, R153, R154, R157, R158, 05_rings_exceptions.md) -/
def Obligations.GateAndReturnWordsOpenTheirTransfer : Prop :=
  ∀ (c : CoreId) (imm : BitVec 14) (s : State) (target : Addr) (tring : BitVec 2) (info : BitVec 4) (ret : Addr) (st : Word),
    ready c s = true → let k := s.core c
    (k.armed = true →
      (gateChecks c k imm.toNat s = .ok (target, tring) → stackCheck c tring s = none →
        exec (.callg c 0 0 imm) s =
          .next (openSlot c s (.gate target tring (mapGet 0 k.sp tring.toNat) k.st) fun k => k)) ∧
      (gateChecks c k imm.toNat s = .error info → exec (.callg c 0 0 imm) s = .next (raise c 0x05 info 0 s)) ∧
      (poppedWords c k.ring k s = .ok (ret, st, s) →
        (k.erdepth ≠ 0 → k.topGate = true → stRing st = k.topRing → k.ring.toNat ≤ (stRing st).toNat →
          exec (.retg c 0) s = .next (openSlot c s
            (.ret ret (restoredSt k.ring k.st st) k.ring (mapGet 0 k.sp k.ring.toNat) k.st) fun k => k)) ∧
        (k.erdepth = 0 → exec (.retg c 0) s = .next (raise c 0x0F 3 0 s)) ∧
        (k.ring.toNat < 2 → ¬ (k.ring = 0 ∧ k.df = true) → k.erdepth ≠ 0 → k.topGate = false →
          k.topRing.toNat ≤ (stRing st).toNat → hasRing c (stRing st) = true →
          exec (.eret c 0) s = .next (openSlot c s
            (.ret ret (restoredSt k.ring k.st st) k.ring (mapGet 0 k.sp k.ring.toNat) k.st) fun k => k))) ∧
      (k.ring = 0 → k.df = true → k.dfring.toNat ≤ (stRing (mapGet 0 k.xsave 1)).toNat →
        exec (.eret c 0) s = .next (openSlot c s
          (.dfret ((mapGet 0 k.xsave 0).setWidth 40) (restoredSt 0 k.st (mapGet 0 k.xsave 1)) k.st) fun k => k))) ∧
    (k.armed = false → ∀ i ∈ [Instr.callg c 0 0 imm, .retg c 0, .eret c 0], exec i s = .next (raise c 0x01 0 0 s))

open Sys2Proof Sys2Proof.Machine Sys2Proof.Claims in
/-- For every ready core: MFS of a number its ring may read other than CYCLO writes the register's value to rd; MTS of a number
its ring may write writes rs1 to it, as the register takes it, and where no loop level then ends at the pc and no event
becomes due the next word follows; a write of VBASE0 in ring 0 arms the core. A number the ring may not reach is an illegal
instruction. MFS of CYCLO writes bits 31 to 0 of a count that includes the stall cycles (a free value of the model, log
entry 9) to rd and latches bits 63 to 32 in CYCHI. FENCE changes nothing but pc and cycle count; WAIT leaves the core
waiting. (R105, R106, R138, R139, R141, 05_rings_exceptions.md) -/
def Obligations.SpecialRegistersAreReadAndWrittenByNumber : Prop :=
  ∀ (c : CoreId) (rd : BitVec 5) (imm : BitVec 14) (s : State), ready c s = true →
    let k := s.core c
    let num := imm.toNat % 256
    (specialGrant c k.ring num false = true → selectedRingOk c k num = true → num ≠ 0x20 →
      exec (.mfs c rd imm) s = .next (after c s fun k => k.setG rd (specialRead c k num))) ∧
    (∃ (t : State) (n : BitVec 64), exec (.mfs c rd 0x20) s = .next t ∧
      (t.core c).greg rd = (if rd = 0 then 0 else BitVec.ofNat 32 n.toNat) ∧
      (t.core c).cychi = BitVec.ofNat 32 (n.toNat / 2 ^ 32) ∧ (t.core c).cyc = n + 1 ∧ (t.core c).pc = k.pc + 4 ∧ t.mem = s.mem) ∧
    (specialGrant c k.ring num true = true → selectedRingOk c k num = true →
      ([2, 1, 0].any ((specialWrite k num (k.greg rd)).endsAt k.pc)) = false →
      (specialWrite k num (k.greg rd)).eventPending = false →
      exec (.mts c rd imm) s = .next (after c s fun k => specialWrite k num (k.greg rd))) ∧
    (specialGrant c k.ring num false = false → exec (.mfs c rd imm) s = .next (raise c 0x01 0 0 s)) ∧
    (specialGrant c k.ring num true = false → exec (.mts c rd imm) s = .next (raise c 0x01 0 0 s)) ∧
    (k.ring = 0 → (specialWrite k 0x44 (k.greg rd)).armed = true) ∧
    exec (.fence c) s = .next (after c s fun k => k) ∧
    exec (.wait c) s = .next (after c s fun k => { k with waiting := true })

open Sys2Proof Sys2Proof.Machine Sys2Proof.Claims in
/-- For every ready core: MACD whose pointers lie aligned in banks X and Y and can be read adds to acc, or subtracts from it
with NEG, the 64-bit product of the two elements, signed with S, modulo 2^72, and updates both pointers; with a pointer
outside its bank it takes the access fault with INFO 0. A paired word whose two operations decode, form a legal pair and
only change registers answers the state after both; one that does not decode is an illegal instruction. (R108, R113, R114,
R124, 04_thrower_isa.md) -/
def Obligations.MultiplyAccumulateReadsBothBanks : Prop :=
  ∀ (c : CoreId) (a sgn neg : BitVec 1) (px py mx my : BitVec 3) (s : State) (ux uy : Option Int) (bx by_ : List Byte)
      (w : BitVec 31) (o₁ o₂ : ShortOp) (k₁ k₂ : Thrower), ready c s = true → let k := s.core c
    (laUpdate k px mx 4 = some ux → laUpdate k py my 4 = some uy →
      (inBank c false (k.ptr px).toNat 4 4 = true → inBank c true (k.ptr py).toNat 4 4 = true →
        loadBytes c k.ring (k.ptr px) 4 s = .ok (bx, s) → loadBytes c k.ring (k.ptr py) 4 s = .ok (by_, s) →
        let x : Word := BitVec.ofNat 32 (leNat bx)
        let y : Word := BitVec.ofNat 32 (leNat by_)
        let product : Int := if sgn = 1 then x.toInt * y.toInt else (x.toNat * y.toNat : Nat)
        exec (.macd c a px py mx my sgn neg 0) s = .next (after c s fun k => ((k.setAcc a
          (if neg = 1 then k.accOf a - BitVec.ofInt 72 product else k.accOf a + BitVec.ofInt 72 product)).bumpOpt px ux).bumpOpt py uy)) ∧
      (inBank c false (k.ptr px).toNat 4 4 = false →
        exec (.macd c a px py mx my sgn neg 0) s = .next (raise c 0x03 0 (k.ptr px) s))) ∧
    (decodePair c w = some (o₁, o₂) → shortRun c o₁ k s = .core k₁ → shortRun c o₂ k₁ (s.setCore c k₁) = .core k₂ →
      k₂.slot = none → k₂.imprecise = none → k₂.eventPending = false → k₂.pc = k.pc → k₂.cyc = k.cyc →
      [2, 1, 0].any (k₂.endsAt k.pc) = false →
      exec (.pairedWord c w) s = .next (after c s fun _ => k₂)) ∧
    (decodePair c w = none → exec (.pairedWord c w) s = .next (raise c 0x01 0 0 s))

open Sys2Proof Sys2Proof.Machine Sys2Proof.Claims in
/-- For every armed core with XSTATE.DF clear whose stack check on the receiving ring passes, BRK on a ready core answers the
next state in which: sp of the receiving ring is 8 lower, the word there holds the return address (the pc of BRK) and the
next word the old st; an exception record with the old ring is on top; XCAUSE holds cause 8 and INFO 0, XPC the pc, XADDR
and XADDRH 0; st.RING is the receiving ring, IE is clear if that is ring 0, PX as before; and the pc is VBASE of the ring
plus 16 times 8. Every general register, pointer, accumulator and loop register is unchanged. (R139, R150, R152,
05_rings_exceptions.md) -/
def Obligations.ExceptionEntrySavesReturnAddressAndStatus : Prop :=
  ∀ (c : CoreId) (s : State), ready c s = true → (s.core c).armed = true → (s.core c).df = false →
    let k := s.core c
    let r : BitVec 2 := if 2 ≤ k.ring.toNat then 1 else 0
    let sp := mapGet 0 k.sp r.toNat - 8
    stackCheck c r s = none → ∃ t, exec (.brk c) s = .next t ∧ let n := t.core c
      memRead 0 t.mem sp.toNat 8 = leBytes 4 k.pc.toNat ++ leBytes 4 k.st.toNat ∧
      (∀ x, x < sp.toNat ∨ sp.toNat + 8 ≤ x → mapGet 0 t.mem x = mapGet 0 s.mem x) ∧
      mapGet 0 n.sp r.toNat = sp ∧ n.erdepth = k.erdepth + 1 ∧ n.topRing = k.ring ∧ n.topGate = false ∧
      mapGet 0 n.xcause r.toNat = 8 ∧ mapGet 0 n.xpc r.toNat = k.pc.setWidth 32 ∧ mapGet 0 n.xaddr r.toNat = 0 ∧
      mapGet 0 n.xaddrh r.toNat = 0 ∧ n.ring = r ∧ n.ie = (k.ie && decide (r ≠ 0)) ∧ n.px = k.px ∧
      n.pc = (mapGet 0 k.vbase r.toNat).setWidth 40 + 0x80 ∧
      n.g = k.g ∧ n.p = k.p ∧ n.pm = k.pm ∧ n.acc = k.acc ∧ n.wacc = k.wacc ∧ n.ls = k.ls ∧ n.le = k.le ∧ n.lc = k.lc

open Sys2Proof Sys2Proof.Machine Sys2Proof.Claims in
/-- For every ready core: BRK on an unarmed core, or with XSTATE.DF set, leaves the core halted and tells the active control
pair; a halted core issues nothing (ADD then changes nothing). On an armed core with DF clear whose stack check fails with
an INFO, BRK sets DF, saves the return address and st in xsave0 and xsave1, sets XCAUSE0 to cause 0x0E with that INFO and
ORIG 8, and continues in ring 0 with IE clear at VBASE0 + 0xE0. (R141, R155, R156, 05_rings_exceptions.md) -/
def Obligations.UnarmedOrDoublyFaultedCoreHalts : Prop :=
  ∀ (c : CoreId) (rd rs1 rs2 : BitVec 5) (s : State) (info : BitVec 4), ready c s = true → let k := s.core c
    ((k.armed = false ∨ k.df = true) → ∃ t, exec (.brk c) s = .next t ∧ (t.core c).halted = true ∧
      t.out = .coreNotice c :: s.out ∧ t.mem = s.mem ∧ exec (.add c rd rs1 rs2) t = .next t) ∧
    (k.armed = true → k.df = false → stackCheck c (if 2 ≤ k.ring.toNat then 1 else 0) s = some info →
      ∃ t, exec (.brk c) s = .next t ∧ let n := t.core c
        n.df = true ∧ mapGet 0 n.xsave 0 = k.pc.setWidth 32 ∧ mapGet 0 n.xsave 1 = k.st ∧
        mapGet 0 n.xcause 0 = BitVec.ofNat 32 (0x0E + info.toNat * 256 + 8 * 65536) ∧ n.ring = 0 ∧ n.ie = false ∧
        n.pc = (mapGet 0 k.vbase 0).setWidth 40 + 0xE0 ∧ t.mem = s.mem)

namespace Sys2Proof.Claims

open Sys2Proof.Machine

/-- An asynchronous exception to ring 0 with a cause. -/
def asyncExc (k : Thrower) (cause : BitVec 8) : Exc := { cause, ring := 0, ret := k.pc, xpc := 0, sync := false }

/-- A core whose word boundary admits asynchronous events. -/
def admits (k : Thrower) : Bool := k.running && !k.halted && k.slot.isNone && k.ie && !k.df

end Sys2Proof.Claims

open Sys2Proof Sys2Proof.Machine Sys2Proof.Claims in
/-- For every core: INTERRUPT sets IPEND to the lines, and where the core runs, is not halted, has no slot open, st.IE is 1, DF
is 0 and no notice waits, an admitted line is taken as cause 9; MACHINE_CHECK_NOTICE with IE clear leaves the notice waiting
with its INFO; HEARTBEAT_LAPSE on a running control or service core leaves a watchdog notice waiting; WATCHDOG_NOTICE takes
it where admitted as cause 0x0A; IMPRECISE_EXCEPTION takes the waiting exception with its cause, the address of its word and
the ring it ran in; CORE_RESET leaves the core running in ring 0 with st 0, the loop counts 0, unarmed, at its start
address. (R129, R132, R140, R149, R151, R159, 05_rings_exceptions.md) -/
def Obligations.CoreEventsAreRecordedAndTakenWhenAdmitted : Prop :=
  ∀ (c : CoreId) (lines : Word) (info : BitVec 4) (m : Imprecise) (s : State), let k := s.core c
    (admits k = true → k.machineCheck = none → k.watchdog = false → lines &&& k.imask ≠ 0 →
      exec (.interrupt c lines) s = .next (takeException c (asyncExc k 9)
        (s.setCore c { k with ipend := lines, waiting := false }))) ∧
    (k.machineCheck = none → k.watchdog = false → lines &&& k.imask = 0 →
      exec (.interrupt c lines) s = .next (s.setCore c { k with ipend := lines })) ∧
    (k.ie = false → exec (.machineCheckNotice c info) s =
      .next (s.setCore c { k with machineCheck := some info, waiting := false })) ∧
    ((∀ n : Fin 160, c ≠ .crucible n) → k.running = true → k.halted = false → k.ie = false →
      exec (.heartbeatLapse c) s = .next (s.setCore c { k with watchdog := true, lapsed := true, waiting := false })) ∧
    (admits k = true → k.machineCheck = none → k.watchdog = true → exec (.watchdogNotice c) s =
      .next (takeException c (asyncExc k 0x0A) (s.setCore c { k with watchdog := false, waiting := false }))) ∧
    (k.running = true → k.halted = false → k.slot = none → k.imprecise = some m → exec (.impreciseException c) s =
      .next (takeException c { cause := m.cause, ring := if 2 ≤ m.ring.toNat then 1 else 0, ret := k.pc, xpc := m.pc, imprecise := true, multi := m.multi }
        (s.setCore c { k with imprecise := none }))) ∧
    (∃ t, exec (.coreReset c) s = .next t ∧ let n := t.core c
      n.running = true ∧ n.halted = false ∧ n.armed = false ∧ n.st = 0 ∧ n.lc = [] ∧ n.pc = startAddress c ∧ t.mem = s.mem)

open Sys2Proof Sys2Proof.Machine Sys2Proof.Claims in
/-- For every function whose memory requests reach the part in cone 0: bytes written to the request area are stored while STATE
is not BUSY, and discarded with PAGE_ERR set while it is; a DMB_CTRL write with VECTOR below 32 sets VECTOR and IE and one
beyond leaves the register; GO sets STATE to BUSY where it was IDLE or DONE (for an opcode of the catalogue) and only
OVERRUN where it was BUSY; a doorbell write with GO 0 changes nothing. Nothing else changes. (R163, R164, R165,
06_depepa_commands.md) -/
def Obligations.MailboxAreaControlAndDoorbellFollowTheirState : Prop :=
  ∀ (f : BitVec 6) (off : BitVec 11) (bs : List Byte) (v : Word) (s : State), reachable f s = true → let m := s.box f.toNat
    (off.toNat + bs.length ≤ 2048 → m.state ≠ 1 →
      exec (.mailboxRequestWrite f off bs) s = .next (s.setBox f.toNat { m with req := memWrite 0 m.req off.toNat bs })) ∧
    (off.toNat + bs.length ≤ 2048 → m.state = 1 →
      exec (.mailboxRequestWrite f off bs) s = .next (s.setBox f.toNat { m with pageErr := true })) ∧
    (v.toNat / 2 ^ 16 % 2 ^ 11 < 32 → exec (.dmbCtrl f v) s = .next (s.setBox f.toNat { m with
      vector := BitVec.ofNat 11 (v.toNat / 2 ^ 16), ie := v.getLsbD 0 })) ∧
    (32 ≤ v.toNat / 2 ^ 16 % 2 ^ 11 → exec (.dmbCtrl f v) s = .next s) ∧
    (v.getLsbD 0 = true → m.state ≠ 1 → knownOpcode (areaReq f m).1 = true →
      exec (.dmbDoorbell f v) s = .next (s.setBox f.toNat { m with state := 1, task := none })) ∧
    (v.getLsbD 0 = true → m.state = 1 → exec (.dmbDoorbell f v) s = .next (s.setBox f.toNat { m with overrun := true })) ∧
    (v.getLsbD 0 = false → exec (.dmbDoorbell f v) s = .next s)

namespace Sys2Proof.Claims

open Sys2Proof.Machine

/-- Queue pair `q` is the one function `f` has selected, and is assigned to it. -/
def selects (f : BitVec 6) (q : BitVec 12) (s : State) : Bool :=
  decide ((s.fn f.toNat).qsel = q) && (s.qp q.toNat).assigned && decide ((s.qp q.toNat).owner = f)

/-- The configuration R214 accepts. -/
def validConfig (x : QueuePair) : Bool :=
  decide (4 ≤ x.size.toNat) && decide (x.size.toNat ≤ 12) && decide (x.credits.toNat ≤ 2 ^ x.size.toNat - 1)

/-- The credit grant of R212. -/
def creditGrant (x : QueuePair) : BitVec 12 := if x.credits = 0 then BitVec.ofNat 12 (2 ^ x.size.toNat - 1) else x.credits

end Sys2Proof.Claims

open Sys2Proof Sys2Proof.Machine Sys2Proof.Claims in
/-- For every function and queue pair it has selected and owns in state DISABLED: EN = 1 with SIZE 4 to 12 and CREDITS at most
2^SIZE - 1 sets ENABLED, all head and tail indexes 0, the phase 1 and the credits to the grant; otherwise EN, STATE and
everything else stay and CAUSE reads 4. A descriptor fetch on a queue pair bound to no saggar changes nothing. (R214) -/
def Obligations.EnablingAQueuePairFollowsItsConfiguration : Prop :=
  ∀ (f : BitVec 6) (q : BitVec 12) (fetch : FetchResult) (s : State), let x := s.qp q.toNat
    (reachable f s = true → selects f q s = true → x.state = 0 →
      (validConfig x = true → exec (.queueEnable f) s = .next (s.setQp q.toNat { x with
        en := true, state := 1, errored := false, cause := 0, sqTail := 0, cqHead := 0, sqHead := 0, cqTail := 0, phase := true
        counted := 0, issued := creditGrant x, returned := creditGrant x, consumed := 0, reserved := 0, held := [] })) ∧
      (validConfig x = false → exec (.queueEnable f) s = .next (s.setQp q.toNat { x with cause := 4 }))) ∧
    (x.bound = none → exec (.descriptorFetch q fetch) s = .next s)

open Sys2Proof Sys2Proof.Machine Sys2Proof.Claims in
/-- A write of HIF_QP_OWNER_q sets ASSIGNED and FUNCTION of a DISABLED, unbound queue pair, and is ignored otherwise. EN = 0 on
an ENABLED queue pair sets EN 0 and DRAINING, notes an ERROR queue pair as such, and gives back its reservations. When its
jobs have completed and no entry is held, a DRAINING queue pair becomes DISABLED with CAUSE 0 and the credit counts 0.
Memory, commands in progress and jobs stay as they were. (R211, R215, R230, 07_host_queues.md) -/
def Obligations.QueuePairsAreAssignedDisabledAndDrained : Prop :=
  ∀ (f : BitVec 6) (q : BitVec 12) (v : Word) (s : State), let x := s.qp q.toNat
    (reachable 0 s = true →
      (x.state = 0 → x.bound = none → exec (.hifQpOwner q v) s =
        .next (s.setQp q.toNat { x with assigned := v.getLsbD 31, owner := BitVec.ofNat 6 v.toNat })) ∧
      (x.state ≠ 0 ∨ x.bound ≠ none → exec (.hifQpOwner q v) s = .next s)) ∧
    (reachable f s = true → selects f q s = true → x.state = 1 ∨ x.state = 3 → ∃ t, exec (.queueDisable f) s = .next t ∧
      t.qp q.toNat = { x with en := false, state := 2, errored := decide (x.state = 3), reserved := 0 } ∧
      t.hif.tokensOut = s.hif.tokensOut - x.reserved ∧ t.tasks = s.tasks ∧ t.jobs = s.jobs ∧ t.mem = s.mem) ∧
    (x.state = 2 → queueTasks q.toNat s = 0 → x.fetched = [] → x.held = [] → ∃ t, exec (.queueDrainComplete q) s = .next t ∧
      t.qp q.toNat = { x with state := 0, errored := false, cause := 0, issued := 0, consumed := 0, returned := 0 } ∧
      t.tasks = s.tasks ∧ t.jobs = s.jobs ∧ t.mem = s.mem)

namespace Sys2Proof.Claims

open Sys2Proof.Machine

/-- Entries a CQ_HEAD of `v` releases. -/
def released (x : QueuePair) (v : BitVec 12) : Nat := (v.toNat + x.ring - x.cqHead.toNat) % x.ring

end Sys2Proof.Claims

open Sys2Proof Sys2Proof.Machine Sys2Proof.Claims in
/-- For every queue pair of a function whose requests reach the part: an SQ_TAIL below the ring size is stored; a CQ_HEAD within
the entries written and not released is stored and moves one credit per released entry from CONSUMED to RETURNED, so that
their sum stays. An SQ_TAIL at or beyond the ring size, or a CQ_HEAD outside those entries, puts an ENABLED queue pair in
ERROR with CAUSE 3. A slot of a queue pair of another function ignores both. (R219, R220, R221, 07_host_queues.md) -/
def Obligations.DoorbellIndexesPostReleaseOrPutInError : Prop :=
  ∀ (f : BitVec 6) (q : BitVec 12) (v : Word) (s : State), reachable f s = true →
    let x := s.qp q.toNat
    let i := BitVec.ofNat 12 v.toNat
    (x.assigned = true → x.owner = f →
      (i.toNat < x.ring → exec (.sqTail f q v) s = .next (s.setQp q.toNat { x with sqTail := i })) ∧
      (x.state = 1 → x.ring ≤ i.toNat → ∃ t, exec (.sqTail f q v) s = .next t ∧
        (t.qp q.toNat).state = 3 ∧ (t.qp q.toNat).cause = 3 ∧ (t.qp q.toNat).sqTail = x.sqTail ∧ t.mem = s.mem) ∧
      (x.state ≠ 0 → x.held = [] → i.toNat < x.ring → released x i ≤ x.unread → released x i ≤ x.consumed.toNat →
        ∃ t, exec (.cqHead f q v) s = .next t ∧ t = s.setQp q.toNat { x with
          cqHead := i, consumed := x.consumed - BitVec.ofNat 12 (released x i), returned := x.returned + BitVec.ofNat 12 (released x i) } ∧
        (t.qp q.toNat).consumed + (t.qp q.toNat).returned = x.consumed + x.returned) ∧
      (x.state = 1 → x.ring ≤ i.toNat ∨ x.unread < released x i → ∃ t, exec (.cqHead f q v) s = .next t ∧
        (t.qp q.toNat).state = 3 ∧ (t.qp q.toNat).cause = 3 ∧ (t.qp q.toNat).cqHead = x.cqHead ∧ t.mem = s.mem)) ∧
    (x.assigned = false ∨ x.owner ≠ f → exec (.sqTail f q v) s = .next s ∧ exec (.cqHead f q v) s = .next s)

namespace Sys2Proof.Claims

open Sys2Proof.Machine

/-- A queue pair that can fetch. -/
def fetches (q : BitVec 12) (s : State) : Bool :=
  let x := s.qp q.toNat
  decide (x.state = 1) && x.bound.isSome && decide (x.reserved ≠ 0) && decide (x.posted ≠ 0) && decide (x.returned ≠ 0) &&
    awake s && s.fnExists x.owner.toNat && (s.fn x.owner.toNat).busMaster

end Sys2Proof.Claims

open Sys2Proof Sys2Proof.Machine Sys2Proof.Claims in
/-- Where one queue pair alone waits for tokens and one is free, TOKEN_GRANT reserves it: its reservations and the tokens out go
up by one. With no token free and a queue pair waiting it marks the exhaustion (event 17). A descriptor fetch on an enabled,
bound queue pair with a reservation, a posted descriptor and a credit moves SQ_HEAD on by one modulo the ring, one credit
from RETURNED to CONSUMED, uses the reservation and holds the descriptor; where the read fails the queue pair enters ERROR
with CAUSE 1 and SQ_HEAD stays. (R220, R222, R223, R224, R226, 07_host_queues.md) -/
def Obligations.FetchTakesOneReservationAndOneCredit : Prop :=
  ∀ (q : BitVec 12) (x : QueuePair) (h : BitVec 12) (d : DataDesc) (s : State),
    (awake s = true → s.tal.hold = false → s.hif.qps = [(q.toNat, x)] → s.tokenWait = [] → s.tasks = [] → qpWants x = true →
      x.bound = some h →
      (s.tokensFree ≠ 0 → ∃ t, exec .tokenGrant s = .next t ∧ t.qp q.toNat = { x with reserved := x.reserved + 1 } ∧
        t.hif.tokensOut = s.hif.tokensOut + 1 ∧ t.mem = s.mem) ∧
      (s.tokensFree = 0 → s.hif.exhausted = false → ∃ t, exec .tokenGrant s = .next t ∧ t.hif.exhausted = true ∧
        t.hif.qps = s.hif.qps ∧ t.hif.tokensOut = s.hif.tokensOut)) ∧
    (fetches q s = true → let y := s.qp q.toNat
      (∃ t, exec (.descriptorFetch q (.data d)) s = .next t ∧ t.qp q.toNat = { y with
          sqHead := BitVec.ofNat 12 ((y.sqHead.toNat + 1) % y.ring), returned := y.returned - 1, consumed := y.consumed + 1
          reserved := y.reserved - 1, fetched := y.fetched ++ [(y.sqHead, .data d)] } ∧ t.hif.tokensOut = s.hif.tokensOut) ∧
      (∃ t, exec (.descriptorFetch q .failed) s = .next t ∧ (t.qp q.toNat).state = 3 ∧ (t.qp q.toNat).cause = 1 ∧
        (t.qp q.toNat).sqHead = y.sqHead ∧ (t.qp q.toNat).returned = y.returned))

open Sys2Proof Sys2Proof.Machine Sys2Proof.Claims in
/-- When the coalescing time of a queue pair with IE and counted completions passes, the message of its unmasked vector goes out
and the count restarts. Unmasking a vector with its pending bit set sends the message and clears the bit; without, it only
unmasks. A request to a BAR whose Memory Space Enable is 0 raises event 9 with its offset. With Bus Master Enable clear for
100 ms while a descriptor waits, the only queue pair of the function enters ERROR with CAUSE 5 and its descriptors are
dropped. (R208, R226, R227, R230, 07_host_queues.md) -/
def Obligations.MessagesFollowMasksAndRefusedRequestsAreRecorded : Prop :=
  ∀ (f : BitVec 6) (q : BitVec 12) (v : BitVec 5) (bar2 : Bool) (offset : BitVec 32) (size : Nat) (y : QueuePair) (s : State),
    let x := s.qp q.toNat
    let n := s.fn f.toNat
    let e := mapGet {} n.msix v.toNat
    (x.ie = true → x.counted ≠ 0 → x.owner = f → x.vector = v → n.msixEnable = true → e.masked = false →
      exec (.msixCoalesceTimeout q) s =
        .next { s.setQp q.toNat { x with counted := 0 } with out := .msix f.toNat e.address e.data :: s.out }) ∧
    (reachable f s = true → e.masked = true → n.msixEnable = true →
      (n.pba.getLsbD v.toNat = true → ∃ t, exec (.msixUnmask f v) s = .next t ∧
        t.out = .msix f.toNat e.address e.data :: s.out ∧ (t.fn f.toNat).pba.getLsbD v.toNat = false ∧
        (mapGet {} (t.fn f.toNat).msix v.toNat).masked = false ∧ t.hif.qps = s.hif.qps ∧ t.mem = s.mem) ∧
      (n.pba.getLsbD v.toNat = false → ∃ t, exec (.msixUnmask f v) s = .next t ∧
        t = s.setFn f.toNat { n with msix := (t.fn f.toNat).msix } ∧ mapGet {} (t.fn f.toNat).msix v.toNat = { e with masked := false })) ∧
    (s.fnExists f.toNat = true → s.pwr.released = true → n.memEnable = false →
      exec (.barUnsupportedRequest f bar2 offset size) s = .next (raiseEvent 9 (detail [(2, f.toNat), (2, 0), (4, offset.toNat)]) s)) ∧
    (s.fnExists f.toNat = true → n.busMaster = false → s.hif.qps = [(q.toNat, y)] → y.assigned = true → y.owner = f → y.state = 1 →
      y.fetched ≠ [] → s.tasks = [] → ∃ t, exec (.busMasterTimeout f) s = .next t ∧
        (t.qp q.toNat).state = 3 ∧ (t.qp q.toNat).cause = 5 ∧ (t.qp q.toNat).fetched = [])

open Sys2Proof Sys2Proof.Machine Sys2Proof.Claims in
/-- With no command in progress: FUNCTION_LEVEL_RESET of an existing function clears its mailbox state and areas, MSI-X table
and pending bits, sets every queue pair assigned to it to its reset values but for owner and binding, discards a message in
progress of such a queue pair, and else leaves the vault; PCIE_PERST_N assertion and a link loss drop every queue pair,
HIF_GEVEC and the link, and leave keys, and without messages the vault. PCIE_PERST_N release, LINK_UP, PME_TURN_OFF and
configuration writes set their field. Which configuration fields a reset clears is the model's choice (log entry 62). (R92,
R206, R228, R229, R230, R244, R592, 07_host_queues.md) -/
def Obligations.FunctionAndLinkEventsResetTheHostInterface : Prop :=
  ∀ (f : BitVec 6) (q : BitVec 12) (v : Word) (rate width : BitVec 8) (kind : LinkLossKind) (i m : Nat) (y : Session) (g : Msg) (s : State),
    (s.tasks = [] → s.fnExists f.toNat = true → ∃ t, exec (.functionLevelReset f) s = .next t ∧ let n := t.fn f.toNat
      n.msix = [] ∧ n.pba = 0 ∧ n.mailbox.state = 0 ∧ n.mailbox.seq = 0 ∧ n.mailbox.lastStatus = 0 ∧ n.mailbox.req = [] ∧
      n.mailbox.resp = [] ∧ t.vault.keys = s.vault.keys ∧ ((∀ e ∈ s.vault.sessions, e.2.msgs = []) → t.vault = s.vault) ∧ t.mem = s.mem ∧
      (s.vault.sessions = [(i, y)] → y.msgs = [(m, g)] → g.qp = some q → (s.qp q.toNat).assigned = true → (s.qp q.toNat).owner = f → (t.session i).msgs = []) ∧
      let x := s.qp q.toNat
      (x.assigned = true → x.owner = f → t.qp q.toNat = { assigned := true, owner := f, bound := x.bound }) ∧
      (x.assigned = true → x.owner ≠ f → t.qp q.toNat = x)) ∧
    (s.tasks = [] → s.pwr.released = true →
      (s.sup.perstN = true → ∃ t, exec .pciePerstNAssert s = .next t ∧ t.sup.perstN = false ∧ t.hif.qps = [] ∧
        t.hif.gevecIe = false ∧ t.hif.linkUp = false ∧ (t.fn f.toNat).mailbox.state = 0 ∧ t.vault.keys = s.vault.keys ∧ ((∀ e ∈ s.vault.sessions, e.2.msgs = []) → t.vault = s.vault) ∧ t.mem = s.mem) ∧
      (s.hif.linkUp = true → kind ≠ .perst → ∃ t, exec (.linkLoss kind) s = .next t ∧ t.hif.qps = [] ∧
        t.hif.gevecIe = false ∧ t.hif.linkUp = false ∧ (t.fn f.toNat).mailbox.state = 0 ∧ t.vault.keys = s.vault.keys ∧ ((∀ e ∈ s.vault.sessions, e.2.msgs = []) → t.vault = s.vault) ∧ t.mem = s.mem)) ∧
    (s.sup.perstN = false → ∃ t, exec .pciePerstNRelease s = .next t ∧ t.sup.perstN = true ∧ t.pins.pcieWake = false ∧ t.hif = s.hif) ∧
    (s.pwr.released = true → s.sup.perstN = true → ballControl s.side.ir = false → ∃ t, exec (.linkUp rate width) s = .next t ∧
      t.hif = { s.hif with linkUp := true, rate, width, l12 := false, l2 := false }) ∧
    (s.hif.linkUp = true → exec .pmeTurnOff s = .next { s with hif := { s.hif with l2 := true, l12 := false } }) ∧
    (awake s = true → s.fnExists f.toNat = true → s.sup.perstN = true → let n := s.fn f.toNat
      exec (.configWrite f .memoryEnable v) s = .next (s.setFn f.toNat { n with memEnable := v.getLsbD 0 }) ∧
      exec (.configWrite f .msixEnable v) s = .next (s.setFn f.toNat { n with msixEnable := v.getLsbD 0 }) ∧
      (v.getLsbD 0 = true → exec (.configWrite f .busMaster v) s = .next (s.setFn f.toNat { n with busMaster := true })) ∧
      exec (.configWrite 0 .vfEnable 1) s = .next { s with hif := { s.hif with vfEnable := true } })

open Sys2Proof Sys2Proof.Machine Sys2Proof.Claims in
/-- An accepted SYS_IDENTIFY, SYS_GET_CAPS or PWR_STATUS completes with OK, a payload of its layout's length whose fields hold
the values of the state (the part code, the life-cycle state, versions and bank; the limits of the part and the active
lanes; cone, throttle step, tolerance and its terms, the setpoint), and changes nothing. SYS_GET_HEALTH does so with the
health flags and counts; read by the physical function it clears flags 11 and 15 and nothing else of the health state.
(R191, R192, R202, 06_depepa_commands.md) -/
def Obligations.ReadingCommandsReportWhatTheStateHolds : Prop :=
  ∀ (rq : Req) (power : BitVec 32) (s : State),
    (accepted specSysIdentify rq s = true → let n := taken specSysIdentify rq s
      completes (exec (.sysIdentify rq) s) specSysIdentify rq
        (holds 64 [(0, 4, 0x4192), (5, 1, n.lcs.state.toNat), (6, 1, 1), (7, 1, 0), (24, 4, Config.romVersion.toNat),
          (28, 4, n.patchVersion), (32, 1, if n.activeBank then 1 else 0), (33, 31, 0)]) (becomes n fun t => t)) ∧
    (accepted specSysGetCaps rq s = true → let n := taken specSysGetCaps rq s
      completes (exec (.sysGetCaps rq) s) specSysGetCaps rq
        (holds 64 [(0, 2, 4096), (2, 2, 4096), (4, 4, 65536), (8, 4, 65536), (12, 4, 16777216), (16, 1, activeCount .lane n),
          (18, 1, activeCount .service n), (20, 4, 48 * 1024 * 1024), (24, 2, 2032), (26, 2, 65520)]) (becomes n fun t => t)) ∧
    (accepted specPwrStatus rq s = true → let n := taken specPwrStatus rq s
      completes (exec (.pwrStatus rq power) s) specPwrStatus rq
        (holds 32 [(0, 1, n.pwr.cone.toNat), (1, 1, n.pwr.target.toNat), (2, 1, n.pwr.throttle.toNat), (4, 4, n.tolerance),
          (8, 4, n.hostTerm), (12, 4, n.saggarTerm), (16, 4, n.pwr.floor.toNat), (20, 2, n.pwr.setpoint.toNat),
          (24, 4, power.toNat)]) (becomes n fun t => t)) ∧
    (accepted specSysGetHealth rq s = true → let n := taken specSysGetHealth rq s
      completes (exec (.sysGetHealth rq) s) specSysGetHealth rq
        (holds 64 [(0, 8, healthFlags n), (8, 1, n.sup.pg.toNat), (40, 2, n.sparesFree), (44, 4, n.lcs.hours.toNat),
          (48, 4, n.lcs.cycles.toNat)])
        fun t => if reqFn rq n = some 0 then t.health = { n.health with takeover := false, brokenSeal := false } ∧ t.mem = n.mem else t = n)

open Sys2Proof Sys2Proof.Machine Sys2Proof.Claims in
/-- Accepted with values in range: SYS_SET_TIME before a span is open sets the UTC offset of the timebase; PWR_SET_FLOOR in cone
0 sets the floor; SYS_RESET_FUNCTION by the physical function resets the named virtual function's mailbox, MSI-X table and
queue pairs; UNIT_RETIRE of an idle spare unit leaves it retired, and of a retired one changes nothing; UNIT_RECALIBRATE of
a PLL whose twin is locked changes nothing, and of an excluded crazing-source pair that passes clears its bit. Each
completes with OK. (R191, R202, R228, R581, R583, R584, 06_depepa_commands.md, 22_modes_service.md) -/
def Obligations.SystemSettingsAndUnitsChangeAsCommanded : Prop :=
  ∀ (rq : Req) (cls : UnitClass) (q : BitVec 12) (s : State),
    (accepted specSysSetTime rq s = true → let n := taken specSysSetTime rq s
      rq.field 8 8 = 0 → n.tal.isOpen = false → exec (.sysSetTime rq) s = okWith specSysSetTime rq [] { n with tal := { n.tal with
        timeSet := true, offset := (rq.field 0 8 : Int) * 32768 - n.pwr.aon.toNat } }) ∧
    (accepted specPwrSetFloor rq s = true → let n := taken specPwrSetFloor rq s
      awake n = true → rq.field 0 4 ≤ 0xFFFFF → exec (.pwrSetFloor rq) s = okWith specPwrSetFloor rq []
        { n with pwr := { n.pwr with floor := BitVec.ofNat 20 (rq.field 0 4) } }) ∧
    (accepted specSysResetFunction rq s = true → let n := taken specSysResetFunction rq s
      let f := rq.field 0 2
      rq.route = .mailbox 0 → 1 ≤ f → f ≤ 63 → rq.field 2 2 = 0 → n.fnExists f = true → n.tasks = [] →
      completes (exec (.sysResetFunction rq) s) specSysResetFunction rq (· = []) fun t =>
        (t.fn f).msix = [] ∧ (t.fn f).mailbox.state = 0 ∧ t.vault.keys = n.vault.keys ∧
        ((∀ e ∈ n.vault.sessions, e.2.msgs = []) → t.vault = n.vault) ∧
        ((n.qp q.toNat).assigned = true → (n.qp q.toNat).owner.toNat = f →
          t.qp q.toNat = { assigned := true, owner := (n.qp q.toNat).owner, bound := (n.qp q.toNat).bound })) ∧
    (accepted specUnitRetire rq s = true → let n := taken specUnitRetire rq s
      let i := rq.field 2 2
      rq.field 0 1 ≤ 2 → retireClass rq = cls → rq.field 1 1 = 0 → i < unitCount cls →
      (n.role (unitNumber cls i) = .retired → exec (.unitRetire rq) s = okWith specUnitRetire rq [] n) ∧
      (n.role (unitNumber cls i) = .spare → n.tasks = [] → n.cru = [] → n.lanes.lane = [] → n.bst.running = [] → activeAfter cls i n ≠ 0 →
        completes (exec (.unitRetire rq) s) specUnitRetire rq (· = []) fun t => t.role (unitNumber cls i) = .retired)) ∧
    (accepted specUnitRecalibrate rq s = true → let n := taken specUnitRecalibrate rq s
      let i := rq.field 2 2
      rq.field 1 1 = 0 →
      (rq.field 0 1 = 0 → i ≤ 9 → n.pwr.unlocked = 0 → exec (.unitRecalibrate rq true) s = okWith specUnitRecalibrate rq [] n) ∧
      (rq.field 0 1 = 2 → i ≤ 7 → n.ent.failed.getLsbD i = true → n.ent.state ≠ 3 →
        exec (.unitRecalibrate rq true) s = okWith specUnitRecalibrate rq []
          { n with ent := { n.ent with failed := setBit n.ent.failed i false } }))

open Sys2Proof Sys2Proof.Machine Sys2Proof.Claims in
/-- Accepted, with nothing else in progress: a later chunk of UPD_STAGE at the staged length waits for the erases and programs
of its bytes in the bank that is not active; UPD_ACTIVATE and UPD_ROLLBACK of a verified image of the running state format
pass their effect point (bank select and running image change) and wait for the exchange; MOD_LOAD of a well-formed ring 2
image enters the module where its signature verifies and else completes with AUTH_FAIL; MOD_UNLOAD of an idle module leaves
its handle absent; a MOD_CALL that returns 0 to 16,384 bytes completes with them; a call that reaches its limit completes
with LIMIT. (R203, R577, R578, R579, R580, R588, R589, R590, 22_modes_service.md) -/
def Obligations.PatchImagesAndModulesChangeHands : Prop :=
  ∀ (rq : Req) (i call : Nat) (status : BitVec 32) (output : List Byte) (s : State),
    (accepted specUpdStage rq s = true → let n := taken specUpdStage rq s
      rq.field 12 4 = 0 → rq.field 20 1 ≤ 1 → rq.field 21 3 = 0 → 0 < rq.field 8 4 → rq.field 8 4 ≤ 262144 → n.tasks = [] →
      0 < rq.field 16 4 → rq.field 16 4 = n.upd.staged → rq.field 16 4 + rq.field 8 4 ≤ 4194304 → rq.dmaFails = false →
      let work := chunkWork (bankBase n.otherBank) (rq.field 16 4) (padTo (rq.field 8 4) rq.data) n
      chunkRefused work n = none → exec (.updStage rq) s = inProgress specUpdStage rq { rq, work } n) ∧
    ((accepted specUpdActivate rq s = true → let n := taken specUpdActivate rq s
        n.tasks = [] → (n.bank n.otherBank).verified = true → (n.bank n.otherBank).format = n.stateFormat →
        exec (.updActivate rq) s = inProgress specUpdActivate rq { rq, effected := true, work := [.drain []] }
          { n with upd := { n.upd with select := n.otherBank, running := some n.otherBank, staged := 0 } }) ∧
      (accepted specUpdRollback rq s = true → let n := taken specUpdRollback rq s
        n.tasks = [] → (n.bank n.otherBank).verified = true → (n.bank n.otherBank).format = n.stateFormat →
        exec (.updRollback rq) s = inProgress specUpdRollback rq { rq, effected := true, work := [.drain []] }
          { n with upd := { n.upd with select := n.otherBank, running := some n.otherBank, staged := 0 } })) ∧
    (accepted specModLoad rq s = true → let n := taken specModLoad rq s
      let len := rq.field 8 4
      let img := padTo len rq.data
      rq.field 12 4 = 0 → rq.dmaFails = false → imageOk img len rq.saggar = true → leField img 2 1 = 2 → leField img 28 4 = 0 →
      n.item 0x0A00 ≠ [] → n.vault.modules = [] → n.vault.modGens = [] → n.tasks = [] → leField img 16 4 + leField img 20 4 ≤ 49152 →
      if stdVerify 0x102 1 0 (n.item 0x0A00) (img.drop (len - 96)) (stdHash 9 48 (img.take (len - 96))) then
        completes (exec (.modLoad rq) s) specModLoad rq (· = leBytes 8 (moduleHandle n 0).toNat) fun t =>
          findModule (moduleHandle n 0) t = some 0 ∧ (mapGet ({} : Module) t.vault.modules 0).image = img
      else exec (.modLoad rq) s = fails specModLoad rq stAuthFail n) ∧
    (accepted specModUnload rq s = true → let n := taken specModUnload rq s
      findModule (Req64 rq 0) n = some i → (mapGet ({} : Module) n.vault.modules i).saggar = rq.saggar → n.tasks = [] →
      completes (exec (.modUnload rq) s) specModUnload rq (· = []) fun t => findModule (Req64 rq 0) t = none) ∧
    (accepted specModCall rq s = true → let n := taken specModCall rq s
      rq.payload.length = 16 + rq.field 12 4 → rq.field 12 4 ≤ 16384 → findModule (Req64 rq 0) n = some i →
      (mapGet ({} : Module) n.vault.modules i).ring = 2 → rq.field 8 2 < (mapGet ({} : Module) n.vault.modules i).gates →
      rq.field 10 2 = 0 → output.length ≤ 16384 → respFits rq (8 + output.length) = none →
      completes (exec (.modCall rq (.returned status output.length output)) s) specModCall rq
        (fun p => p = leBytes 4 status.toNat ++ leBytes 4 output.length ++ output) (becomes n fun t => t)) ∧
    ((s.task call).opcode = 0x0F12 → (s.task call).work = [.call] → (s.task call).reserved = false → (s.task call).silent = false →
      exec (.moduleCallTimeout call) s = .next (respond 0x0F12 (s.task call).rq stLimit 0 [] { s with tasks := mapDel s.tasks call }))

open Sys2Proof Sys2Proof.Machine Sys2Proof.Claims in
/-- An accepted SAG_CREATE in range draws 32 bytes and programs a root record; when these are done the lowest free id is a live
saggar with the request's owner, weight, quota and policy, and the bytes drawn as root. SAG_SET_POLICY sets policy, weight
and quota; SAG_SET_LATENCY sets the tolerance, at once where it does not fall or the cone is permitted; SAG_QUERY reports
the saggar and changes nothing; SAG_BIND_QUEUE binds an assigned unbound queue pair of the owner, an exit from the cone
starting where the saggar's tolerance excludes it, and unbinds one with nothing in progress; SAG_DESTROY draws a nonce and
programs its tombstone first, and with no job in flight the saggar is then absent and its id spent. SETTINGS_RECORD_WRITE
draws 12 bytes and writes the settings of a changed saggar to the log, once. (R79, R80, R177, R191, R329, R332, R344, R345,
R354, R355, R356, 11_vault_saggars.md) -/
def Obligations.SaggarCommandsChangeTheSaggarTheyName : Prop :=
  ∀ (rq : Req) (h : BitVec 12) (t : Task) (s : State),
    (accepted specSagCreate rq s = true → let n := taken specSagCreate rq s
      rq.field 0 2 ≤ 63 → 1 ≤ rq.field 2 2 → rq.field 2 2 ≤ 1000 → saggarPolicyOk (Req64 rq 8) = true → (Req64 rq 8).getLsbD 5 = false →
      (freeSaggar n).isSome = true → quotasBut 4096 n + rq.field 4 4 ≤ 49152 → drawStatus n = none →
      exec (.sagCreate rq) s = inProgress specSagCreate rq { rq, work := [.draw 32, .draw 12, .logPage] } n) ∧
    (∀ i, freeSaggar s = some i → ∃ u, finishSagCreate { t with rq } s = .done stOk 0 (leBytes 2 i ++ leBytes 2 0) u ∧
      u.saggar i = { live := true, owner := BitVec.ofNat 6 (rq.field 0 2), weight := BitVec.ofNat 16 (rq.field 2 2),
                     quota := BitVec.ofNat 32 (rq.field 4 4), policy := Req64 rq 8, root := t.drawn.take 32, created := true }) ∧
    (accepted specSagSetPolicy rq s = true → let n := taken specSagSetPolicy rq s
      let g := n.saggar rq.saggar.toNat
      saggarPolicyOk (Req64 rq 0) = true → ((Req64 rq 0).getLsbD 5 = true → 0 < (Req64 rq 0).toNat / 2 ^ 48) → 1 ≤ rq.field 8 2 → rq.field 8 2 ≤ 1000 → rq.field 10 2 = 0 →
      quotasBut rq.saggar.toNat n + rq.field 12 4 ≤ 49152 → (n.setSaggar rq.saggar.toNat { g with policy := Req64 rq 0, weight := BitVec.ofNat 16 (rq.field 8 2), quota := BitVec.ofNat 32 (rq.field 12 4) }).hotReserved ≤ 49152 →
      completes (exec (.sagSetPolicy rq) s) specSagSetPolicy rq (· = []) fun u =>
        u.saggar rq.saggar.toNat = { g with policy := Req64 rq 0, weight := BitVec.ofNat 16 (rq.field 8 2),
                                            quota := BitVec.ofNat 32 (rq.field 12 4), unsaved := true } ∧ u.mem = n.mem) ∧
    (accepted specSagSetLatency rq s = true → let n := taken specSagSetLatency rq s
      let g := n.saggar rq.saggar.toNat
      rq.field 0 4 ≤ 0xFFFFF →
      (g.tolerance.toNat ≤ rq.field 0 4 ∨ coneAllowed (n.setSaggar rq.saggar.toNat { g with tolerance := BitVec.ofNat 20 (rq.field 0 4) }) = true) → exec (.sagSetLatency rq) s = okWith specSagSetLatency rq []
        (n.setSaggar rq.saggar.toNat { g with tolerance := BitVec.ofNat 20 (rq.field 0 4) })) ∧
    (accepted specSagQuery rq s = true → let n := taken specSagQuery rq s
      let g := n.saggar rq.saggar.toNat
      completes (exec (.sagQuery rq) s) specSagQuery rq
        (holds 48 [(0, 2, g.owner.toNat), (2, 2, g.weight.toNat), (4, 4, g.quota.toNat), (8, 8, g.policy.toNat),
          (16, 4, g.tolerance.toNat), (40, 1, if g.destroying then 2 else if n.saggarActive rq.saggar.toNat then 0 else 1), (41, 7, 0)])
        (becomes n fun u => u)) ∧
    (accepted specSagBindQueue rq s = true → let n := taken specSagBindQueue rq s
      let q := rq.field 0 2
      q ≤ 4095 → rq.field 2 1 = 0 → rq.field 3 1 = 0 → (n.qp q).assigned = true → (n.qp q).owner = (n.saggar rq.saggar.toNat).owner →
      (n.qp q).bound = none → exec (.sagBindQueue rq) s = okWith specSagBindQueue rq []
        (reevaluateCone (n.setQp q { n.qp q with bound := some (rq.saggar.setWidth 12) }))) ∧
    (accepted specSagBindQueue rq s = true → let n := taken specSagBindQueue rq s
      let q := rq.field 0 2
      q ≤ 4095 → rq.field 2 1 = 1 → rq.field 3 1 = 0 → (n.qp q).bound = some (rq.saggar.setWidth 12) → (n.qp q).fetched = [] →
      queueWork q n = [] → completes (exec (.sagBindQueue rq) s) specSagBindQueue rq (· = []) fun u => (u.qp q).bound = none) ∧
    (accepted specSagDestroy rq s = true → exec (.sagDestroy rq) s =
      inProgress specSagDestroy rq { rq, work := [.draw 12, .logPage] } (taken specSagDestroy rq s)) ∧
    (s.jobs = [] → ∃ u, finishSagDestroy { t with rq, phase := 0 } s = .done stOk 0 [] u ∧
      (u.saggar rq.saggar.toNat).live = false ∧ (u.saggar rq.saggar.toNat).spent = true ∧ (u.saggar rq.saggar.toNat).root = []) ∧
    ((s.saggar h.toNat).live = true → (s.saggar h.toNat).unsaved = true → s.bk.lock = 0 → drawStatus s = none →
      ∃ u, exec (.settingsRecordWrite h) s = .next u ∧ u.saggar h.toNat = { s.saggar h.toNat with unsaved := false } ∧
        u.ent.out = s.ent.out + 12 ∧
        ∃ r, u.vault.log = s.vault.log ++ [r] ∧ r.type = 2 ∧ r.saggar = h ∧ r.policy = (s.saggar h.toNat).policy ∧
          r.weight = (s.saggar h.toNat).weight ∧ r.quota = (s.saggar h.toNat).quota) ∧
    ((s.saggar h.toNat).unsaved = false → exec (.settingsRecordWrite h) s = .next s)

open Sys2Proof Sys2Proof.Machine Sys2Proof.Claims in
/-- Accepted and permitted by policy, limit and room: KEY_GENERATE and KEY_ROTATE stay in progress for the randomness or the
crucible operation that makes the key, and the finished command enters a live key with the material made; KEY_EXPORT_WRAPPED
draws its nonce and then returns the blob; KEY_IMPORT_WRAPPED under the blob key enters the key where the tag authenticates,
and completes with AUTH_FAIL and event 255 where not; KEY_DERIVE starts the HMAC jobs of HKDF; KEY_DESTROY with no job in
flight leaves the handle absent; KEY_QUERY reports the key; KEY_SET_CHAIN attaches the chain. (R182, R193, R340, R341, R343,
R346, R348, R349, R350, R351, R352, R353) -/
def Obligations.KeyCommandsActOnTheKeyTheyName : Prop :=
  ∀ (rq : Req) (i bits : Nat) (c : KeyClass) (limit : BitVec 64) (s : State),
    (accepted specKeyGenerate rq s = true → let n := taken specKeyGenerate rq s
      let alg := rq.field 0 2
      generateBits alg (rq.field 2 2) = some bits → rq.field 4 4 = 0 → rq.field 36 4 = 0 → policyBits (Req64 rq 8) = true →
      keyClass alg bits = some c → policyOk c false (Req64 rq 8) = true → respFits rq 16 = none →
      (rq.field 32 4 = 0 ∨ publicLen alg bits ≤ rq.field 32 4) → usageLimit (n.saggar rq.saggar.toNat) alg bits (Req64 rq 16) = some limit →
      cacheRoom rq.saggar.toNat 1 ((materialLen alg bits - 64 + 1023) / 1024) n = true → drawStatus n = none →
      exec (.keyGenerate rq) s = inProgress specKeyGenerate rq { rq, work := makeWork alg bits, note := [alg, bits, limit.toNat] } n) ∧
    (∀ t u, t.rq = rq → t.note = [rq.field 0 2, bits, limit.toNat] → isPair (rq.field 0 2) = false → rq.field 32 4 = 0 →
      createKey { saggar := rq.saggar.setWidth 12, alg := BitVec.ofNat 16 (rq.field 0 2), bits := BitVec.ofNat 16 bits,
                  material := t.drawn, policy := Req64 rq 8, limit } s = some (i, u) →
      finishKeyGenerate t s = .done stOk 0 (leBytes 8 (keyHandle u i).toNat ++ leBytes 8 0) u ∧
        (u.key i).live = true ∧ (u.key i).material = t.drawn ∧ (u.key i).policy = Req64 rq 8 ∧ (u.key i).limit = limit) ∧
    (accepted specKeyRotate rq s = true → let n := taken specKeyRotate rq s
      let k := n.key i
      findKey rq (Req64 rq 0) false n = some i → rq.field 8 1 ≤ 1 → rq.field 9 7 = 0 → respFits rq 8 = none → k.isPublic = false →
      k.traffic = false → cacheRoom rq.saggar.toNat 1 ((materialLen k.alg.toNat k.bits.toNat - 64 + 1023) / 1024) n = true →
      drawStatus n = none → exec (.keyRotate rq) s = inProgress specKeyRotate rq
        { rq, work := makeWork k.alg.toNat k.bits.toNat, note := [i, k.alg.toNat, k.bits.toNat, k.policy.toNat, k.limit.toNat] } n) ∧
    (accepted specKeyExportWrapped rq s = true → let n := taken specKeyExportWrapped rq s
      let k := n.key i
      findKey rq (Req64 rq 0) false n = some i → Req64 rq 8 = 0 → respFits rq (72 + blobLen k.alg.toNat k.bits.toNat) = none →
      k.ephemeral = false → k.traffic = false → k.isPublic = false → k.policy.getLsbD 10 = true → drawStatus n = none →
      exec (.keyExportWrapped rq) s = inProgress specKeyExportWrapped rq
        { rq, work := [.draw 12], note := [i, 1], store := saggarSubkey rq.saggar.toNat "blob" n } n) ∧
    (accepted specKeyImportWrapped rq s = true → let n := taken specKeyImportWrapped rq s
      let blob := rq.payload.drop 16
      let h := rq.saggar.toNat
      let aad := blobAad (sliceBytes blob 0 48) h true
      rq.field 8 4 = blob.length → Req64 rq 0 = 0 → rq.field 12 4 = 0 → respFits rq 8 = none → leField blob 0 2 = 0x0101 →
      blob.length = 64 + leField blob 44 4 → leField blob 6 2 = 1 → blobSizeOk (leField blob 2 2) (leField blob 4 2) (leField blob 44 4) = true →
      keyClass (leField blob 2 2) (leField blob 4 2) = some c → policyOk c false (BitVec.ofNat 64 (leField blob 8 8)) = true →
      usageLimit (n.saggar h) (leField blob 2 2) (leField blob 4 2) (BitVec.ofNat 64 (leField blob 16 8)) = some limit →
      n.vault.keys = [] → n.vault.keyGens = [] → n.vault.shakes = [] → materialLen (leField blob 2 2) (leField blob 4 2) ≤ 64 →
      if stdGcmOk (saggarSubkey h "blob" n) (sliceBytes blob 32 12) aad (blob.drop 48) then
        ∃ j u, exec (.keyImportWrapped rq) s = okWith specKeyImportWrapped rq (leBytes 8 (keyHandle u j).toNat) u ∧ (u.key j).live = true ∧
          (u.key j).policy = BitVec.ofNat 64 (leField blob 8 8) ∧ (u.key j).uses = BitVec.ofNat 64 (leField blob 24 8)
      else exec (.keyImportWrapped rq) s = fails specKeyImportWrapped rq stAuthFail (raiseEvent 255 (detail [(2, h), (2, 0x0301)]) n)) ∧
    (accepted specKeyDerive rq s = true → let n := taken specKeyDerive rq s
      let k := n.key i
      let bits := 8 * rq.field 12 2
      rq.payload.length = 40 + rq.field 32 2 → findKey rq (Req64 rq 0) false n = some i → rq.field 14 2 = 0 → rq.field 34 6 = 0 →
      rq.field 32 2 ≤ 1984 → (rq.field 8 2 = 0x201 ∨ rq.field 8 2 = 0x202) → deriveLenOk (rq.field 10 2) (rq.field 12 2) = true →
      policyBits (Req64 rq 16) = true → respFits rq 8 = none → keyClass (rq.field 10 2) bits = some c → policyOk c false (Req64 rq 16) = true →
      usageLimit (n.saggar rq.saggar.toNat) (rq.field 10 2) bits (Req64 rq 24) = some limit → k.policy.getLsbD 7 = true →
      ((Req64 rq 16).getLsbD 9 = true → k.policy.getLsbD 9 = true) → ((Req64 rq 16).getLsbD 10 = true → k.policy.getLsbD 10 = true) →
      k.retired = false → cacheRoom rq.saggar.toNat 1 0 n = true →
      exec (.keyDerive rq) s = inProgress specKeyDerive rq
        { rq, work := deriveWork (rq.field 8 2) k.material.length (rq.field 32 2) (rq.field 12 2) (some i)
          note := [rq.field 10 2, bits, limit.toNat], store := k.material } n) ∧
    (accepted specKeyDestroy rq s = true → let n := taken specKeyDestroy rq s
      findKey rq (Req64 rq 0) false n = some i → n.jobs = [] → completes (exec (.keyDestroy rq) s) specKeyDestroy rq (· = [])
        fun u => (u.key i).live = false ∧ findKey rq (Req64 rq 0) true u = none) ∧
    (accepted specKeyQuery rq s = true → let n := taken specKeyQuery rq s
      let k := n.key i
      findKey rq (Req64 rq 0) true n = some i → respFits rq 48 = none → completes (exec (.keyQuery rq) s) specKeyQuery rq
        (holds 48 [(0, 2, k.alg.toNat), (2, 2, k.bits.toNat), (4, 1, if k.destroying then 2 else if k.retired then 1 else 0),
          (5, 1, if k.hot || k.ephemeral then 0 else 1), (8, 8, k.policy.toNat), (16, 8, k.limit.toNat), (24, 8, k.uses.toNat),
          (32, 8, k.created.toNat), (40, 4, k.chain.length), (44, 4, 0)]) (becomes n fun u => u)) ∧
    (accepted specKeySetChain rq s = true → let n := taken specKeySetChain rq s
      let k := n.key i
      let len := rq.field 16 4
      findKey rq (Req64 rq 0) false n = some i → rq.field 20 4 = 0 → k.policy.getLsbD 11 = true → 0 < len → len ≤ 16384 → rq.dmaFails = false →
      entriesFill len (padTo len rq.data) = true → n.extentsUsed - (k.chain.length + 1023) / 1024 + (len + 1023) / 1024 ≤ 1048576 →
      exec (.keySetChain rq) s = okWith specKeySetChain rq [] (n.setKey i { k with chain := padTo len rq.data }))

open Sys2Proof Sys2Proof.Machine Sys2Proof.Claims in
/-- Accepted: SES_OPEN with a key of the class and policy of the algorithm, or of a hash with handle 0, enters a live session
with no message in progress; SES_CLOSE with no job in flight returns the messages and bytes and leaves the handle absent;
SES_SAVE_CONTEXT in clear form, where the policy permits it, returns the clear context and changes nothing, and in wrapped
form draws its nonce first; SES_RESTORE_CONTEXT takes a fitting clear context; SES_QUERY_USAGE reports the key's count and
limit, the bytes and the state. (R190, R193, R235, R249, R251, R252, R254, R352) -/
def Obligations.SessionCommandsActOnTheSessionTheyName : Prop :=
  ∀ (rq : Req) (i k : Nat) (s : State),
    (accepted specSesOpen rq s = true → let n := taken specSesOpen rq s
      let alg := rq.field 8 2
      let isDec := decide (rq.field 10 1 = 1)
      ((isHash alg = true ∧ Req64 rq 0 = 0 ∧ isDec = false) ∨
        (1 ≤ alg ∧ alg ≤ 7 ∧ findKey rq (Req64 rq 0) false n = some k ∧ keyServes alg (n.key k) = true ∧ policyServes alg isDec (n.key k) = true ∧
          (n.key k).traffic = false ∧ (n.key k).retired = false)) →
      rq.field 10 1 ≤ 1 → (alg = 1 ∨ alg = 2 ∨ alg = 5 → 12 ≤ rq.field 12 1 ∧ rq.field 12 1 ≤ 16) → (alg = 3 → rq.field 12 1 = 16) → rq.field 11 1 = 0 → rq.field 13 3 = 0 →
      rq.field 28 4 = 0 → respFits rq 8 = none → n.vault.sessions = [] → n.vault.sesGens = [] →
      ∃ j u, exec (.sesOpen rq) s = okWith specSesOpen rq (leBytes 8 (sessionHandle u j).toNat) u ∧
        (u.session j).live = true ∧ (u.session j).alg.toNat = alg ∧ (u.session j).decrypt = isDec ∧ (u.session j).cur = none ∧
        (u.session j).key = (if isHash alg then 0 else Req64 rq 0) ∧ (u.session j).nonce = rq.bytes 16 12) ∧
    (accepted specSesClose rq s = true → let n := taken specSesClose rq s
      findSession (rq.saggar.setWidth 12) (Req64 rq 0) n = some i → respFits rq 16 = none → n.jobs = [] →
      completes (exec (.sesClose rq) s) specSesClose rq
        (holds 16 [(0, 8, (n.session i).messages.toNat), (8, 8, (n.session i).bytes.toNat)])
        fun u => findSession (rq.saggar.setWidth 12) (Req64 rq 0) u = none) ∧
    (accepted specSesSaveContext rq s = true → let n := taken specSesSaveContext rq s
      let x := n.session i
      let len := 16 + stateAreaLen x.alg.toNat
      usableSession rq n = some i → rq.field 9 7 = 0 → ¬(x.decrypt = true ∧ isAead x.alg.toNat = true ∧ x.cur.isSome = true) →
      (rq.field 8 1 = 0 → respFits rq (8 + len) = none → (n.saggar rq.saggar.toNat).policy.getLsbD 0 = true →
        exec (.sesSaveContext rq) s = okWith specSesSaveContext rq (leBytes 4 len ++ leBytes 4 0 ++ clearContext x) n) ∧
      (rq.field 8 1 = 1 → respFits rq (40 + len) = none → n.ent.state ≠ 3 →
        exec (.sesSaveContext rq) s = inProgress specSesSaveContext rq { rq, work := [.draw 12], note := [i] } n)) ∧
    (accepted specSesRestoreContext rq s = true → let n := taken specSesRestoreContext rq s
      let c := rq.payload.drop 16
      rq.field 12 4 = c.length → usableSession rq n = some i → rq.field 8 1 = 0 → rq.field 9 3 = 0 →
      (n.saggar rq.saggar.toNat).policy.getLsbD 0 = true → (n.session i).cur = none → contextFits (n.session i) c = true →
      exec (.sesRestoreContext rq) s = okWith specSesRestoreContext rq [] (n.setSession i (takeContext (n.session i) c))) ∧
    (accepted specSesQueryUsage rq s = true → let n := taken specSesQueryUsage rq s
      let x := n.session i
      findSession (rq.saggar.setWidth 12) (Req64 rq 0) n = some i → respFits rq 32 = none → x.key ≠ 0 → sessionKey x n = some k →
      completes (exec (.sesQueryUsage rq) s) specSesQueryUsage rq
        (holds 32 [(0, 8, (n.key k).uses.toNat), (8, 8, (n.key k).limit.toNat), (16, 8, x.bytes.toNat),
          (24, 1, if x.frozen then 2 else if (n.key k).retired then 1 else 0), (25, 7, 0)]) (becomes n fun u => u))

open Sys2Proof Sys2Proof.Machine Sys2Proof.Claims in
/-- Accepted and permitted: PK_SIGN, PK_VERIFY, PK_KEYPAIR, PK_AGREE, PK_ENCAPS and PK_DECAPS stay in progress for their draw,
their hashes and their whole operation; a verification of malformed inputs ends with REJECT, of well-formed ones with OK or
AUTH_FAIL as they verify. PK_LEASE_RAW with enough free crucibles and tokens grants a live lease of that many crucibles with
the requested slot length, each idle with an empty queue; PK_RELEASE_RAW leaves the lease absent. (R194, R195, R249, R274,
R275, R276, R278, R287, R289, R290, R291, 09_crucible_array.md) -/
def Obligations.PublicKeyCommandsStartTheirOperationOrRejectTheirInput : Prop :=
  ∀ (rq : Req) (i bits : Nat) (c : KeyClass) (t : Task) (s : State),
    (accepted specPkSign rq s = true → let n := taken specPkSign rq s
      let k := n.key i
      let alg := k.alg.toNat
      let digest := decide (rq.field 8 1 = 0)
      let hash := hashField rq 9 alg
      let draw := opDraw alg opSign (if rq.flags.getLsbD 8 then hashLen hash else 0)
      rq.payload.length = 16 + rq.field 12 4 → findKey rq (Req64 rq 0) false n = some i → rq.field 8 1 ≤ 1 → hash ≤ 2 → rq.field 10 2 = 0 →
      canSign alg = true → (isEd alg = true → digest = false) → (rq.flags.getLsbD 8 = true → alg = 0x110) →
      respFits rq (8 + signatureLen alg k.bits.toNat) = none → k.policy.getLsbD 3 = true → k.isPublic = false → k.retired = false →
      drawStatus n = none → exec (.pkSign rq) s = inProgress specPkSign rq
        { rq, note := [i, alg, k.bits.toNat], store := k.material
          work := .draw draw :: signHashes alg hash digest false (rq.field 12 4) ++ [.op k.alg opSign (opWords alg k.bits.toNat) (some i) false] } n) ∧
    (accepted specPkVerify rq s = true → let n := taken specPkVerify rq s
      let alg := rq.field 8 2
      let pub := rq.payload.drop (24 + rq.field 12 4 + rq.field 16 4)
      let hash := hashField rq 11 alg
      rq.payload.length = 24 + rq.field 12 4 + rq.field 16 4 + rq.field 20 4 → Req64 rq 0 = 0 → rq.field 10 1 = 1 → hash ≤ 2 →
      canSign alg = true → (rq.flags.getLsbD 8 = true → alg = 0x110) →
      exec (.pkVerify rq) s = inProgress specPkVerify rq
        { rq, note := [alg, inlineBits alg (rq.field 20 4)], store := pub
          work := signHashes alg hash false true (rq.field 12 4) ++
          [.op (BitVec.ofNat 16 alg) opVerify (opWords alg (inlineBits alg (rq.field 20 4))) none false] } n) ∧
    (let alg := rq.field 8 2
      let hash := hashField rq 11 alg
      let digest := decide (rq.field 10 1 = 0)
      let input := (rq.payload.drop 24).take (rq.field 12 4)
      let sig := (rq.payload.drop (24 + rq.field 12 4)).take (rq.field 16 4)
      finishPkVerify { t with rq } s = .done (if !verifyInputOk alg (hashLen hash) digest t.store sig input then stReject
        else if stdVerify alg hash (pssFlag rq + (if digest then 2 else 0)) t.store sig input then stOk else stAuthFail) 0 [] s) ∧
    (accepted specPkKeypair rq s = true → let n := taken specPkKeypair rq s
      let alg := rq.field 0 2
      generateBits alg (rq.field 2 2) = some bits → rq.field 4 4 = 0 → isPair alg = true → policyBits (Req64 rq 8) = true → respFits rq (16 + publicLen alg bits) = none →
      keyClass alg bits = some c → policyOk c false (Req64 rq 8) = true → n.vault.keys = [] →
      ((n.saggar rq.saggar.toNat).hotShare = 0 ∨ (materialLen alg bits + 63) / 64 ≤ (n.saggar rq.saggar.toNat).hotShare) → drawStatus n = none →
      exec (.pkKeypair rq) s = inProgress specPkKeypair rq { rq, note := [alg, bits], work := makeWork alg bits } n) ∧
    (accepted specPkAgree rq s = true → let n := taken specPkAgree rq s
      let k := n.key i
      rq.payload.length = 24 + rq.field 8 4 → findKey rq (Req64 rq 0) false n = some i → rq.field 12 1 = 0 → rq.field 13 3 = 0 →
      canAgree k.alg.toNat = true → respFits rq (16 + secretLen k.alg.toNat) = none → k.policy.getLsbD 5 = true → k.isPublic = false →
      k.retired = false → exec (.pkAgree rq) s = inProgress specPkAgree rq
        { rq, note := [i, k.alg.toNat], store := k.material
          work := [.op k.alg opAgree (opWords k.alg.toNat k.bits.toNat) (some i) false] } n) ∧
    (accepted specPkEncaps rq s = true → let n := taken specPkEncaps rq s
      let alg := rq.field 0 2
      rq.payload.length = 24 + rq.field 16 4 → isMlKem alg = true → rq.field 2 1 = 0 → rq.field 3 5 = 0 → rq.field 20 4 = 0 →
      respFits rq (48 + ciphertextLen alg) = none → drawStatus n = none →
      exec (.pkEncaps rq) s = inProgress specPkEncaps rq
        { rq, work := [.draw 32, .op (BitVec.ofNat 16 alg) opEncaps (opWords alg 0) none false] } n) ∧
    (accepted specPkDecaps rq s = true → let n := taken specPkDecaps rq s
      let k := n.key i
      rq.payload.length = 32 + rq.field 24 4 → findKey rq (Req64 rq 0) false n = some i → rq.field 8 1 = 0 → rq.field 9 7 = 0 →
      rq.field 28 4 = 0 → isMlKem k.alg.toNat = true → respFits rq 48 = none → rq.field 24 4 = ciphertextLen k.alg.toNat →
      k.policy.getLsbD 6 = true → k.retired = false → exec (.pkDecaps rq) s = inProgress specPkDecaps rq
        { rq, note := [i, k.alg.toNat], store := k.material, work := [.op k.alg opDecaps (opWords k.alg.toNat 0) (some i) false] } n) ∧
    (accepted specPkLeaseRaw rq s = true → let n := taken specPkLeaseRaw rq s
      let m := rq.field 0 1
      1 ≤ m → m ≤ 8 → 1 ≤ rq.field 1 1 → rq.field 1 1 ≤ 128 → rq.field 2 2 = 0 → 1 ≤ rq.field 4 4 → rq.field 4 4 ≤ 1000000 →
      (n.saggar rq.saggar.toNat).policy.getLsbD 3 = true → m ≤ (poolList n).length → n.tal.hold = false → m ≤ n.tokensFree →
      n.vault.leases = [] → n.vault.leaseGens = [] →
      ∃ j p u, exec (.pkLeaseRaw rq) s = okWith specPkLeaseRaw rq p u ∧ p.length = 16 ∧ leField p 0 8 = (leaseHandle u j).toNat ∧
        (u.lease j).live = true ∧ (u.lease j).crucibles = (poolList n).take m ∧ (u.lease j).slotLen.toNat = rq.field 1 1 ∧
        (u.lease j).limit.toNat = rq.field 4 4 ∧
        ∀ x ∈ (poolList n).take m, (u.crucible x).lease = some j ∧ (u.crucible x).rawQueue = [] ∧ (u.crucible x).sealed = 0) ∧
    (accepted specPkReleaseRaw rq s = true → let n := taken specPkReleaseRaw rq s
      findLease (rq.saggar.setWidth 12) (Req64 rq 0) n = some i → completes (exec (.pkReleaseRaw rq) s) specPkReleaseRaw rq
        (fun p => p.length = 8) fun u => findLease (rq.saggar.setWidth 12) (Req64 rq 0) u = none)

namespace Sys2Proof.Claims

open Sys2Proof.Machine

/-- Core `c` executes in ring 0. -/
def executes0 (c : CoreId) (s : State) : Bool :=
  let k := s.core c
  k.running && !k.halted && !k.waiting && decide (k.ring = 0)

/-- Core `c` executes in ring 0 and has a permission (0 read, 1 write) for the word at `a`. -/
def mayAccess (c : CoreId) (bit a : Nat) (s : State) : Bool := executes0 c s && mpuGrant (s.core c) 0 bit a 4

end Sys2Proof.Claims

open Sys2Proof Sys2Proof.Machine Sys2Proof.Claims in
/-- For every core that executes in ring 0 and may read there, the read of CONE_AON_LO, CL_ACT_BYTES_LO of a lane,
CRU_ACT_CYC_LO of a crucible below 160, TAL_SEQ_LO, TAL_ACKED_LO (0 before the first TAL_ACK is the model's choice, log
entry 2), TAL_MIN_LO, ENT_OUT_LO, ENT_HOST_LO, ARC_NEXT_LO and BST_LINKBITS_LO answers a next state; the word read is bits
31 to 0 of the counter, and in that state the high word of the pair reads its bits 63 to 32. Memory, the cores and the vault
are unchanged. A read of SBI_DROPS clears it and changes nothing else. Without the permission the core takes an access fault
with INFO 1; a core that executes nothing changes nothing. (R96, R263, R294, R386, R410, R509, R553, 03_cones_clocks.md,
12_tallies.md, 13_entropy.md) -/
def Obligations.LowWordsReadTheCounterAndLatchItsHighWord : Prop :=
  ∀ (c : CoreId) (lane : BitVec 4) (n : BitVec 8) (s : State), n.toNat < 160 →
    let rows : List ((CoreId → Instr) × Nat × (State → BitVec 64)) :=
      [(.coneAonLo, 0x1900020, fun s => s.pwr.aon.setWidth 64),
        (fun c => .clActBytesLo c lane, 0x1310008 + 0x1000 * lane.toNat, fun s => (s.lane lane.toNat).actBytes),
        (fun c => .cruActCycLo c n, 0x141000C + 0x100 * n.toNat, fun s => (s.crucible n.toNat).actCyc),
        (.talSeqLo, 0x1700004, fun s => s.tal.next), (.talAckedLo, 0x170000C, fun s => s.tal.acked.getD 0),
        (.talMinLo, 0x170001C, fun s => s.tal.first.setWidth 64), (.entOutLo, 0x1C00010, fun s => s.ent.out),
        (.entHostLo, 0x1C00018, fun s => s.ent.host), (.arcNextLo, 0x2500004, fun s => s.cards.next),
        (.bstLinkbitsLo, 0x1A00048, fun s => s.bst.linkBits)]
    (∀ e ∈ rows,
      (mayAccess c 0 e.2.1 s = true → ∃ t, exec (e.1 c) s = .next t ∧
        coreRegRead c 0 e.2.1 s = some ((e.2.2 s).setWidth 32, t) ∧
        coreRegRead c 0 (e.2.1 + 4) t = some (((e.2.2 s) >>> 32).setWidth 32, t) ∧
        t.mem = s.mem ∧ t.cores = s.cores ∧ t.vault = s.vault ∧ e.2.2 t = e.2.2 s) ∧
      (executes0 c s = true → mpuGrant (s.core c) 0 0 e.2.1 4 = false →
        exec (e.1 c) s = .next (raise c 0x03 1 (BitVec.ofNat 40 e.2.1) s)) ∧
      ((s.core c).running = false → exec (e.1 c) s = .next s)) ∧
    (mayAccess c 0 0x2300008 s = true → exec (.sbiDrops c) s = .next { s with side := { s.side with drops := 0 } })

open Sys2Proof Sys2Proof.Machine Sys2Proof.Claims in
/-- For every core in ring 0 that may write there: CONE_RESERVE takes CLUSTERS up to 19 with LANES up to 14, CONE_VLIMIT takes
LOW not above HIGH, and any other value leaves the register unchanged; nothing else changes. With no reserve (CLUSTERS = 0
and LANES = 0) in cone 2, eligibility for cone 2 needs that no lane or crucible job is ready, so the first one makes the
part leave it. CL_KEYLOAD with GO starts one load and a GO while one runs is ignored, and KEYLOAD_DONE puts the window words
into the slot with its saggar, zeroes the windows and sets DONE. BST_LINKCTL stores the pattern, and GO starts a check.
ENT_TESTCTL acts in Bisque alone: a new mode scrubs and starts the source test. TMP_CLASS sets each class that it may. (R97,
R257, R407, R459, R553) -/
def Obligations.RegisterWritesOutsideTheirRangeLeaveTheRegister : Prop :=
  ∀ (c : CoreId) (v : Word) (s : State),
    (mayAccess c 1 0x1900014 s = true → exec (.coneReserve c v) s = .next (
      if v.toNat / 256 % 32 ≤ 19 ∧ v.toNat % 16 ≤ 14 then
        { s with pwr := { s.pwr with clusters := BitVec.ofNat 5 (v.toNat / 256), lanes := BitVec.ofNat 4 v.toNat } }
      else s)) ∧
    (mayAccess c 1 0x190001C s = true → exec (.coneVlimit c v) s = .next (
      if v.toNat % 1024 ≤ v.toNat / 2 ^ 16 % 1024 then
        { s with pwr := { s.pwr with high := BitVec.ofNat 10 (v.toNat / 2 ^ 16), low := BitVec.ofNat 10 v.toNat } }
      else s)) ∧
    (s.pwr.clusters = 0 → s.pwr.lanes = 0 → eligible2 s = true → readyJobs s.lanes.queue s = 0 ∧ readyJobs s.arr.queue s = 0) ∧
    ((∀ n, c ≠ .crucible n) → mayAccess c 1 0x1300120 s = true → v.getLsbD 31 = true → exec (.clKeyload c v) s = .next (
      if s.lanes.loading = true then s
      else { s with lanes := { s.lanes with keyLoad := v &&& 0x0FFFF730, loadOf := v, done := false, loading := true } })) ∧
    (s.lanes.loading = true → s.lanes.loadOf.toNat / 16 % 4 < 3 → ∃ t, exec .keyloadDone s = .next t ∧
      t.lanes.keyWin = [] ∧ t.lanes.loading = false ∧ t.lanes.done = true ∧ t.mem = s.mem ∧ t.vault = s.vault ∧
      let k := mapGet ({} : KeySlot) (t.lane (s.lanes.loadOf.toNat / 2 ^ 12 % 16)).slots (s.lanes.loadOf.toNat / 2 ^ 8 % 8)
      k.valid = true ∧ k.saggar.toNat = s.lanes.loadOf.toNat / 2 ^ 16 % 2 ^ 12 ∧
        k.window = (List.range (if s.lanes.loadOf.toNat / 16 % 4 = 0 then 4 else 8)).flatMap fun i =>
          leBytes 4 (mapGet 0 s.lanes.keyWin i).toNat) ∧
    (mayAccess c 1 0x1A00044 s = true → exec (.bstLinkctl c v) s = .next { s with bst := (
      if v.getLsbD 31 = true then
        { s.bst with pattern := BitVec.ofNat 2 v.toNat, linkBusy := true, locked := false, linkDone := false, linkBits := 0, linkErr := 0 }
      else { s.bst with pattern := BitVec.ofNat 2 v.toNat }) }) ∧
    (mayAccess c 1 0x1C00030 s = true →
      (s.lcs.state ≠ 1 → exec (.entTestctl c v) s = .next s) ∧
      (s.lcs.state = 1 → v.toNat % 4 < 3 → v.toNat % 4 ≠ s.ent.mode.toNat → s.tasks = [] → s.ent.gen = [] → s.ent.parked = [] →
        ∃ t, exec (.entTestctl c v) s = .next t ∧ t.ent.mode.toNat = v.toNat % 4 ∧ t.ent.tested = false ∧ t.ent.inst = 0 ∧
          t.ent.pool = 0 ∧ (t.ent.state = 2 ∨ t.ent.state = 3) ∧ t.mem = s.mem ∧ t.vault = s.vault)) ∧
    (mayAccess c 1 0x2100010 s = true → ∃ t, exec (.tmpClass c v) s = .next t ∧ t.mem = s.mem ∧ t.bk.lock = s.bk.lock ∧ ∀ d, d < 14 →
      let x := v.toNat / 4 ^ d % 4
      t.bk.cls d = if x = 3 ∨ (s.classFree = false ∧ x < s.bk.cls d) then s.bk.cls d else x)

open Sys2Proof Sys2Proof.Machine Sys2Proof.Claims in
/-- For every core in ring 0 that may write there: a write of CRU_RAWCMD (OP 0 to 4) on a crucible below 160 queues one
operation with the selectors of CRU_RAWSEL, and with 64 queued sets OVERFLOW. FLC_CMD starts the program of the buffer at
FLC_ADDR, or the erase of its sector, where nothing of that kind is in progress and the checks of R433 pass, and sets ERR
where one is. A read of the window with no erase in progress changes nothing but the use of a free value (areas whose layout
no chapter states, log entry 1), and with one in its bank suspends it. A register write of a core answers the state its
block's write gives. (R289, R433, R435, R436, 09_crucible_array.md, 15_flash.md) -/
def Obligations.RawCommandsFlashCommandsAndRegisterWritesTakeEffect : Prop :=
  ∀ (c : CoreId) (v : Word) (w : BitVec 1) (n : BitVec 8) (off : BitVec 25) (a : Addr) (s t : State),
    let x := s.crucible n.toNat
    let rows : List ((CoreId → BitVec 8 → BitVec 1 → Instr) × BitVec 3) :=
      [(.rawcmdWmulacc, 0), (.rawcmdWsqracc, 1), (.rawcmdWload, 2), (.rawcmdWstore, 3), (.rawcmdEnd, 4)]
    (∀ e ∈ rows, n.toNat < 160 → mayAccess c 1 (0x1410064 + 0x100 * n.toNat) s = true →
      let o : RawOp := ⟨e.2, w.getLsbD 0, BitVec.ofNat 16 (x.rawSel.toNat / 2 ^ 16), BitVec.ofNat 16 x.rawSel.toNat⟩
      exec (e.1 c n w) s = .next (s.setCrucible n.toNat (
        if x.rawQueue.length < 64 then { x with rawQueue := x.rawQueue ++ [o] } else { x with overflow := true }))) ∧
    (mayAccess c 1 0x2000004 s = true → let p := s.flash.addr.toNat * 256
      let prog : FlashOp := { addr := p, bytes := (List.range 64).flatMap fun i => leBytes 4 (mapGet 0 s.flash.buf i).toNat, byReg := true }
      let erase1 : FlashOp := { erase := true, addr := p / 4096 * 4096, byReg := true }
      (s.flash.prog = none → flashCheck prog s = none → exec (.flcProgram c) s = .next { s with flash := { s.flash with prog := some prog } }) ∧
      (s.flash.era = none → flashCheck erase1 s = none → exec (.flcErase c) s = .next { s with flash := { s.flash with era := some erase1 } }) ∧
      (s.flash.prog.isSome = true → exec (.flcProgram c) s = .next { s with flash := { s.flash with err := true } }) ∧
      (s.flash.era.isSome = true → exec (.flcErase c) s = .next { s with flash := { s.flash with err := true } })) ∧
    (off.toNat % 4 = 0 → mayAccess c 0 (0x4000000 + off.toNat) s = true → s.flash.era = none →
      exec (.flashWindowRead c off) s = .next (if openArea off.toNat = true then s.used 1 else s)) ∧
    (a.toNat % 4 = 0 → mapTarget c 0 s.ddrTop a.toNat = .computeReg ∨ mapTarget c 0 s.ddrTop a.toNat = .vaultReg →
      mayAccess c 1 a.toNat s = true → coreRegWrite c 0 a.toNat v s = some t → exec (.registerWrite (.internal c a) v) s = .next t)

open Sys2Proof Sys2Proof.Machine Sys2Proof.Claims in
/-- For every queue pair that its function has selected, through the window of the physical function: words written to
HIF_SQ_BASE_LO, HIF_SQ_BASE_HI, HIF_CQ_BASE_LO, HIF_CQ_BASE_HI and HIF_QCFG change their register while STATE is DISABLED
and change nothing at all in any other state. A word written to HIF_QIRQ sets TIME, COUNT, IE and VECTOR in any state, and
changes neither the count of completions nor anything else, so that the next completion is the first to use it. (R213) -/
def Obligations.QueueRegistersAreWrittenOnlyWhileDisabled : Prop :=
  ∀ (q : BitVec 12) (v : Word) (s : State), reachable 0 s = true → selects 0 q s = true →
    let x := s.qp q.toNat
    let write (o : BitVec 32) : Host.Outcome State Fault Refusal := exec (.registerWrite (.host 0 false (0x40000 + o)) v) s
    (x.state ≠ 0 → ∀ o ∈ ([0x2008, 0x200C, 0x2010, 0x2014, 0x2018] : List (BitVec 32)), write o = .next s) ∧
    (x.state = 0 →
      write 0x2008 = .next (s.setQp q.toNat { x with sqBase := BitVec.ofNat 64 (x.sqBase.toNat / 2 ^ 32 * 2 ^ 32 + v.toNat / 4096 * 4096) }) ∧
      write 0x200C = .next (s.setQp q.toNat { x with sqBase := BitVec.ofNat 64 (v.toNat * 2 ^ 32 + x.sqBase.toNat % 2 ^ 32) }) ∧
      write 0x2010 = .next (s.setQp q.toNat { x with cqBase := BitVec.ofNat 64 (x.cqBase.toNat / 2 ^ 32 * 2 ^ 32 + v.toNat / 4096 * 4096) }) ∧
      write 0x2014 = .next (s.setQp q.toNat { x with cqBase := BitVec.ofNat 64 (v.toNat * 2 ^ 32 + x.cqBase.toNat % 2 ^ 32) }) ∧
      write 0x2018 = .next (s.setQp q.toNat { x with credits := BitVec.ofNat 12 (v.toNat / 2 ^ 16), size := BitVec.ofNat 4 v.toNat })) ∧
    write 0x201C = .next (s.setQp q.toNat { x with
      time := BitVec.ofNat 10 (v.toNat / 2 ^ 16), count := BitVec.ofNat 8 (v.toNat / 2 ^ 8), ie := v.getLsbD 5, vector := BitVec.ofNat 5 v.toNat })

namespace Sys2Proof.Claims

open Sys2Proof.Machine

/-- Nothing waits for a job to end: no unit leaves its role, no cluster joins the raw group, no traffic key goes. -/
def settled (s : State) : Bool :=
  s.roles.all (fun e => decide (e.2 ≠ .leaving)) && decide (s.arr.joining = 0) &&
    s.vault.keys.all fun e => !(e.2.destroying && e.2.traffic)

/-- The data descriptor `d` stands at the front of queue pair `q`, no fence holds it back, and checks 1 to 7 of R179
pass for session `ses`. -/
def chunkFront (q slot : BitVec 12) (d : DataDesc) (ses : Nat) (s : State) : Bool :=
  decide ((s.qp q.toNat).fetched.head? = some (slot, .data d)) && s.accepting && (s.fn (s.qp q.toNat).owner.toNat).busMaster &&
    decide (d.flags &&& 0xFCFE = 0) && (!d.flags.getLsbD 0 || decide (queueTasks q.toNat s = 0)) && decide (d.reserved = 0) && s.lifeValid && decide (s.lcs.state = 1 ∨ s.lcs.state = 2) &&
    !s.msub.degraded && s.saggarLive d.saggar.toNat && decide ((s.saggar d.saggar.toNat).owner = (s.qp q.toNat).owner) &&
    decide (findSession (d.saggar.setWidth 12) d.session s = some ses) &&
    (decide ((s.session ses).key = 0) || (sessionKey (s.session ses) s).isSome) && !(s.session ses).frozen

/-- The key of a session, where it has one. -/
def chunkKey (x : Session) (s : State) : Option Key := if x.key = 0 then none else (sessionKey x s).map s.key

/-- Job `job` is a lane job that can start now, with nothing ahead of it. -/
def laneStarts (job : Nat) (s : State) : Bool :=
  let j := s.job job
  jobsRun s && s.lanes.queue.contains job && startable j s && laneOrder job j s && !messageGone j s && !keyGone j s && !rerunFirst j s

/-- Lane `n` runs job `job`, which belongs to task `tid`; its DMA may proceed. -/
def laneRuns (job n tid : Nat) (s : State) : Bool :=
  let j := s.job job
  decide (j.unit = some n) && decide (j.task = some tid) && j.onLane && j.live && jobsRun s && !dmaHeld tid s && !j.rerun

end Sys2Proof.Claims

open Sys2Proof Sys2Proof.Machine Sys2Proof.Claims in
/-- A data descriptor at the front of its queue pair that passes the checks of R179 and R237 enters its message: a live lane job
of its session and bytes waits for a lane, and the message in progress is it, or none after LAST; one that fails a check
completes with that status and makes no job. A lane job that can start and has a lane free runs there: busy with it, for its
saggar, one job more, out of the queue. A chunk whose lane stays busy has its context moved to the free lane. The end of a
chunk that is no verified decryption counts its bytes and, at LAST, its message, ends the job and the command, and writes
the output by DMA; a failed DMA ends it with no message counted. An internal job of a command ends with the job gone. (R217,
R218, R222, R231, R232, R233, R237, R239, R240, R243, 08_cipher_lanes.md) -/
def Obligations.LaneChunksAreAcceptedStartedMovedAndCompleted : Prop :=
  ∀ (q slot : BitVec 12) (d : DataDesc) (ses job n l m tid : Nat) (rest : List Nat) (s : State),
    let x := s.session ses
    let g := s.job job
    (chunkFront q slot d ses s = true →
      (∀ st, dataChecks q x (chunkKey x s) d = some (st, false) → exec (.dataDescriptor q d) s =
        .next (dataComplete (dataReq q slot d) st 0 0
          (releaseReservation (s.setQp q.toNat { s.qp q.toNat with fetched := (s.qp q.toNat).fetched.tail })))) ∧
      (dataChecks q x (chunkKey x s) d = none → ∃ t, exec (.dataDescriptor q d) s = .next t ∧
        (t.job s.jobIds).live = true ∧ (t.job s.jobIds).onLane = true ∧ (t.job s.jobIds).session = some ses ∧
        (t.job s.jobIds).bytes = d.aadLen.toNat + d.length.toNat ∧ t.lanes.queue = s.lanes.queue ++ [s.jobIds] ∧
        (t.session ses).cur = (if DataDescLast d then none else some (if DataDescFirst d then x.msgIds else x.cur.getD 0)) ∧
        (t.qp q.toNat).fetched = (s.qp q.toNat).fetched.tail ∧ t.mem = s.mem ∧ t.out = s.out)) ∧
    (laneStarts job s = true → chooseLane g s = some n → s.bst.running = [] → ∃ t, exec (.laneJobStart job) s = .next t ∧
      (t.lane n).busy = true ∧ (t.lane n).job = some job ∧ (t.lane n).saggar = g.saggar ∧ (t.lane n).actJobs = (s.lane n).actJobs + 1 ∧
      (t.job job).unit = some n ∧ t.lanes.queue = s.lanes.queue.erase job ∧
      ((s.lane n).saggar ≠ g.saggar → g.key = none → (t.lane n).slots = [])) ∧
    (jobMessage g s = some (ses, m) → (mapGet {} x.msgs m).lane = some l → (s.lane l).busy = true → s.lanes.queue.contains job = true →
      firstBelow 16 (laneFree .active s) = some n → ∃ t, exec (.contextMove job) s = .next t ∧
        (mapGet {} (t.session ses).msgs m).lane = some n ∧ (t.lane n).contexts.head? = some ses ∧ (t.lane l).busy = true ∧
        t.jobs = s.jobs ∧ t.mem = s.mem) ∧
    (laneRuns job n tid s = true → settled s = true → (s.task tid).note = m :: rest → (s.task tid).rq.route = .queue q slot →
      (s.task tid).desc = some d → handleIndex d.session = ses → (s.task tid).phase = 0 →
      let c := chunkIn x (mapGet {} x.msgs m) (match g.key with | some k => (s.key k).material | none => []) d
      (¬(isAead x.alg.toNat = true ∧ x.decrypt = true) → ∃ t, exec (.laneJobComplete job false) s = .next t ∧
        (t.session ses).bytes = x.bytes + BitVec.ofNat 64 g.bytes ∧
        (t.session ses).messages = (if DataDescLast d then x.messages + 1 else x.messages) ∧
        t.jobs = mapDel s.jobs job ∧ t.tasks = mapDel s.tasks tid ∧ (t.lane n).busy = false ∧ t.mem = s.mem ∧
        (chunkOut x d c ≠ [] → .dmaWrite (s.qp q.toNat).owner.toNat d.dstAddr (chunkOut x d c) ∈ t.out)) ∧
      (∃ t, exec (.laneJobComplete job true) s = .next t ∧ (t.session ses).messages = x.messages ∧ t.jobs = mapDel s.jobs job ∧
        t.tasks = mapDel s.tasks tid ∧ (t.lane n).busy = false)) ∧
    (laneRuns job n tid s = true → settled s = true → (s.task tid).desc = none → s.tasks = [] →
      ∃ t, exec (.laneJobComplete job false) s = .next t ∧ t.jobs = mapDel s.jobs job ∧ (t.lane n).busy = false ∧ t.mem = s.mem)

open Sys2Proof Sys2Proof.Machine Sys2Proof.Claims in
/-- When the lane job of the last chunk of an AEAD decryption ends with room to stage it: where the tag matches, nothing is
written yet, the text is staged with its destination and the release follows; where it does not, the message and all it
staged are gone, the command and job are over, and the message's bytes wait for their zeroing. RELEASE_COMPLETE of a message
whose spill lines were good writes every staged part to its destination and ends message, job and command. A granule that
was zeroed is free again. A lane fault on an idle active lane sets the FAULT bit of detectors 0 to 2, takes the lane out of
the active role, and marks it unqualified. KEY_LOAD_COMPLETE of a good line with hot-store room makes the key hot and every
job that waits for it ready. (R240, R241, R242, R244, R258, R259, R337, R417, 08_cipher_lanes.md) -/
def Obligations.PlaintextIsReleasedOnlyAfterTheTagMatches : Prop :=
  ∀ (q slot : BitVec 12) (d : DataDesc) (ses job n m tid a b e f fails : Nat) (rest : List Nat) (lane : BitVec 4) (det : BitVec 2) (micros : BitVec 16) (s : State),
    let x := s.session ses
    let g := mapGet ({} : Msg) x.msgs m
    let j := s.job job
    (laneRuns job n tid s = true → settled s = true → (s.task tid).note = m :: rest → (s.task tid).rq.route = .queue q slot →
      (s.task tid).desc = some d → handleIndex d.session = ses → (s.task tid).phase = 0 → DataDescLast d = true → isAead x.alg.toNat = true →
      x.decrypt = true → stagePlan x.saggar.toNat (g.dieBytes + g.spillBytes) d.length.toNat g s = some (a, b, e, f) →
      let c := chunkIn x g (match j.key with | some k => (s.key k).material | none => []) d
      if chunkFinal x d c = c.rest then ∃ t, exec (.laneJobComplete job false) s = .next t ∧ t.out = s.out ∧ (t.task tid).phase = 1 ∧
        (mapGet {} (t.session ses).msgs m).staged = g.staged ++ [(d.dstAddr, chunkText x c)] ∧ t.jobs = s.jobs
      else ∃ t, exec (.laneJobComplete job false) s = .next t ∧ mapGet {} (t.session ses).msgs m = ({} : Msg) ∧ t.jobs = mapDel s.jobs job ∧
        t.tasks = mapDel s.tasks tid ∧ t.lanes.dieDirty = s.lanes.dieDirty + g.dieGran ∧ t.lanes.spillDirty = s.lanes.spillDirty + g.spillGran) ∧
    (laneRuns job n tid s = true → settled s = true → (s.task tid).note = m :: rest → (s.task tid).rq.route = .queue q slot →
      (s.task tid).desc = some d → handleIndex d.session = ses → (s.task tid).phase = 1 → fails < 2 →
      ∃ t, exec (.releaseComplete job fails) s = .next t ∧ mapGet {} (t.session ses).msgs m = ({} : Msg) ∧ t.jobs = mapDel s.jobs job ∧
        t.tasks = mapDel s.tasks tid ∧ ∀ w ∈ g.staged, w.2 ≠ [] → .dmaWrite (s.qp q.toNat).owner.toNat w.1 w.2 ∈ t.out) ∧
    (s.lanes.dieDirty ≠ 0 → exec (.granuleZeroed false) s = .next { s with lanes := { s.lanes with
      dieDirty := s.lanes.dieDirty - 1, dieFree := s.lanes.dieFree + 1 } }) ∧
    (s.lanes.spillDirty ≠ 0 → exec (.granuleZeroed true) s = .next { s with lanes := { s.lanes with
      spillDirty := s.lanes.spillDirty - 1, spillFree := s.lanes.spillFree + 1 } }) ∧
    (jobsRun s = true → s.role lane.toNat = .active → (s.lane lane.toNat).job = none → s.bst.running = [] → settled s = true →
      ∃ t, exec (.laneFaultDetected lane det micros) s = .next t ∧ t.role lane.toNat = .spare ∧ t.bst.unqualLane.getLsbD lane.toNat = true ∧
        (t.lane lane.toNat).fault.getLsbD det.toNat = ((s.lane lane.toNat).fault.getLsbD det.toNat || decide (det ≠ 3)) ∧
        (t.lane lane.toNat).slots = [] ∧ t.mem = s.mem) ∧
    (∀ k, j.live = true → j.keyWait = true → j.key = some k → jobsRun s = true → (s.key k).hot = false → s.hotBusy + (s.key k).slots ≤ 65536 →
      (makeHotRoom (s.key k).saggar.toNat (s.key k).slots (s.vault.keys.length + 1) s) = s →
      ∃ t, exec (.keyLoadComplete job .good) s = .next t ∧ (t.key k).hot = true ∧ t.mem = s.mem ∧ t.out = s.out ∧
        ∀ i, (s.job i).key = some k → (s.job i).live = true → (t.job i).keyWait = false ∧ (t.job i).live = true)

namespace Sys2Proof.Claims

open Sys2Proof.Machine

/-- No byte of crucible `n`'s operand memory is listed: each reads as 0. -/
def bankClear (n : Nat) (s : State) : Bool :=
  s.mem.all fun e => decide (e.1 < 0x30000000 + n * 0x10000) || decide (0x30000000 + (n + 1) * 0x10000 ≤ e.1)

end Sys2Proof.Claims

open Sys2Proof Sys2Proof.Machine Sys2Proof.Claims in
/-- The first job that can start takes the free crucible chosen for it: busy, for its saggar, one operation more. At its end the
crucible is idle, its sealed marks and every byte of its operand memory gone, its cycles counted, and the job is over. A
fault on a first execution sets the FAULT bit of detectors 0 to 2 and queues the job as a rerun ahead of the others, with
the crucible idle. A good raw operation leaves its queue and has its effect (END: wipe but the retained slots, and one unit
counted); a bad one is discarded with all behind it and sets BADOP. A raw fault ends the crucible's part in its lease with
FAULT set and its queue empty; a lease at its limit is gone, and each of its crucibles has EXPIRED set, no lease and an
empty queue. (R20, R249, R272, R281, R282, R283, R285, R289, R290, R291, R292, 09_crucible_array.md) -/
def Obligations.CrucibleJobsStartEndAndRerunAndAreWiped : Prop :=
  ∀ (n : BitVec 8) (det : BitVec 2) (attempts ran id i : Nat) (micros : BitVec 16) (o : RawOp) (rest : List RawOp) (s : State),
    let x := s.crucible n.toNat
    let j := s.job id
    (jobsRun s = true → nextCrucibleJob s = some id → sealedGone j s = false → chooseCrucible j.rerun s = some n.toNat →
      s.bst.running = [] → ∃ t, exec .crucibleJobStart s = .next t ∧ (t.crucible n.toNat).busy = true ∧
        (t.crucible n.toNat).job = some id ∧ (t.crucible n.toNat).saggar = j.saggar ∧ (t.crucible n.toNat).actOps = x.actOps + 1 ∧
        (t.job id).unit = some n.toNat ∧ t.arr.queue = s.arr.queue.erase id ∧ t.mem = s.mem ∧
        (∀ k, j.key = some k → j.rerun = false → (t.key k).uses = (s.key k).uses + 1)) ∧
    (x.job = some id → jobsRun s = true → j.task = none → j.rerun = false → settled s = true →
      ∃ t, exec (.crucibleJobComplete n attempts) s = .next t ∧ (t.crucible n.toNat).busy = false ∧ (t.crucible n.toNat).job = none ∧
        (t.crucible n.toNat).sealed = 0 ∧ t.jobs = mapDel s.jobs id ∧ (t.crucible n.toNat).actCyc =
          x.actCyc + BitVec.ofNat 64 (opCycles j.alg.toNat j.type j.w (max 1 attempts)) ∧
        bankClear n.toNat t = true) ∧
    (x.job = some id → jobsRun s = true → n.toNat < 160 → j.rerun = false → j.live = true → s.role (1000 + n.toNat) = .active → settled s = true → s.bst.running = [] →
      lowestSpare .crucible s = none →
      ∃ t, exec (.crucibleFaultDetected n det ran micros) s = .next t ∧ (t.crucible n.toNat).busy = false ∧
        (t.job id).rerun = true ∧ (t.job id).unit = none ∧ (t.job id).live = true ∧ t.role (1000 + n.toNat) = .spare ∧
        (t.crucible n.toNat).fault.getLsbD det.toNat = (x.fault.getLsbD det.toNat || decide (det ≠ 3)) ∧
        (j.onLane = false → t.arr.queue = id :: s.arr.queue)) ∧
    (x.rawQueue = o :: rest → x.lease.isSome = true → jobsRun s = true →
      (rawBad x o = true → exec (.rawOperation n) s = .next (s.setCrucible n.toNat { x with rawQueue := [], badOp := true })) ∧
      (rawBad x o = false → ∃ t, exec (.rawOperation n) s = .next t ∧ (t.crucible n.toNat).rawQueue = rest ∧
        (t.crucible n.toNat).badOp = x.badOp ∧ t.vault = s.vault ∧
        (o.op = 4 → (t.crucible n.toNat).actRaw = x.actRaw + 1 ∧ (t.crucible n.toNat).sealed = 0) ∧
        (o.op ≠ 4 → o.op ≠ 3 → t.mem = s.mem ∧ (t.crucible n.toNat).actRaw = x.actRaw))) ∧
    (x.lease = some i → jobsRun s = true → settled s = true → s.bst.running = [] → firstBelow 160 (fun m => decide (m ≠ n.toNat) && poolFree s m) = none →
      s.role (1000 + n.toNat) = .active → lowestSpare .crucible s = none →
      ∃ t, exec (.rawFault n) s = .next t ∧ (t.crucible n.toNat).rawFault = true ∧ (t.crucible n.toNat).rawQueue = [] ∧
        (t.crucible n.toNat).lease = none ∧ t.role (1000 + n.toNat) = .spare) ∧
    ((s.lease i).live = true → settled s = true → ∃ t, exec (.leaseLimitExpiry i) s = .next t ∧ (t.lease i).live = false ∧
      ∀ c ∈ (s.lease i).crucibles, (t.crucible c).expired = true ∧ (t.crucible c).lease = none ∧ (t.crucible c).rawQueue = [])

open Sys2Proof Sys2Proof.Machine Sys2Proof.Claims in
/-- Accepted and permitted: HS_SERVER_BEGIN of a ClientHello whose suite, scheme, group and key share the server can use stays
in progress for its draw, the operations of the group and its signature; one that cannot be read or used ends with REJECT
and the alert. HS_CLIENT_BEGIN draws for its hello and group; when the draw and operations are done, a live handshake in
state 3 holds the hello sent, where the response fits. HS_SERVER_CONTINUE with no new bytes leaves a client handshake that
waits for the server in its state and reports it; with KeyUpdate messages on a complete connection it stays in progress for
the derivation of each generation. HS_ABORT with no job in flight leaves the handle absent and its sessions gone; an
incomplete handshake that no command works on is destroyed by its expiry. (R194, R297, R299, R301, R304, R305, R307, R309,
R311, R313, R323, 10_handshake_service.md) -/
def Obligations.HandshakesBeginContinueAndEnd : Prop :=
  ∀ (rq : Req) (c i n su sch g : Nat) (sh : List Byte) (h : Hello) (e : TlsFail) (t : Task) (hs : BitVec 24) (s : State),
    (accepted specHsServerBegin rq s = true → let u := taken specHsServerBegin rq s
      let k := u.key c
      rq.payload.length = 16 + rq.field 12 4 → findKey rq (Req64 rq 0) false u = some c → maskOk 3 (BitVec.ofNat 16 (rq.field 8 2)) = true →
      maskOk 8 (BitVec.ofNat 16 (rq.field 10 2)) = true → (rq.flags.getLsbD 9 = true → rq.flags.getLsbD 8 = true) →
      credentialOk k true = true → k.retired = false → shakeRoom (rqSag rq) u = true →
      (readClientHello (rq.payload.drop 16) = .error e →
        exec (.hsServerBegin rq) s = .next (respond 0x0600 rq e.status e.detail [] (dropReservation rq u))) ∧
      (readClientHello (rq.payload.drop 16) = .ok h →
        serverSelect (BitVec.ofNat 16 (rq.field 8 2)) (BitVec.ofNat 16 (rq.field 10 2)) k h = .ok (su, sch, g, some sh) → drawStatus u = none →
        exec (.hsServerBegin rq) s = inProgress specHsServerBegin rq { rq, note := [keyRange, c], store := k.material, work := .draw (32 + groupDraw true g + schemeDraw sch) :: (serverOps g ++ [signWork k c]) } u)) ∧
    (accepted specHsClientBegin rq s = true → let u := taken specHsClientBegin rq s
      let groups := BitVec.ofNat 16 (rq.field 10 2)
      rq.payload.length = 16 + rq.field 12 2 → Req64 rq 0 = 0 → maskOk 3 (BitVec.ofNat 16 (rq.field 8 2)) = true → maskOk 8 groups = true →
      rq.field 12 2 ≤ 255 → rq.field 14 2 = 0 → shakeRoom (rqSag rq) u = true → drawStatus u = none →
      lowestBit groups (fun _ => true) = some g → exec (.hsClientBegin rq) s = inProgress specHsClientBegin rq
        { rq, note := [keyRange], work := .draw (64 + groupDraw false g + retryReserve groups g) :: clientShareOps g } u) ∧
    (s.vault.shakes = [] → s.vault.hsGens = [] → t.rq = rq → let groups := BitVec.ofNat 16 (rq.field 10 2)
      let x : Handshake := { saggar := rq.saggar.setWidth 12, cred := Req64 rq 0, suites := BitVec.ofNat 16 (rq.field 8 2), groups, group := (lowestBit groups fun _ => true).getD 0, random := t.drawn, name := rq.payload.drop 16, state := 3 }
      if respFits rq (16 + (helloOut 1 x).length) = none then ∃ j u,
        finishHsClientBegin t s = .done stOk 0 (beginResponse j 3 (helloOut 1 x) u) u ∧ u.shake j = { x with live := true, script := helloOut 1 x }
      else ∃ st, finishHsClientBegin t s = .done st 0 [] s) ∧
    (accepted specHsServerContinue rq s = true → let u := taken specHsServerContinue rq s
      let x := u.shake i
      rq.payload.length = 16 + rq.field 8 4 → findShake (rq.saggar.setWidth 12) (Req64 rq 0) u = some i → rq.field 12 4 = 0 →
      (rq.payload.length = 16 → x.state = 3 → x.flight = [] → respFits rq 24 = none → exec (.hsServerContinue rq) s =
        okWith specHsServerContinue rq (continueResponse 0 0 3 []) (u.setShake i x)) ∧
      (x.state = 0x100 → u.bk.lock = 0 → postMessages x (rq.payload.drop 16) = .ok (n, false) → n ≠ 0 → updateBlocked x x.recvSes u = none →
        respFits rq 24 = none → exec (.hsServerContinue rq) s = inProgress specHsServerContinue rq
          { rq, note := [i, n, 0], work := (List.range n).flatMap fun _ => generationWork x.suite } u)) ∧
    (accepted specHsAbort rq s = true → let u := taken specHsAbort rq s
      findShake (rq.saggar.setWidth 12) (Req64 rq 0) u = some i → u.jobs = [] → completes (exec (.hsAbort rq) s) specHsAbort rq (· = [])
        fun v => (v.shake i).live = false ∧ ∀ j ∈ connSessions i u, (v.session j).live = false) ∧
    ((s.shake hs.toNat).live = true → (s.shake hs.toNat).state ≠ 0x100 → s.tasks = [] → ∃ u, exec (.handshakeExpiry hs) s = .next u ∧
      (u.shake hs.toNat).live = false ∧ u.mem = s.mem)

open Sys2Proof Sys2Proof.Machine Sys2Proof.Claims in
/-- For a complete connection whose send session has no message in progress: HS_KEY_UPDATE with an update prepared completes at
once with the prepared record, and the send session then starts its sequence anew with nothing prepared; without one it
stays in progress for the derivation of the next generation and the record's protection. When the send key of such a
connection is retired, KEYUPDATE_PREPARE starts the same work for it, once, with no response to anyone. HS_EXPORT_SECRET,
where the saggar's policy permits it, stays in progress for its three hash jobs and then returns a secret of the length
asked for, and changes nothing. (R194, R316, R318, R319, R321, R322, 10_handshake_service.md) -/
def Obligations.KeyUpdatesAndExportedSecretsFollowTheirConnection : Prop :=
  ∀ (rq : Req) (i ses k : Nat) (r : List Byte) (t : Task) (hs : BitVec 24) (s : State),
    (accepted specHsKeyUpdate rq s = true → let u := taken specHsKeyUpdate rq s
      let x := u.shake i
      findSession (rq.saggar.setWidth 12) (Req64 rq 0) u = some ses → (u.session ses).conn = some i → handleIndex x.sendSes = ses →
      shakeStands i u = true → (u.session ses).decrypt = false → rq.field 9 7 = 0 → respFits rq 35 = none → updateBlocked x x.sendSes u = none →
      (x.prepared = some (r, k) → u.jobs = [] → completes (exec (.hsKeyUpdate rq) s) specHsKeyUpdate rq
        (· = leBytes 4 r.length ++ leBytes 4 0 ++ r) fun v => (v.session ses).high = none ∧ (v.shake i).prepared = none ∧ (v.session ses).live = (u.session ses).live) ∧
      (x.prepared = none → rq.field 8 1 ≤ 1 → preparing i u = [] → exec (.hsKeyUpdate rq) s = inProgress specHsKeyUpdate rq
        { rq, note := [i, 1], work := generationWork x.suite ++ [recordWork x.suite (connKey x.sendSes u)] } u)) ∧
    (let x := s.shake hs.toNat;
      shakeStands hs.toNat s = true → x.state = 0x100 → x.prepared = none → x.oldKey = none → (s.key (connKey x.sendSes s)).retired = true →
      s.tasks = [] → ∃ v, exec (.keyupdatePrepare hs) s = .next v ∧ (v.task s.taskIds).opcode = 0x8002 ∧ (v.task s.taskIds).note = [hs.toNat] ∧
        (v.task s.taskIds).silent = true ∧ (v.task s.taskIds).work = generationWork x.suite ++ [recordWork x.suite (connKey x.sendSes s)] ∧
        v.mem = s.mem) ∧
    (accepted specHsExportSecret rq s = true → let u := taken specHsExportSecret rq s
      let x := u.shake i
      let h := suiteHash x.suite
      rq.payload.length = 16 + rq.field 8 2 + rq.field 10 2 → exportConn rq u = some (some i) → 1 ≤ rq.field 8 2 → rq.field 8 2 ≤ 255 →
      rq.field 10 2 ≤ 1024 → 1 ≤ rq.field 12 2 → rq.field 12 2 ≤ 64 → rq.field 14 2 = 0 → respFits rq (rq.field 12 2) = none →
      x.state = 0x100 → (u.saggar (rqSag rq)).policy.getLsbD 1 = true → exec (.hsExportSecret rq) s = inProgress specHsExportSecret rq
        { rq, note := [i], work := [.hash (if h = 48 then 9 else 8) (rq.field 10 2) none, .hash (BitVec.ofNat 16 (suiteKdf x.suite)) (11 + rq.field 8 2 + h) none,
                   .hash (BitVec.ofNat 16 (suiteKdf x.suite)) (19 + h) none] } u) ∧
    (t.note = [i] → shakeStands i s = true → ∃ p, finishHsExportSecret t s = .done stOk 0 p s ∧ p.length = t.rq.field 12 2)

open Sys2Proof Sys2Proof.Machine Sys2Proof.Claims in
/-- SPAN_CLOSE of an open span, with no lease live, appends one record of kind 0 for each saggar of the span and one each of
kinds 1, 2 and 3 (and broken-seal pairs, kinds 5 and 6), starts the next span at the minute it comes to, and starts its
charges, overhead and engine counts from nothing. TAL_READ returns the oldest readable records with BROKEN_SEAL where one of
them is broken, OK else; TAL_ACK of a number at or below the acknowledged one releases 0, of one beyond the highest returned
completes with NOT_PERMITTED, of any other releases every record up to it. TAL_GET_SEAL reports the check and the count of
broken-seal records. The records become readable when no signature job is left; the acknowledgement state enters the
journal; each millisecond tick charges every saggar with the bytes of its granules. (R201, R363, R370, R371, R372, R376,
R378, R380, 12_tallies.md) -/
def Obligations.TalliesCloseReportAndReleaseTheirRecords : Prop :=
  ∀ (rq : Req) (a : BitVec 64) (s : State),
    (s.tal.isOpen = true → s.vault.leases = [] → ∃ t, exec .spanClose s = .next t ∧ t.tal.isOpen = true ∧ t.tal.first = t.minute ∧
      t.tal.saggars = [] ∧ t.tal.overhead = {} ∧ t.tal.engine = {} ∧ t.tal.before = s.tal.inflight ∧ t.mem = s.mem ∧
      ∃ new, t.tal.records = s.tal.records ++ new ∧ t.tal.unreadable = s.tal.unreadable + new.length ∧
        (new.filter fun r => decide (r.kind.toNat ≤ 3)).map (·.kind.toNat) = (spanIds s).map (fun _ => 0) ++ [1, 2, 3]) ∧
    (accepted specTalRead rq s = true → let u := taken specTalRead rq s
      let rs := (readable u).take (rq.field 0 2)
      1 ≤ rq.field 0 2 → rq.field 0 2 ≤ (match rq.route with | .queue _ _ => 255 | _ => 7) → rq.field 2 2 = 0 → respFits rq (8 + 256 * rs.length) = none →
      ∃ v, exec (.talRead rq) s = .next (respond 0x0700 rq (if rs.any TallyRecord.broken then stBrokenSeal else stOk) 0
          (leBytes 2 rs.length ++ leBytes 6 0 ++ rs.flatMap recordBytes) (dropReservation rq v)) ∧
        v.tal.records = u.tal.records ∧ v.tal.acked = u.tal.acked ∧ v.mem = u.mem ∧
        (u.tal.returned = none → v.tal.returned = rs.getLast?.map (·.seq))) ∧
    (accepted specTalAck rq s = true → let u := taken specTalAck rq s
      let n := rq.field 0 8
      respFits rq 8 = none →
      (notAcked u.tal.acked n = false → exec (.talAck rq) s = okWith specTalAck rq (leBytes 8 0) u) ∧
      (notAcked u.tal.acked n = true → (u.tal.returned = none ∨ ∃ r, u.tal.returned = some r ∧ r.toNat < n) →
        exec (.talAck rq) s = fails specTalAck rq stNotPermitted u) ∧
      (notAcked u.tal.acked n = true → u.tal.returned = some a → n ≤ a.toNat → let keep := u.tal.records.filter fun r => decide (n < r.seq.toNat)
        completes (exec (.talAck rq) s) specTalAck rq (· = leBytes 8 (u.tal.records.length - keep.length)) fun v =>
          v.tal.records = keep ∧ v.tal.acked = some (BitVec.ofNat 64 n) ∧ v.tal.ackDue = true ∧ v.tal.next = u.tal.next)) ∧
    (accepted specTalGetSeal rq s = true → let u := taken specTalGetSeal rq s
      exec (.talGetSeal rq) s = .next (respond 0x0702 rq (if u.brokenSeals = 0 then stOk else stBrokenSeal) 0
        (leBytes 8 u.tal.checkMinute.toNat ++ [if u.tal.checkBroken then 1 else 0] ++ leBytes 7 0 ++ leBytes 4 u.brokenSeals ++ leBytes 4 0)
        (dropReservation rq u))) ∧
    (s.jobs = [] → s.tal.unreadable ≠ 0 → ∃ t, exec .recordsReadable s = .next t ∧ t.tal.unreadable = 0 ∧ t.tal.records = s.tal.records ∧
      readable t = s.tal.records) ∧
    (s.tal.ackDue = true → ∃ t, exec .ackStateJournal s = .next t ∧ t.tal.ackJournal = s.tal.acked ∧ t.tal.ackDue = false ∧
      t.tal.records = s.tal.records ∧ ∀ j ∈ s.tal.journal, notAcked s.tal.acked j.last.toNat = true → j ∈ t.tal.journal) ∧
    (∃ t, exec .byteSecondTick s = .next t ∧ t.mem = s.mem ∧ t.tal.records = s.tal.records ∧ ∀ h, h < 4096 →
      (mapGet {} t.tal.saggars h).byteMs = (mapGet {} s.tal.saggars h).byteMs +
        ((4096 * mapGet 0 s.lanes.facet h + 65536 * mapGet 0 s.lanes.spill h : Nat) : Int))

open Sys2Proof Sys2Proof.Machine Sys2Proof.Claims in
/-- With no request parked or in generation: a start-up test that leaves fewer than four pairs in use puts the source in state
3, and passes otherwise; a block of each pair in use enters the pool, 64 at most, where every instance is instantiated, and
is buffered, 128 at most, while the link is down; a health failure of a pair in use excludes it, records its test, counts
it, and drops every instance and the pool. A request that may start on an idle instance enters generation and its bytes
count as drawn; when an ENT_GET_BYTES has its bytes it completes and ENT_HOST counts them. Accepted: ENT_GET_BYTES of 1 to
65,536 bytes stays in progress for its draw, ENT_RESEED in service (outside Bisque) completes at once with its input due for
every instance, ENT_STATUS reports the state and changes nothing. (R389, R390, R391, R392, R393, R394, R396, R398, R399,
R400, R401, R402) -/
def Obligations.EntropyIsTestedPooledDrawnAndWithheld : Prop :=
  ∀ (rq : Req) (failing : BitVec 8) (pair : BitVec 3) (test : HealthTest) (inst : BitVec 6) (i k : Nat) (r : DrawReq) (cur : FMap Int) (s : State),
    let e := s.ent
    (e.state = 0 ∨ e.state = 2 → e.tested = false → e.parked = [] → s.vault.seedDue = false →
      let n : State := { s with ent := { e with failed := e.failed ||| failing } }
      ∃ t, exec (.startupTestComplete failing) s = .next t ∧ t.ent.failed = e.failed ||| failing ∧ t.mem = s.mem ∧
        (if n.pairsInUse < 4 then t.ent.state = 3 else t.ent.state = e.state ∧ t.ent.tested = true)) ∧
    (e.state = 1 → s.fabric.linkUp = true → s.tasks = [] → e.parked = [] → e.inst = 64 → ∃ t, exec .sourceBlock s = .next t ∧
      t.ent.pool = (if s.pairsInUse = 0 then e.pool else min 64 (e.pool + s.pairsInUse)) ∧ t.ent.inst = 64 ∧ t.mem = s.mem) ∧
    (e.state = 1 → s.fabric.linkUp = false → exec .sourceBlock s = .next { s with ent := { e with buffered := min 128 (e.buffered + s.pairsInUse) } }) ∧
    (e.state = 1 → e.failed.getLsbD pair.toNat = false → s.tasks = [] → e.gen = [] → e.parked = [] →
      ∃ t, exec (.healthFailure pair test) s = .next t ∧ t.ent.failed.getLsbD pair.toNat = true ∧ t.ent.pair = pair ∧ t.ent.fails = e.fails + 1 ∧
        t.ent.tests.getLsbD (match test with | .repetition => 0 | .proportion => 1 | .alive => 2 | .lock => 3) = true ∧
        t.ent.inst = 0 ∧ t.ent.pool = 0 ∧ t.ent.tested = false ∧ (t.ent.state = 2 ∨ t.ent.state = 3) ∧ t.mem = s.mem) ∧
    (idleInstance s = some i → chooseDraw s = some (r, cur) → mapGet 0 e.counter i < 2 ^ 20 → ∃ t, exec .drbgRequestStart s = .next t ∧
      (i, r) ∈ t.ent.gen ∧ t.ent.parked = e.parked.erase r ∧ t.ent.out = e.out + BitVec.ofNat 64 r.bytes ∧
      mapGet 0 t.ent.counter i = mapGet 0 e.counter i + 1 ∧ t.mem = s.mem) ∧
    (e.gen.find? (fun x => decide (x.1 = inst.toNat)) = some (inst.toNat, r) → r.task = some k → s.hasTask k = true → s.bk.lock = 0 →
      (s.task k).opcode = 0x0800 → (s.task k).rq.route = .mailbox 0 → (s.task k).work = [.draw r.bytes] → (s.task k).drawn = [] →
      (s.task k).fate = none → e.parked = [] → ∃ t, exec (.drbgGenerateComplete inst) s = .next t ∧ t.hasTask k = false ∧
        t.ent.host = e.host + BitVec.ofNat 64 r.bytes ∧ t.ent.gen = mapDel e.gen inst.toNat ∧ t.mem = s.mem) ∧
    (accepted specEntGetBytes rq s = true → let u := taken specEntGetBytes rq s
      1 ≤ rq.field 0 4 → rq.field 0 4 ≤ 65536 → respFits rq (rq.field 0 4) = none → drawStatus u = none →
      exec (.entGetBytes rq) s = inProgress specEntGetBytes rq { rq, work := [.draw (rq.field 0 4)] } u) ∧
    (accepted specEntReseed rq s = true → let u := taken specEntReseed rq s
      rq.payload.length = 4 + rq.field 0 2 → rq.field 0 2 ≤ 256 → rq.field 2 2 = 0 → u.ent.state = 1 → u.lcs.state ≠ 1 →
      exec (.entReseed rq) s = okWith specEntReseed rq [] { u with ent := { u.ent with input := rq.payload.drop 4, addDue := BitVec.allOnes 64 } }) ∧
    (accepted specEntStatus rq s = true → let u := taken specEntStatus rq s
      completes (exec (.entStatus rq) s) specEntStatus rq
        (holds 16 [(0, 1, u.ent.state.toNat), (1, 1, u.ent.failed.toNat), (2, 1, u.ent.inst), (3, 1, 0), (4, 4, u.ent.fails.toNat), (8, 8, u.ent.host.toNat)])
        (becomes u fun v => v))

namespace Sys2Proof.Claims

open Sys2Proof.Machine

/-- The state with the protection group `g` changed to `x`. -/
def withGroup (g : Nat) (x : FlashGroup) (s : State) : State :=
  { s with flash := { s.flash with groups := mapSet {} s.flash.groups g x } }

end Sys2Proof.Claims

open Sys2Proof Sys2Proof.Machine Sys2Proof.Claims in
/-- Accepted: CFG_READ of a listed item returns its length and value, of a program page of the operator area its 256 bytes, of
any other class NOT_PERMITTED. CFG_WRITE of an unsigned item in range stores it and of one out of range, of an unlisted item
or with a signature changes nothing (NOT_PERMITTED); a signed item waits for its verification when sequence and length
agree, else AUTH_FAIL; a page or a sector of the operator area waits for its program or erase where the checks pass and else
completes with the check's status. FLS_PROTECT assigns, locks or unassigns, and completes with LOCKED on a locked group; the
right password opens a locked group and clears its failures, a wrong one counts, and the eighth brings the lockout and event
279; one hour ends the lockout. The functions that hash and verify are those of external standards (log entry 6). (R197,
R198, R199, R266, R433, R435, R443, 06_depepa_commands.md, 15_flash.md) -/
def Obligations.ConfigurationItemsAndProtectionGroupsChangeAsCommanded : Prop :=
  ∀ (rq : Req) (g : BitVec 6) (s : State),
    (accepted specCfgRead rq s = true → let u := taken specCfgRead rq s
      let item := rq.field 0 4
      (itemListed item = true → respFits rq (4 + (itemValue item u).length) = none →
        exec (.cfgRead rq) s = okWith specCfgRead rq (leBytes 4 (itemValue item u).length ++ itemValue item u) u) ∧
      (item / 2 ^ 28 = 0 → itemListed item = false → exec (.cfgRead rq) s = fails specCfgRead rq stNotPermitted u) ∧
      (item / 2 ^ 28 = 1 → item % 2 ^ 20 ≤ 60415 → u.flash.era = none →
        exec (.cfgRead rq) s = okWith specCfgRead rq (leBytes 4 256 ++ flashRead (operatorBase + 256 * (item % 2 ^ 20)) 256 u) u) ∧
      (2 ≤ item / 2 ^ 28 → exec (.cfgRead rq) s = fails specCfgRead rq stNotPermitted u)) ∧
    (accepted specCfgWrite rq s = true → rq.payload.length = 8 + rq.field 4 2 + rq.field 6 2 → let u := taken specCfgWrite rq s
      let item := rq.field 0 4
      let v := cfgValue rq
      (item ∈ [0x0150, 0x0920, 0x0B20, 0x0D00, 0x0E10, 0x0E20, 0x2100, 0x2101] → itemSigned item u = false → itemRange item v u = true → cfgSig rq = [] →
        exec (.cfgWrite rq) s = okWith specCfgWrite rq [] { u with flash := { u.flash with items := mapSet [] u.flash.items item v } }) ∧
      (item / 2 ^ 28 = 0 → itemListed item = false ∨ itemWritable item u = false ∨ itemRange item v u = false →
        exec (.cfgWrite rq) s = fails specCfgWrite rq stNotPermitted u) ∧
      (item / 2 ^ 28 = 0 → itemListed item = true → itemWritable item u = true → itemRange item v u = true →
        (itemSigned item u = false → cfgSig rq ≠ [] → exec (.cfgWrite rq) s = fails specCfgWrite rq stNotPermitted u) ∧
        (itemSigned item u = true → if u.item 0x0A00 = [] ∨ (cfgSig rq).length ≠ 100 ∨ leField (cfgSig rq) 0 4 ≠ u.flash.signSeq.toNat then
            exec (.cfgWrite rq) s = fails specCfgWrite rq stAuthFail u
          else exec (.cfgWrite rq) s = inProgress specCfgWrite rq { rq, work := [p384Work] } u)) ∧
      (item / 2 ^ 28 = 1 → item % 2 ^ 20 ≤ 60415 → v.length = 256 → cfgSig rq = [] → u.flash.prog = none → u.flash.era = none → u.flash.queue = [] →
        let a := operatorBase + 256 * (item % 2 ^ 20);
        match flashCheck { addr := a, bytes := v } { u with flash := { u.flash with erasePending := [] } } with
        | none => exec (.cfgWrite rq) s = inProgress specCfgWrite rq { rq, work := [.program a v] } u
        | some r => exec (.cfgWrite rq) s = if r = 2 ∧ u.flash.erasePending.contains (a / 4096) = true then
            inProgress specCfgWrite rq { rq, work := [.program a v] } u else fails specCfgWrite rq (flashStatus r) (flashRefused r u)) ∧
      (item / 2 ^ 28 = 2 → item % 2 ^ 20 ≤ 3775 → v = [] → cfgSig rq = [] → u.flash.prog = none → u.flash.era = none → u.flash.queue = [] →
        sectorWp (4160 + item % 2 ^ 20) u = false → groupLocked (4160 + item % 2 ^ 20) u = false →
        exec (.cfgWrite rq) s = inProgress specCfgWrite rq { rq, work := [.erase (4160 + item % 2 ^ 20)] } u) ∧
      (3 ≤ item / 2 ^ 28 → exec (.cfgWrite rq) s = fails specCfgWrite rq stNotPermitted u)) ∧
    (accepted specFlsProtect rq s = true → let u := taken specFlsProtect rq s
      let n := rq.field 0 1
      let x : FlashGroup := mapGet {} u.flash.groups n;
      n ≤ 63 → rq.rsvd 2 2 = true →
      (rq.field 1 1 = 0 → x.state ≠ 0 → exec (.flsProtect rq) s = okWith specFlsProtect rq [] (withGroup n { x with state := 2, table := x.table.map fun t => (t.1, t.2.1, 2) } u)) ∧
      (rq.field 1 1 = 0 → x.state = 0 → exec (.flsProtect rq) s = fails specFlsProtect rq stNotPermitted u) ∧
      (rq.field 1 1 = 1 → x.state = 2 → exec (.flsProtect rq) s = fails specFlsProtect rq stLocked u) ∧
      (rq.field 1 1 = 1 → x.state ≠ 2 → rq.field 6 2 = 0 →
        exec (.flsProtect rq) s = okWith specFlsProtect rq [] (withGroup n { fails := x.fails, lockout := x.lockout } u)) ∧
      (rq.field 1 1 = 1 → x.state ≠ 2 → rq.field 6 2 ≠ 0 →
        if rangeOk n (rq.field 4 2) (rq.field 6 2) u = true ∧ allZero (rq.bytes 8 16) = false then
          exec (.flsProtect rq) s = okWith specFlsProtect rq [] (withGroup n { x with
            first := BitVec.ofNat 12 (rq.field 4 2), count := BitVec.ofNat 12 (rq.field 6 2), hash := groupHash n (rq.bytes 8 16)
            state := if x.state = 3 then 3 else 1, table := none } u)
        else exec (.flsProtect rq) s = fails specFlsProtect rq stNotPermitted u)) ∧
    (accepted specFlsUnlockGroup rq s = true → let u := taken specFlsUnlockGroup rq s
      let n := rq.field 0 1
      let x : FlashGroup := mapGet {} u.flash.groups n;
      n ≤ 63 → rq.rsvd 1 3 = true →
      (x.state = 0 ∨ x.state = 1 ∨ x.lockout = true → exec (.flsUnlockGroup rq) s = fails specFlsUnlockGroup rq stNotPermitted u) ∧
      (x.state = 2 ∨ x.state = 3 → x.lockout = false → if groupHash n (rq.bytes 4 16) = x.hash then
          exec (.flsUnlockGroup rq) s = okWith specFlsUnlockGroup rq [] (withGroup n { x with state := 3, fails := 0 } u)
        else (x.fails < 7 → exec (.flsUnlockGroup rq) s =
            fails specFlsUnlockGroup rq stAuthFail (withGroup n { x with fails := x.fails + 1, lockout := false } u)) ∧
          (x.fails = 7 → exec (.flsUnlockGroup rq) s =
            fails specFlsUnlockGroup rq stAuthFail (raisePlain 279 (withGroup n { x with fails := 8, lockout := true } u))))) ∧
    (exec (.unlockLockoutExpiry g) s = .next (withGroup g.toNat { (mapGet ({} : FlashGroup) s.flash.groups g.toNat) with lockout := false } s))

open Sys2Proof Sys2Proof.Machine Sys2Proof.Claims in
/-- With nothing waiting behind it: a program that verifies leaves its page in place and one that does not retires the sector to
the next spare; an erase that verifies leaves its sector erased, counts the erase and the pulses, and retires the sector
above 48 pulses; a suspended erase does not end, and ERASE_RESUME ends the suspension; BACKGROUND_REERASE starts the erase
of an erase-pending sector. A channel with too many failed reads is failing and recorded and cancels the spill; drift above
15 per cent starts a retraining or queues it behind the one that runs; the last step counts it and starts the next. ZQ
calibration changes nothing. LOG_RECLAIM drops the sixteen oldest records that neither decide nor apply and frees their
sector. (R331, R422, R423, R424, R434, R436, R437, R438, R440, 15_flash.md) -/
def Obligations.FlashOperationsEndAndChannelsRetrain : Prop :=
  ∀ (v last : Bool) (pulses : BitVec 8) (sector : BitVec 13) (ch : BitVec 4) (drift : Nat) (o : FlashOp) (r : Retrain) (s : State),
    let f := s.flash
    (f.prog = some o → o.task = none → o.byReg = true → f.queue = [] → o.addr + 256 ≤ flashTop →
      (∃ t, exec (.programComplete true) s = .next t ∧ t.flash.prog = none ∧ t.flash.result = 0 ∧ t.flash.remap = f.remap ∧
        t.flash.mem = memWrite 0xFF f.mem (o.addr / 256 * 256) (padTo 256 o.bytes) ∧ t.mem = s.mem) ∧
      (0 < s.sparesFree → ∃ t, exec (.programComplete false) s = .next t ∧ t.flash.prog = none ∧ t.flash.result = 1 ∧
        physSector (o.addr / 4096) t = 7936 + f.used ∧ t.flash.used = f.used + 1 ∧ t.flash.retired = true ∧
        t.flash.mem = memWrite 0xFF f.mem (o.addr / 256 * 256) (padTo 256 o.bytes))) ∧
    (f.prog = none → exec (.programComplete v) s = .next s) ∧
    (f.era = some o → o.task = none → o.byReg = true → f.queue = [] → let sec := o.addr / 4096
      (f.suspended = true → exec (.eraseComplete pulses v) s = .next s) ∧
      (f.suspended = false → pulses.toNat ≤ 24 → mapGet 0 f.counts (physSector sec s) < 99999 → ∃ t, exec (.eraseComplete pulses true) s = .next t ∧
        t.flash.era = none ∧ t.flash.result = 0 ∧ t.flash.mem = memClear f.mem (sec * 4096) (sec * 4096 + 4096) ∧
        t.flash.lastPulses = pulses ∧ mapGet 0 t.flash.counts (physSector sec s) = mapGet 0 f.counts (physSector sec s) + 1 ∧ t.flash.remap = f.remap) ∧
      (f.suspended = false → 48 < pulses.toNat → pulses.toNat ≤ 60 → 0 < s.sparesFree → ∃ t, exec (.eraseComplete pulses true) s = .next t ∧
        t.flash.era = none ∧ t.flash.result = 1 ∧ physSector sec t = 7936 + f.used ∧ t.flash.warn = true)) ∧
    (exec .eraseResume s = .next { s with flash := { f with suspended := false } }) ∧
    (f.erasePending.contains sector.toNat = true → f.era = none → exec (.backgroundReerase sector) s =
      .next { s with flash := { f with era := some { erase := true, addr := sector.toNat * 4096 } } }) ∧
    (s.msub.trained.getLsbD ch.toNat = true →
      (s.msub.failing.getLsbD ch.toNat = false → ∃ t, exec (.channelFailing ch) s = .next t ∧ t.msub.failing.getLsbD ch.toNat = true ∧
        t.msub.recorded.getLsbD ch.toNat = true ∧ t.lanes.spillEn = false ∧ t.mem = s.mem) ∧
      (drift ≤ 15 → exec (.driftCheck ch drift) s = .next s) ∧
      (15 < drift → s.msub.retrain = none → ∃ t, exec (.driftCheck ch drift) s = .next t ∧ t.msub = { s.msub with retrain := some { channel := ch.toNat } }) ∧
      (15 < drift → s.msub.retrain ≠ none → ch.toNat ∉ s.msub.waiting → ∃ t, exec (.driftCheck ch drift) s = .next t ∧
        t.msub = { s.msub with waiting := s.msub.waiting ++ [ch.toNat] })) ∧
    (s.msub.retrain = some r → r.task = none →
      (exec (.retrainStep v false) s = .next { s with msub := { s.msub with retrain := some { r with failed := r.failed || !v } } }) ∧
      (mapGet 0 s.msub.retrains r.channel < 255 → ∃ t, exec (.retrainStep true true) s = .next t ∧
        mapGet 0 t.msub.retrains r.channel = mapGet 0 s.msub.retrains r.channel + 1 ∧ t.msub.waiting = s.msub.waiting.tail ∧
        (r.failed = false → t.msub.failSteps = s.msub.failSteps) ∧ t.msub.retrain = s.msub.waiting.head?.map fun c => { channel := c })) ∧
    (exec (.zqCalibration ch) s = .next s) ∧
    (s.vault.log.length = 16 → (∀ x ∈ s.vault.log, x.seed ≠ s.bk.seed) → ∃ t, exec .logReclaim s = .next t ∧ t.vault.log = [] ∧
      t.vault.logErased = 1024 ∧ t.vault.keys = s.vault.keys ∧ t.mem = s.mem)

namespace Sys2Proof.Claims

open Sys2Proof.Machine

/-- Crucible `n` runs the verification of task `k`, opened by the mailbox of the physical function with request `rq`. -/
def verifies (n : Nat) (k : Nat) (opcode : Word) (rq : Req) (note : List Nat) (s : State) : Prop :=
  ∃ id, (s.crucible n).job = some id ∧ (s.job id).task = some k ∧ s.hasTask k = true ∧ rq.route = .mailbox 0 ∧ jobsRun s = true ∧
    s.task k = { opcode := BitVec.ofNat 16 opcode.toNat, rq, work := [p384Work], note } ∧ s.bk.lock = 0

/-- What the transition keeps of how the fuses come out. -/
def fuseNote : FuseOutcome → List Nat
  | .burnt => [0]
  | .weak x y nx ny => [1, x.toNat, y.toNat, nx.toNat, ny.toNat]

/-- The 64 bits of a fuse group in their place among the 192. -/
def groupBits (g : Nat) : BitVec 192 := BitVec.ofNat 192 (fusePattern g * 2 ^ (64 * g))

end Sys2Proof.Claims

open Sys2Proof Sys2Proof.Machine Sys2Proof.Claims in
/-- LC_GET_STATE reports state, session and nonce and changes nothing. An LC_TRANSITION of a permitted move with a matching
authorisation waits for its verification, one of another move completes with NOT_PERMITTED; when the verification of one in
progress ends, a signature that fails leaves the fuses and a good one programs the fuses of the target, drops the backup
seed and the session from Fired on, and makes the part reset. A certificate that fits waits for its verification and one
that does not replaces the nonce; with a good signature inside its hours and cycles the session opens with the rights the
state permits. DBG_CLOSE, an hour tick beyond the last hour and DEBUG_SESSION_EXPIRY close it, an open Greenware session
stays. DEBUG_HALT_REQUEST takes a spare or, outside Fired, an active unit under right 2 and stops its core. A halted or
silent core restarts: a control core after the other pair took its role, a service core as an unqualified spare; any other
core is left alone. A mismatch resets the active pair's cores. (R159, R160, R168, R472, R475, R476, R477, R479, R481, R482,
R483, 17_lifecycle_debug.md) -/
def Obligations.LifeCycleMovesDebugSessionsAndRestartsFollowTheirConditions : Prop :=
  ∀ (rq : Req) (fuses : FuseOutcome) (cru unit : BitVec 8) (cls : UnitClass) (k : Nat) (c : CoreId) (p : Fin 2) (n : Fin 28) (b : Bool) (s : State),
    (accepted specLcGetState rq s = true → let u := taken specLcGetState rq s
      exec (.lcGetState rq) s = okWith specLcGetState rq
        ([u.lcs.state, if u.lcs.isOpen then 1 else 0] ++ leBytes 6 0 ++ leBytes 16 u.lcs.nonce.toNat) u) ∧
    (accepted specLcTransition rq s = true → rq.field 4 4 = 160 → rq.payload.length = 168 → rq.field 1 3 = 0 → let u := taken specLcTransition rq s
      let v := raisePlain 294 u
      let target := rq.field 0 1;
      (moveOk u.lcs.state.toNat target = false → exec (.lcTransition rq fuses) s = fails specLcTransition rq stNotPermitted (raisePlain 294 v)) ∧
      (moveOk u.lcs.state.toNat target = true → u.pwr.holdAbsent = false → u.tasks = [] →
        if authFields target (rq.bytes 8 160) v = true then exec (.lcTransition rq fuses) s = inProgress specLcTransition rq { rq, work := [p384Work], note := fuseNote fuses } v
        else exec (.lcTransition rq fuses) s = fails specLcTransition rq stAuthFail (raisePlain 294 (freshNonce v)))) ∧
    (verifies cru.toNat k 0x0A01 rq [0] s → let a := rq.bytes 8 160
      let target := rq.field 0 1
      if signedOk (signerKey (if leField a 3 1 = 0 then 102 else 103) (decide (leField a 3 1 = 1)) s) a then
        ∃ t, exec (.crucibleJobComplete cru 1) s = .next t ∧ t.hasTask k = false ∧ t.lcs.resetDue = true ∧ t.lcs.state = s.lcs.state ∧
          t.lcs.otpA = s.lcs.otpA ||| groupBits (target - 1) ∧ t.lcs.otpB = s.lcs.otpB ||| groupBits (target - 1) ∧
          (2 ≤ target → t.bk.seed = [] ∧ t.bk.saveKey = [] ∧ t.lcs.isOpen = false) ∧ (target ≤ 1 → t.bk = s.bk)
      else ∃ t, exec (.crucibleJobComplete cru 1) s = .next t ∧ t.hasTask k = false ∧ t.lcs.otpA = s.lcs.otpA ∧ t.lcs.otpB = s.lcs.otpB ∧
        t.lcs.resetDue = s.lcs.resetDue ∧ t.bk = s.bk) ∧
    (accepted specDbgPresentCert rq s = true → rq.field 0 4 = 160 → rq.payload.length = 168 → rq.field 4 4 = 0 → let u := taken specDbgPresentCert rq s
      (u.lcs.isOpen = true → exec (.dbgPresentCert rq) s = fails specDbgPresentCert rq stBusy (raisePlain 295 (freshNonce u))) ∧
      (u.lcs.isOpen = false → u.tasks = [] → if certFields (rq.bytes 8 160) u = true then
          exec (.dbgPresentCert rq) s = inProgress specDbgPresentCert rq { rq, work := [p384Work] } u
        else exec (.dbgPresentCert rq) s = fails specDbgPresentCert rq stAuthFail (raisePlain 295 (freshNonce u)))) ∧
    (verifies cru.toNat k 0x0A02 rq [] s → let a := rq.bytes 8 160
      let rights := BitVec.ofNat 8 (leField a 36 8) &&& BitVec.ofNat 8 (rightsPermitted s.lcs.state)
      leField a 44 4 ≤ s.lcs.hours.toNat → s.lcs.hours.toNat ≤ leField a 48 4 → leField a 52 4 ≤ s.lcs.cycles.toNat →
      s.lcs.cycles.toNat ≤ leField a 56 4 → rights ≠ 0 →
      if signedOk (signerKey 103 (decide (leField a 2 1 = 1)) s) a then
        ∃ t, exec (.crucibleJobComplete cru 1) s = .next t ∧ t.hasTask k = false ∧ t.lcs.isOpen = true ∧ t.lcs.rights = rights ∧
          t.lcs.lastHour.toNat = leField a 48 4 ∧ t.lcs.state = s.lcs.state ∧ t.bk = s.bk
      else ∃ t, exec (.crucibleJobComplete cru 1) s = .next t ∧ t.hasTask k = false ∧ t.lcs.isOpen = s.lcs.isOpen ∧ t.lcs.rights = s.lcs.rights) ∧
    (accepted specDbgClose rq s = true → let u := taken specDbgClose rq s
      (u.lcs.isOpen = false → exec (.dbgClose rq) s = okWith specDbgClose rq [] u) ∧
      (u.lcs.isOpen = true → completes (exec (.dbgClose rq) s) specDbgClose rq (· = []) fun t =>
        t.lcs = { u.lcs with isOpen := false, rights := 0, signer := false } ∧ t.bk = u.bk)) ∧
    (s.pwr.released = false → exec .lcsHoursTick s = .next s) ∧
    (s.pwr.released = true → let l := { s.lcs with hours := s.lcs.hours + 1 };
      ∃ t, exec .lcsHoursTick s = .next t ∧ t.lcs =
        if l.isOpen ∧ l.state ≠ 0 ∧ l.lastHour.toNat < l.hours.toNat then { l with isOpen := false, rights := 0, signer := false } else l) ∧
    (s.lcs.isOpen = true → (s.lcs.state = 0 ∨ s.lcs.hours.toNat ≤ s.lcs.lastHour.toNat → exec .debugSessionExpiry s = .next s) ∧
      (s.lcs.state ≠ 0 → s.lcs.lastHour.toNat < s.lcs.hours.toNat → ∃ t, exec .debugSessionExpiry s = .next t ∧
        t.lcs = { s.lcs with isOpen := false, rights := 0, signer := false })) ∧
    (let u := unitNumber cls unit.toNat;
      (s.lcs.isOpen = false ∨ s.lcs.rights.getLsbD 2 = false ∨ cls = .lane → exec (.debugHaltRequest cls unit) s = .next s) ∧
      (s.lcs.isOpen = true → s.lcs.rights.getLsbD 2 = true → cls = .service → unit.toNat < 28 →
        (s.lcs.state = 2 → s.role u = .active → exec (.debugHaltRequest cls unit) s = .next s) ∧
        (s.lcs.state ≠ 2 ∧ s.role u = .active ∨ s.role u = .spare → ∃ t, exec (.debugHaltRequest cls unit) s = .next t ∧ t.role u = .debug ∧
          (mapGet ({} : Thrower) t.cores u).running = false ∧ t.mem = s.mem ∧ t.lcs = s.lcs))) ∧
    (restartCause c b (s.core c) = false → exec (.supervisorRestart c b) s = .next s) ∧
    (s.pwr.up = true → restartCause (.control p) b (s.core (.control p)) = true → ∃ f t, exec (.supervisorRestart (.control p) b) s = .next t ∧
      t.core (.control p) = resetCore (.control p) f (s.core (.control p)) ∧ .coreNotice (.control p) ∈ t.out ∧
      t.upd.pair = (if activePair s = p.val then !s.upd.pair else s.upd.pair) ∧ t.mem = s.mem) ∧
    (s.pwr.up = true → s.role (100 + n.val) = .active → (∀ e ∈ s.roles, e.2 ≠ .leaving) → s.vault.keys = [] → s.arr.joining = 0 → s.bst.running = [] → (s.core (.service n)).restarts = [] →
      restartCause (.service n) b (s.core (.service n)) = true → ∃ t, exec (.supervisorRestart (.service n) b) s = .next t ∧
        t.role (100 + n.val) = .spare ∧ t.core (.service n) = { restarts := [s.pwr.aon] } ∧ .coreNotice (.service n) ∈ t.out) ∧
    (s.pwr.up = true → ∃ t, exec .lockstepMismatch s = .next t ∧ t.upd.pair = !s.upd.pair ∧ t.mem = s.mem ∧ t.health.takeover = true)

namespace Sys2Proof.Claims

open Sys2Proof.Machine

/-- Crucible `n` runs the verification of a statement that custodian `i` signed, for task `k` of the physical function. -/
def checksStatement (n k i : Nat) (rq : Req) (answer : List Byte) (s : State) : Prop :=
  ∃ id, (s.crucible n).job = some id ∧ (s.job id).task = some k ∧ s.hasTask k = true ∧ rq.route = .mailbox 0 ∧ jobsRun s = true ∧
    s.task k = { opcode := 0x0B01, rq, effected := true, work := [custodianWork], store := answer, note := [i] } ∧ s.cards.isOpen = true

end Sys2Proof.Claims

open Sys2Proof Sys2Proof.Machine Sys2Proof.Claims in
/-- With no command on the port: CCP_ACTIVATE of a present card whose answer to reset offers the protocol switches the port on
and returns the answer, without a card or without an answer CARD_REMOVED; CCP_APDU on an active port returns the card's
answer, a signed statement waits for its verification, whose success sets the custodian's COLLECTED bit and whose failure
does not; a card that fails goes out of service; CCP_DEACTIVATE switches off and with flag 8 closes the quorum session.
ARC_MOUNT returns capacity and mode of a usable card; ARC_EXPORT of a source that fits starts, each block written advances
it, the last ends it; a removal suspends it; ARC_IMPORT of one good last block without records completes with OK, of another
block with AUTH_FAIL; ARC_UNMOUNT drops mount and suspended export. Presence changes set the presence and switch a pulled
card off. (R490, R492, R494, R495, R497, R498, R500, R503, R504, R505, R506, R507) -/
def Obligations.CustodianAndArchiveCardsFollowTheirPorts : Prop :=
  ∀ (rq : Req) (atr : CardAtr) (groups : List AtrGroup) (reply : CardReply) (bytes : List Byte) (cid : BitVec 128) (csize : BitVec 22) (xc present : Bool)
    (top : BitVec 2) (cru : BitVec 8) (k i m count : Nat) (keys : List Byte) (b : List Byte) (port : BitVec 1) (w : BlockWrite) (e : Export_) (s : State),
    (accepted specCcpActivate rq s = true → let u := taken specCcpActivate rq s
      let n := rq.field 0 1
      let p := u.port n;
      n ≤ 1 → rq.field 1 1 ≤ 1 → rq.field 2 1 ≤ 1 → rq.field 3 1 = 0 → u.tasks = [] →
      (p.present = false → exec (.ccpActivate rq atr) s = fails specCcpActivate rq stCardRemoved u) ∧
      (p.present = true → atr.present = true → atr.answered = false →
        exec (.ccpActivate rq atr) s = fails specCcpActivate rq stCardRemoved (portFails n (u.setPort n { p with isOn := false }))) ∧
      (p.present = true → atr.present = true → atr.answered = true → parseAtr atr.atr = some groups → atrOffers groups (rq.field 2 1) = true →
        atrFits groups (rq.field 2 1) = true →
        completes (exec (.ccpActivate rq atr) s) specCcpActivate rq (· = leBytes 1 atr.atr.length ++ leBytes 3 0 ++ atr.atr) fun t =>
          (t.port n).isOn = true ∧ (t.port n).classC = decide (rq.field 1 1 = 1) ∧ (t.port n).t1 = decide (rq.field 2 1 = 1) ∧ t.mem = u.mem ∧
          (rq.flags.getLsbD 8 = true → t.cards.isOpen = true ∧ (t.port n).quorum = true) ∧ (rq.flags.getLsbD 8 = false → t.cards.isOpen = u.cards.isOpen))) ∧
    (accepted specCcpApdu rq s = true → let u := taken specCcpApdu rq s
      let n := rq.field 0 1
      let p := u.port n;
      rq.payload.length = 8 + rq.field 4 4 → 4 ≤ rq.field 4 4 → rq.field 4 4 ≤ 261 → n ≤ 1 → rq.field 1 3 = 0 → u.tasks = [] →
      p.present = true → p.out = false →
      (p.isOn = false → exec (.ccpApdu rq reply) s = fails specCcpApdu rq stNotPermitted u) ∧
      (p.isOn = true → rq.flags.getLsbD 8 = false →
        exec (.ccpApdu rq (.answer bytes)) s = okWith specCcpApdu rq (leBytes 4 bytes.length ++ bytes) u ∧
        exec (.ccpApdu rq .timeout) s = fails specCcpApdu rq stCardRemoved (portFails n u) ∧
        exec (.ccpApdu rq .failed) s = fails specCcpApdu rq stCardRemoved (portFails n u)) ∧
      (p.isOn = true → rq.flags.getLsbD 8 = true → rq.field 4 4 = 4 → u.cards.isOpen = true → p.quorum = true → u.bk.lock ≠ 0 →
        u.custodians.isSome = true → bytes.length = 66 → bytes.drop 64 = [0x90, 0x00] → exec (.ccpApdu rq (.answer bytes)) s =
          inProgress specCcpApdu rq { rq, effected := true, work := [custodianWork], store := bytes, note := [rq.flags.toNat / 512 % 8] } u)) ∧
    (checksStatement cru.toNat k i rq bytes s → s.custodians = some (m, count, keys) →
      if i < count ∧ custodianOk s keys i (bytes.take 64) = true then
        ∃ t, exec (.crucibleJobComplete cru 1) s = .next t ∧ t.hasTask k = false ∧ t.cards = { s.cards with collected := setBit s.cards.collected i true }
      else ∃ t, exec (.crucibleJobComplete cru 1) s = .next t ∧ t.hasTask k = false ∧ t.cards = s.cards) ∧
    (accepted specCcpDeactivate rq s = true → let u := taken specCcpDeactivate rq s
      let n := rq.field 0 1
      let v := u.setPort n { u.port n with isOn := false };
      n ≤ 1 → rq.field 1 3 = 0 → u.tasks = [] → (u.port n).present = true → (u.port n).out = false →
      exec (.ccpDeactivate rq) s = okWith specCcpDeactivate rq [] (if rq.flags.getLsbD 8 then closeQuorum v else v)) ∧
    (accepted specArcMount rq s = true → let u := taken specArcMount rq s
      (u.cards.running = none → u.cards.present = true → let mode := min u.topMode top.toNat
        exec (.arcMount rq (.usable cid csize xc top)) s = okWith specArcMount rq
          (leBytes 8 ((csize.toNat + 1) * 1024) ++ [if xc then 1 else 0, BitVec.ofNat 8 mode] ++ leBytes 6 0)
          { u with cards := { u.cards with mounted := true, capacity := (csize.toNat + 1) * 1024, xc, mode := BitVec.ofNat 2 mode, cid } }) ∧
      (u.cards.running = none → u.cards.present = true →
        exec (.arcMount rq .unusable) s = fails specArcMount rq stNotPermitted { u with cards := { u.cards with mounted := false } }) ∧
      (u.cards.running ≠ none → exec (.arcMount rq .absent) s = fails specArcMount rq stBusy u)) ∧
    (accepted specArcExport rq s = true → let u := taken specArcExport rq s
      let src := rq.field 0 1
      let first := rq.field 8 8;
      u.lcs.state ≠ 3 → (src = 0 ∨ src = 1 ∨ src = 3) → rq.field 1 1 = 0 → rq.field 2 6 = 0 → u.cards.mounted = true → u.cards.running = none →
      let blocks := (exportSize src [] + 4031) / 4032
      (u.cards.capacity < 2056 + 8 * (first + blocks - 1) → exec (.arcExport rq) s = fails specArcExport rq stLimit u) ∧
      (2056 + 8 * (first + blocks - 1) ≤ u.cards.capacity → exec (.arcExport rq) s = inProgress specArcExport rq { rq, effected := true, work := [.card] }
        { u with cards := { u.cards with suspended := none, exports := u.cards.exports + 1, next := BitVec.ofNat 64 first,
                                           running := some { source := src, id := u.pwr.aon.toNat + 2 ^ 48 * u.cards.exports.toNat, first, next := first
                                                             last := first + blocks - 1, top := first, cid := u.cards.cid, task := u.taskIds, from_ := first } } })) ∧
    (accepted specArcImport rq s = true → let u := taken specArcImport rq s
      u.lcs.state ≠ 3 → rq.field 0 1 = 2 → rq.field 1 7 = 0 → u.cards.mounted = true → u.cards.running = none →
      if importBlockOk (rq.field 8 8) none b = true then (leField b 28 2 = 0 → leField b 7 1 / 2 % 2 = 1 →
        completes (exec (.arcImport rq [b] present) s) specArcImport rq (· = leBytes 8 1 ++ leBytes 8 (rq.field 8 8)) fun t =>
          t.vault = u.vault ∧ t.cards = { u.cards with next := BitVec.ofNat 64 (rq.field 8 8 + 1) } ∧ t.mem = u.mem)
      else exec (.arcImport rq [b] present) s = .next (respond 0x0B12 rq stAuthFail 0 (leBytes 8 0 ++ leBytes 8 (rq.field 8 8 + 2 ^ 64 - 1))
        (dropReservation rq (raisePlain 307 { u with cards := { u.cards with next := BitVec.ofNat 64 (rq.field 8 8) } })))) ∧
    (accepted specArcUnmount rq s = true → let u := taken specArcUnmount rq s
      u.cards.running = none → exec (.arcUnmount rq) s = okWith specArcUnmount rq [] { u with cards := { u.cards with mounted := false, suspended := none } }) ∧
    (let n := port.toNat
      let p := s.port n;
      (p.present = present → exec (.custodianPresenceChange port present) s = .next s) ∧
      (p.present = false → ∃ t, exec (.custodianPresenceChange port true) s = .next t ∧ t.port n = { p with present := true, out := false } ∧ t.mem = s.mem) ∧
      (p.present = true → ∃ t, exec (.custodianPresenceChange port false) s = .next t ∧ t.mem = s.mem ∧
        t.port n = { p with present := false, isOn := false, out := false, removed := p.removed || p.isOn }) ∧
      (p.isOn = true → exec (.cardTimeout port) s = .next (portFails n s)) ∧
      (p.isOn = false → exec (.cardTimeout port) s = .next s)) ∧
    (s.cards.isOpen = true → ∃ t, exec .quorumSessionTimeout s = .next t ∧ t.cards.isOpen = false ∧ t.cards.collected = 0 ∧ t.mem = s.mem) ∧
    (s.cards.running = none → s.cards.present = true → ∃ t, exec (.archivePresenceChange false) s = .next t ∧
      t.cards = { s.cards with present := false, mounted := false, removed := s.cards.removed || s.cards.mounted } ∧ t.mem = s.mem) ∧
    (s.cards.running = some e → let next := e.next + 1
      (e.next < e.last → ∃ t, exec (.kilnBlockWritten .written) s = .next t ∧ t.out = .kiln (2048 + 8 * e.next) (kilnBlock e e.next s).1 :: s.out ∧
        t.cards = { s.cards with next := BitVec.ofNat 64 next, running := some { e with next, top := max e.top next } } ∧ t.mem = s.mem) ∧
      (e.last ≤ e.next → (w = .written ∨ w = .repeated) → ∃ t, exec (.kilnBlockWritten w) s = .next t ∧ t.cards.running = none ∧
        t.cards.next = BitVec.ofNat 64 next ∧ t.hasTask e.task = false ∧ .kiln (2048 + 8 * e.next) (kilnBlock e e.next s).1 ∈ t.out) ∧
      ((w = .crcFailed ∨ w = .noAnswer) → ∃ t, exec (.kilnBlockWritten w) s = .next t ∧ t.cards.running = none ∧ t.cards.suspended = some e ∧
        t.cards.mounted = false ∧ t.hasTask e.task = false) ∧
      (s.cards.present = true → ∃ t, exec (.archivePresenceChange false) s = .next t ∧ t.cards.running = none ∧ t.cards.suspended = some e ∧
        t.cards.mounted = false ∧ t.hasTask e.task = false))

namespace Sys2Proof.Claims

open Sys2Proof.Machine

/-- The words `ws` of a bank from word `ptr` on are as given, every other word of tag memory is as in `m`. -/
def wordsAre (bank ptr : Nat) (ws : List (BitVec 16)) (m m' : FMap (BitVec 16)) : Prop :=
  ∀ a, mapGet 0 m' a = if 256 * bank + ptr ≤ a ∧ a < 256 * bank + ptr + ws.length then ws.getD (a - (256 * bank + ptr)) 0 else mapGet 0 m a

/-- A change of `n` rows of tag `t` into `t'`: as many commits, released and erased rows as R521 says. -/
def rowsMoved (rows : List Nat) (t t' : Tag) : Prop :=
  t'.commits = t.commits + 1 ∧ t'.released = t.released ++ rows.map t.rowOf ∧ t'.retired = t.retired ∧ t'.flags = t.flags ∧
    t'.phase = t.phase ∧ ∀ l ∈ rows, l < 16 → t'.rowOf l ∈ t.erased

end Sys2Proof.Claims

open Sys2Proof Sys2Proof.Machine Sys2Proof.Claims in
/-- Accepted and in range: TAG_READ returns the words, high byte first, and changes nothing; TAG_WRITE of permitted words and
TAG_SET_PASSWORD change exactly those words where enough rows are erased (here with no worn row), move each touched row to
an erased one, release the old rows and count one commit; with too few erased rows they complete with BUSY and change
nothing, and a word that may not be written with NOT_PERMITTED. The field appearing or vanishing takes the tag to ready; a
powered tag keeps S0 and a tag without supply loses it; a flag other than S1 expires without supply only; TAG_POWER_UP
releases rows left in part and ends the cycle of a wrong password, the lockout's time ends with its event; ROW_ERASE erases
a released row of a powered tag; a snapshot mirrors the backup state; BACKUP_NO_ANSWER marks it lost. (R510, R516, R517,
R518, R521, R522, R523, R527, R529, 19_rack_tag.md) -/
def Obligations.TagMemoryAndSupplyChangeAsWired : Prop :=
  ∀ (rq : Req) (flag : TagFlag) (row : BitVec 7) (part : List (BitVec 7)) (s : State),
    (accepted specTagRead rq s = true → let u := taken specTagRead rq s
      (wiredRange rq = true → respFits rq (2 * rq.field 4 2) = none → exec (.tagRead rq) s =
        okWith specTagRead rq (wordBytes ((List.range (rq.field 4 2)).map fun i => tagWord u.tag (rq.field 0 1) (rq.field 2 2 + i))) u) ∧
      (wiredRange rq = false → exec (.tagRead rq) s = fails specTagRead rq stNotPermitted u)) ∧
    (accepted specTagWrite rq s = true → rq.payload.length = 8 + 2 * rq.field 4 2 → wiredRange rq = true → let u := taken specTagWrite rq s
      let b := rq.field 0 1
      let ptr := rq.field 2 2
      let ws := writeWords rq
      let rows := touchedRows b ptr ws.length
      (∀ i, i < ws.length → tagWritable u.tag b (ptr + i) (ws.getD i 0) = true) →
      (rows.length ≤ u.tag.erased.length → completes (exec (.tagWrite rq []) s) specTagWrite rq (· = []) fun t =>
        wordsAre b ptr ws u.tag.mem t.tag.mem ∧ rowsMoved rows u.tag t.tag ∧ t = u.withTag t.tag) ∧
      (u.tag.erased.length < rows.length → exec (.tagWrite rq []) s = fails specTagWrite rq stBusy u)) ∧
    (accepted specTagWrite rq s = true → rq.payload.length = 8 + 2 * rq.field 4 2 → wiredRange rq = true → let u := taken specTagWrite rq s
      tagWritable u.tag (rq.field 0 1) (rq.field 2 2) (BitVec.ofNat 16 (beNat (rq.bytes 8 2))) = false →
      exec (.tagWrite rq part) s = fails specTagWrite rq stNotPermitted u) ∧
    (accepted specTagSetPassword rq s = true → let u := taken specTagSetPassword rq s
      let p := rq.field 0 4
      (u.tag.erased ≠ [] → completes (exec (.tagSetPassword rq []) s) specTagSetPassword rq (· = []) fun t =>
        wordsAre 0 2 [BitVec.ofNat 16 (p / 65536), BitVec.ofNat 16 p] u.tag.mem t.tag.mem ∧ rowsMoved [0] u.tag t.tag ∧
        t.tag.password = p ∧ t = u.withTag t.tag) ∧
      (u.tag.erased = [] → exec (.tagSetPassword rq []) s = fails specTagSetPassword rq stBusy u)) ∧
    (s.tag.field = false → ∃ t, exec .fieldPresent s = .next t ∧ t.tag = { s.tag with field := true, phase := .ready } ∧ t.mem = s.mem) ∧
    (s.tag.field = true → exec .fieldPresent s = .next s ∧ ∃ t, exec .fieldLost s = .next t ∧ t.mem = s.mem ∧
      (s.sup.vddVault = true → t.tag = { s.tag with field := false, phase := .ready }) ∧
      (s.sup.vddVault = false → s.sup.vddHold = false → t.tag = { s.tag with field := false, phase := .ready, flags := s.tag.flags &&& 0xE })) ∧
    (exec .accessLockoutExpiry s = .next (s.withTag { s.tag with timed := false })) ∧
    (exec (.sessionFlagExpiry .s1) s = .next (s.withTag { s.tag with flags := s.tag.flags &&& 0xD })) ∧
    (flag ≠ .s1 → tagPowered s = true → exec (.sessionFlagExpiry flag) s = .next s) ∧
    (tagPowered s = false → exec (.sessionFlagExpiry .s2) s = .next (s.withTag { s.tag with flags := s.tag.flags &&& 0xB }) ∧
      exec (.sessionFlagExpiry .sl) s = .next (s.withTag { s.tag with sl := false })) ∧
    (∃ t, exec (.tagPowerUp part true) s = .next t ∧ t.tag.phase = .ready ∧ t.tag.cycled = false ∧ t.tag.recovered = true ∧
      t.tag.mem = s.tag.mem ∧ t.tag.flags = s.tag.flags ∧ t.mem = s.mem) ∧
    (exec (.tagPowerUp [] false) s = .next (s.withTag { s.tag with phase := .ready, cycled := false, recovered := false })) ∧
    (tagPowered s = true → exec (.rowErase row) s = .next (s.withTag { s.tag with released := s.tag.released.erase row.toNat })) ∧
    (tagPowered s = false → exec (.rowErase row) s = .next s) ∧
    (∃ t, exec .mirrorSnapshot s = .next t ∧ t = s.withTag { s.tag with mirror := t.tag.mirror } ∧ mirrorWord t.tag 1 = s.tmpLatch.setWidth 16 ∧
      mirrorWord t.tag 3 = BitVec.ofNat 16 (s.bk.classes.toNat / 65536) ∧ mirrorWord t.tag 5 = s.bk.lockseq ∧
      mirrorWord t.tag 6 = BitVec.ofNat 16 s.bk.log.length ∧ ((mirrorWord t.tag 0).getLsbD 15 = s.bk.lost)) ∧
    (∃ t, exec .backupNoAnswer s = .next t ∧ mirrorWord t.tag 0 = 0xF002 ∧ t.bk = { s.bk with valid := false } ∧ t.tag.mem = s.tag.mem ∧ t.mem = s.mem)

namespace Sys2Proof.Claims

open Sys2Proof.Machine

/-- The tag is in open or secured with a handle in force. -/
def holdsHandle (h : BitVec 16) (s : State) : Bool :=
  s.tag.field && (decide (s.tag.phase = .opened) || decide (s.tag.phase = .secured)) && decide (h = s.tag.rn)

/-- The tag goes to a state and answers with a fresh number. -/
def answersFresh (ph : TagState) (s t : State) : Prop :=
  ∃ rn, t.tag = { s.tag with phase := ph, rn } ∧ t.out = .tagReply [rn] :: s.out ∧ t.mem = s.mem

end Sys2Proof.Claims

open Sys2Proof Sys2Proof.Machine Sys2Proof.Claims in
/-- In the field: Select sets or clears its flag and ends a round; Query takes the tag into a round when SL and the session's
flag match and else to ready, slot 0 answering with a new number at once; QueryAdjust changes Q and draws a new slot,
QueryRep counts the slot down, and both end the participation of a singulated tag with its flag inverted; ACK with the
number answers the EPC words; NAK goes to arbitrate; Req_RN with the number gives a handle (open with a password set,
secured without); Read in open or secured with the handle answers the words of a readable range and error codes else; Write
and BlockWrite in secured change exactly their words; Access with the password secures, with another goes to arbitrate and
starts the lockout; an invalid command goes to arbitrate. Outside the field nothing happens. The state diagram and error
codes are those of ISO/IEC 18000-63 (log entry 63). (R511, R512, R514, R516, R517, R518, R521, R530, 19_rack_tag.md) -/
def Obligations.TagAnswersTheFieldByItsState : Prop :=
  ∀ (flag : TagFlag) (sel ses : BitVec 2) (tgt m weak : Bool) (q : BitVec 4) (slot : BitVec 15) (rn h d : BitVec 16) (bank : BitVec 2) (ptr : Nat)
    (count : BitVec 8) (data : List (BitVec 16)) (pw : BitVec 32) (s : State), let g := s.tag
    (g.field = true →
      (exec (.select flag 0 true) s = .next (s.withTag { putFlag flag true g with phase := .ready })) ∧
      (exec (.select flag 5 true) s = .next (s.withTag { putFlag flag false g with phase := .ready })) ∧
      (exec (.select flag 1 false) s = .next (s.withTag { g with phase := .ready })) ∧
      (singulated g = false → (sel.toNat < 2 ∨ g.sl = decide (sel = 3)) → g.flags.getLsbD ses.toNat = tgt →
        (slot.toNat % 2 ^ q.toNat = 0 → ∃ t, exec (.query sel ses tgt q slot) s = .next t ∧
          answersFresh .reply (s.withTag { g with session := ses, q, slot := 0 }) t) ∧
        (slot.toNat % 2 ^ q.toNat ≠ 0 → exec (.query sel ses tgt q slot) s =
          .next (s.withTag { g with session := ses, q, slot := BitVec.ofNat 15 (slot.toNat % 2 ^ q.toNat), phase := .arbitrate }))) ∧
      (singulated g = false → g.flags.getLsbD ses.toNat ≠ tgt →
        exec (.query sel ses tgt q slot) s = .next (s.withTag { g with session := ses, q, phase := .ready })) ∧
      (g.session = ses → singulated g = true →
        exec (.queryrep ses) s = .next (s.withTag { flipFlag g with phase := .ready }) ∧
        exec (.queryadjust ses 0 slot) s = .next (s.withTag { flipFlag g with phase := .ready })) ∧
      (g.session = ses → g.phase = .arbitrate →
        (g.q ≠ 15 → slot.toNat % 2 ^ (g.q.toNat + 1) ≠ 0 → exec (.queryadjust ses 6 slot) s =
          .next (s.withTag { g with q := g.q + 1, slot := BitVec.ofNat 15 (slot.toNat % 2 ^ (g.q.toNat + 1)), phase := .arbitrate })) ∧
        (g.slot = 1 → ∃ t, exec (.queryrep ses) s = .next t ∧ answersFresh .reply (s.withTag { g with slot := 0 }) t) ∧
        (g.slot ≠ 1 → exec (.queryrep ses) s = .next (s.withTag { g with slot := g.slot - 1 }))) ∧
      (g.phase = .reply →
        (exec (.ack g.rn) s = .next { s.withTag { g with phase := .acknowledged } with out := .tagReply (epcReply g) :: s.out }) ∧
        (rn ≠ g.rn → exec (.ack rn) s = .next (s.withTag { g with phase := .arbitrate }))) ∧
      (g.phase ≠ .ready → exec .nak s = .next (s.withTag { g with phase := .arbitrate })) ∧
      (g.phase = .acknowledged → ∃ t, exec (.reqRn g.rn) s = .next t ∧ answersFresh (if g.password = 0 then .secured else .opened) s t) ∧
      (g.phase = .ready ∨ g.phase = .arbitrate → exec .invalidCommand s = .next s) ∧
      (g.phase ≠ .ready → g.phase ≠ .arbitrate → exec .invalidCommand s = .next (s.withTag { g with phase := .arbitrate }))) ∧
    (holdsHandle h s = true → let b := bank.toNat
      (count ≠ 0 → ptr + count.toNat ≤ bankSize b → (b = 0 → ptr + count.toNat ≤ 2) → exec (.read bank ptr count h) s =
        .next { s with out := .tagReply ((List.range count.toNat).map fun i => tagWord g b (ptr + i)) :: s.out }) ∧
      (count ≠ 0 → bankSize b < ptr + count.toNat → exec (.read bank ptr count h) s = .next { s with out := .tagError 3 :: s.out }) ∧
      (count ≠ 0 → b = 0 → 2 < ptr + count.toNat → ptr + count.toNat ≤ 4 → exec (.read bank ptr count h) s = .next { s with out := .tagError 4 :: s.out }) ∧
      (g.phase = .secured → b = 3 → 16 ≤ ptr → ptr < 256 → g.erased ≠ [] →
        ∃ t, exec (.write bank ptr d h false []) s = .next t ∧ wordsAre b ptr [d] g.mem t.tag.mem ∧ t.out = .tagReply [] :: s.out ∧
          t.tag.commits = g.commits + 1 ∧ t.mem = s.mem) ∧
      (g.phase = .secured → b = 3 → 16 ≤ ptr → ptr + data.length ≤ 256 → 1 ≤ data.length → data.length ≤ 16 → 2 ≤ g.erased.length →
        ∃ t, exec (.blockwrite bank ptr data h false []) s = .next t ∧ wordsAre b ptr data g.mem t.tag.mem ∧ t.out = .tagReply [] :: s.out ∧
          t.tag.commits = g.commits + 1 ∧ t.mem = s.mem) ∧
      (exec (.write bank ptr d h true []) s = .next { s with out := .tagError 0x0B :: s.out }) ∧
      (g.phase = .opened → ptr < bankSize b → exec (.write bank ptr d h false []) s = .next { s with out := .tagError 4 :: s.out }) ∧
      (g.timed = false → g.cycled = false →
        (pw.toNat = g.password → exec (.access pw h) s = .next { s.withTag { g with phase := .secured } with out := .tagReply [g.rn] :: s.out }) ∧
        (pw.toNat ≠ g.password → ∃ t, exec (.access pw h) s = .next t ∧ t.tag.phase = .arbitrate ∧ t.tag.timed = true ∧ t.tag.cycled = true ∧
          t.tag.pwdFail = true ∧ t.out = s.out ∧ t.mem = s.mem)) ∧
      (g.timed = true → exec (.access pw h) s = .next s)) ∧
    (g.field = false → exec (.select flag 0 m) s = .next s ∧ exec (.query sel ses tgt q slot) s = .next s ∧ exec .nak s = .next s ∧
      exec (.ack rn) s = .next s ∧ exec (.reqRn rn) s = .next s ∧ exec (.read bank ptr count h) s = .next s ∧
      exec (.write bank ptr d h weak []) s = .next s)

open Sys2Proof Sys2Proof.Machine Sys2Proof.Claims in
/-- Accepted and in range, BST_RUN_SLICE enters the queue under the next id, and completes with LIMIT with 64 requests waiting
and NOT_PERMITTED beyond the units of the class; BST_STATUS reports a known request and completes with BAD_HANDLE for an
unknown one. SLICE_START starts the waiting request on its unit unless starts are held. A passed slice goes on to the next
or completes the request with state 2; a failed one completes it with state 3 and its signature, a failing march row of a
qualification run is repaired and rerun while the macro has a free spare row, and a qualification that fails otherwise
retires the unit. A request of the host that waits expires with state 5. The link check ends with its counts. A rotation of
an idle lane makes the spare active and the active one spare with its slices due; other rotations do nothing. (R22, R532,
R533, R534, R535, R536, R537, R541, R544, 20_selftest_recorder.md) -/
def Obligations.SelfTestRequestsRunEndAndExpire : Prop :=
  ∀ (rq : Req) (i o : BitVec 8) (id n : Nat) (d req : BitVec 32) (locked : Bool) (errors : BitVec 32) (s : State),
    let host (s : State) := s.bst.waiting.filter fun id => !(s.request id).qualify && !(s.request id).scheduled;
    (accepted specBstRunSlice rq s = true → rq.field 1 1 = 0 → rq.field 6 2 = 0 → let u := taken specBstRunSlice rq s
      let cls := rq.field 0 1;
      (cls ≤ 2 → rq.field 2 2 = 0xFFFF → rq.field 4 2 < sliceCount cls → (host u).length < 64 →
        completes (exec (.bstRunSlice rq) s) specBstRunSlice rq (· = leBytes 4 (u.bst.ids + 1)) fun t =>
          t.bst.ids = u.bst.ids + 1 ∧ t.bst.waiting = u.bst.waiting ++ [u.bst.ids + 1] ∧ t.mem = u.mem ∧ t.roles = u.roles ∧
          t.request (u.bst.ids + 1) = { cls := BitVec.ofNat 8 cls, index := 0xFFFF, slice := BitVec.ofNat 16 (rq.field 4 2) }) ∧
      (cls ≤ 2 → rq.field 2 2 = 0xFFFF → rq.field 4 2 < sliceCount cls → 64 ≤ (host u).length →
        exec (.bstRunSlice rq) s = fails specBstRunSlice rq stLimit u) ∧
      (3 < cls ∨ cls = 0 ∧ 16 ≤ rq.field 2 2 ∧ rq.field 2 2 ≠ 0xFFFF ∨ cls = 1 ∧ 160 ≤ rq.field 2 2 ∧ rq.field 2 2 ≠ 0xFFFF →
        exec (.bstRunSlice rq) s = fails specBstRunSlice rq stNotPermitted u)) ∧
    (accepted specBstStatus rq s = true → let u := taken specBstStatus rq s
      let k := rq.field 0 4
      let r := u.request k;
      (k ≠ 0 → k ∈ u.bst.waiting ++ u.bst.running ++ u.bst.done → exec (.bstStatus rq) s = okWith specBstStatus rq
        ([r.state, 0] ++ leBytes 2 r.unit.toNat ++ leBytes 4 r.signature.toNat ++ leBytes 4 r.hours.toNat ++ leBytes 4 0) u) ∧
      (k ≠ 0 → k ∉ u.bst.waiting ++ u.bst.running ++ u.bst.done → exec (.bstStatus rq) s = fails specBstStatus rq stBadHandle u)) ∧
    (startsHeld s = true → exec .sliceStart s = .next s) ∧
    (startsHeld s = false → s.bst.waiting = [id] → let r := s.request id
      sliceUnit r s = some (n, false) → ∃ t, exec .sliceStart s = .next t ∧ t.bst.waiting = [] ∧ t.bst.running = s.bst.running ++ [id] ∧
        t.request id = { r with state := 1, unit := BitVec.ofNat 16 n, at_ := if r.slice = 0xFFFF then 0 else r.slice, rerun := false, borrowed := false } ∧
        t.mem = s.mem ∧ t.roles = s.roles) ∧
    (id ∈ s.bst.running → let r := s.request id
      let cls := r.cls.toNat
      let sig := cls * 2 ^ 28 + r.at_.toNat * 2 ^ 16 + d.toNat % 65536;
      (r.at_.toNat < lastSlice r → ∃ t, exec (.sliceComplete id .passed) s = .next t ∧ t.bst.running = s.bst.running ∧
        t.request id = { r with at_ := r.at_ + 1, rerun := false }) ∧
      (lastSlice r ≤ r.at_.toNat → r.qualify = false → ∃ t, exec (.sliceComplete id .passed) s = .next t ∧ t.bst.running = s.bst.running.erase id ∧
        t.bst.done = (id :: s.bst.done).take 256 ∧ (t.request id).state = 2 ∧ (t.request id).signature = 0 ∧ (t.request id).hours = s.lcs.hours) ∧
      (r.qualify = false → ∃ t, exec (.sliceComplete id (.failed d [])) s = .next t ∧ t.bst.running = s.bst.running.erase id ∧
        t.bst.done = (id :: s.bst.done).take 256 ∧ (t.request id).state = 3 ∧ (t.request id).signature.toNat = sig % 2 ^ 32) ∧
      (r.qualify = true → isMarch cls r.at_.toNat = true → r.rerun = false → s.bst.repairs.length < 3712 →
        (s.bst.repairs.filter fun e => decide (e.macro_.toNat = (macroOf r (d.toNat % 65536)).1) && !e.column).length < 2 →
        ∃ t e, exec (.sliceComplete id (.failed d [])) s = .next t ∧ t.bst.repairs = s.bst.repairs ++ [e] ∧ e.column = false ∧
          e.address.toNat = d.toNat % 128 ∧ t.bst.running = s.bst.running ∧ (t.request id).rerun = true ∧ t.roles = s.roles) ∧
      (r.qualify = true → isMarch cls r.at_.toNat = false → cls ≤ 2 → s.bst.running = [id] → id ∉ s.bst.waiting → ∃ t, exec (.sliceComplete id (.failed d [])) s = .next t ∧
        t.role (unitNumber (classOf cls) r.unit.toNat) = .retired ∧ (t.request id).state = 3 ∧ t.bst.repairs = s.bst.repairs)) ∧
    (id ∉ s.bst.running → exec (.sliceComplete id (.failed d [])) s = .next s) ∧
    (req.toNat ∈ host s → ∃ t, exec (.sliceRequestExpiry req) s = .next t ∧ (t.request req.toNat).state = 5 ∧
      t.bst.waiting = s.bst.waiting.erase req.toNat ∧ t.bst.running = s.bst.running.erase req.toNat) ∧
    (req.toNat ∉ s.bst.waiting → req.toNat ∉ s.bst.running → exec (.sliceRequestExpiry req) s = .next s) ∧
    (s.bst.linkBusy = true → exec (.linkCheckDone locked errors) s = .next { s with bst := { s.bst with
      linkBusy := false, locked, linkDone := true, linkBits := if locked then 0x100000 else 0, linkErr := if locked then errors else 0 } }) ∧
    (i.toNat < 16 → o.toNat < 16 → s.role i.toNat = .spare → s.role o.toNat = .active → s.bst.unqualLane.getLsbD i.toNat = false →
      s.bst.running = [] → (s.lane o.toNat).busy = false → ∃ t, exec (.spareRotation .lane i o) s = .next t ∧ t.role i.toNat = .active ∧
        t.role o.toNat = .spare ∧ t.bst.waiting = s.bst.waiting ++ [s.bst.ids + 1] ∧ (t.request (s.bst.ids + 1)).scheduled = true ∧ t.mem = s.mem) ∧
    (s.role i.toNat ≠ .spare → exec (.spareRotation .lane i o) s = .next s)

open Sys2Proof Sys2Proof.Machine Sys2Proof.Claims in
/-- An event of a source enters an empty log under the next sequence number; one equal to the newest record adds to its repeat
count; while the compute die is gated it is staged with flag 0. An event of a queue group that reports CAUSE 2 and ERROR of
an enabled queue pair puts that queue pair there (log entry 122). A failed memory check counts against its channel. A sample
counts in the bin of every configured channel of its metric and moves the extremes that carry it. EVR_OPEN_WINDOW opens the
next window id at its cursor, a ninth window completes with LIMIT; EVR_READ of an open window of the caller's class returns
the records at its cursor and advances it, of another BAD_HANDLE; EVR_CLEAR empties the log but for one record of source
317, or a channel or pair, and moves generations on. A window closes at its expiry; a snapshot holds log, histograms and
extremes. (R226, R416, R546, R547, R548, R549, R550, R551, R552, 20_selftest_recorder.md) -/
def Obligations.TheRecorderHoldsWindowsHistogramsAndExtremes : Prop :=
  ∀ (rq : Req) (source : BitVec 16) (detail : BitVec 64) (f : LineFault) (ch : BitVec 4) (rw : Bool) (metric : BitVec 8) (value win : BitVec 32) (c p : Nat)
    (n : EvrRecord) (s : State), let v := s.evr
    (1 ≤ source.toNat → source.toNat ≤ 323 → source ≠ 22 → failedEntry source detail s = none → s.gated = false →
      (v.log = [] → ∃ t, exec (.eventRecord source detail .none) s = .next t ∧ t.mem = s.mem ∧ t.vault = s.vault ∧ t.evr.next = v.next + 1 ∧
        t.evr.log.map (fun r => (r.source, r.detail, r.seq, r.repeats)) = [(source, detail, v.next, 0)]) ∧
      (v.log.getLast? = some n → n.source = source → n.detail = detail → ∃ t m, exec (.eventRecord source detail .none) s = .next t ∧
        t.evr.log.length = v.log.length ∧ t.evr.next = v.next ∧ t.evr.log.getLast? = some m ∧ m.repeats.toNat = min 65535 (n.repeats.toNat + 1) ∧
        m.seq = n.seq ∧ m.first = n.first)) ∧
    (1 ≤ source.toNat → source.toNat ≤ 323 → source ≠ 22 → failedEntry source detail s = none → s.gated = true → v.staged = [] → ∃ t, exec (.eventRecord source detail .none) s = .next t ∧
      t.evr.log = v.log ∧ t.evr.staged.map (fun r => (r.source, r.detail, r.flags.getLsbD 0)) = [(source, detail, true)]) ∧
    (1 ≤ source.toNat → source.toNat ≤ 323 → source ≠ 22 → (LineFault.check ch rw).wf source = true →
      ∃ t, exec (.eventRecord source detail (.check ch rw)) s = .next t ∧
        mapGet 0 t.msub.checks ch.toNat = min 65535 (mapGet 0 s.msub.checks ch.toNat + 1) ∧ (rw = false → t.msub.repaired = s.msub.repaired)) ∧
    (source = 0 ∨ 323 < source.toNat → exec (.eventRecord source detail f) s = .next s) ∧
    (failedEntry source detail s = some c → ∃ t, exec (.eventRecord source detail f) s = .next t ∧ (t.qp c).state = 3 ∧ (t.qp c).cause = 2 ∧
      (t.qp c).owner = (s.qp c).owner ∧ t.mem = s.mem ∧ t.vault = s.vault) ∧
    (metric ≠ 0 →
      (c < 128 → c < 6 ∨ 10 < c → (v.channel c).metric = metric → ∃ t, exec (.histogramSample metric value) s = .next t ∧ t.evr.log = v.log ∧
        (t.evr.channel c).gen = (v.channel c).gen ∧ ∀ i, mapGet 0 (t.evr.channel c).bins i =
          if i = (v.channel c).bin value.toInt then BitVec.ofNat 32 (min 0xFFFFFFFF ((mapGet 0 (v.channel c).bins i).toNat + 1)) else mapGet 0 (v.channel c).bins i) ∧
      (p < 64 → (v.pair p).metric = metric → ∃ t, exec (.histogramSample metric value) s = .next t ∧ let x := v.pair p
        let y := t.evr.pair p;
        (x.empty = true → y = { x with empty := false, min := value, max := value, minAt := s.pwr.aon.setWidth 64, maxAt := s.pwr.aon.setWidth 64 }) ∧
        (x.empty = false → y.min = (if value.slt x.min then value else x.min) ∧ y.max = (if x.max.slt value then value else x.max) ∧ y.gen = x.gen))) ∧
    (accepted specEvrOpenWindow rq s = true → rq.field 1 1 = 0 → let u := taken specEvrOpenWindow rq s
      let i := rq.field 2 2
      let k := rq.field 0 1
      let w : EvrWindow := { isOpen := true, sideband := rqSideband rq, kind := BitVec.ofNat 8 k
                             cursor := if k = 0 then u.evr.next - BitVec.ofNat 32 u.evr.log.length + BitVec.ofNat 32 i else BitVec.ofNat 32 i }
      (k = 0 ∧ i ≤ u.evr.log.length ∨ k = 1 ∧ i ≤ 127 ∨ k = 2 ∧ i ≤ 63 →
        if u.openWindows < 8 then exec (.evrOpenWindow rq) s = okWith specEvrOpenWindow rq (leBytes 4 (u.evr.windowIds + 1))
          { u with evr := { u.evr with windows := mapPut u.evr.windows (u.evr.windowIds + 1) w, windowIds := u.evr.windowIds + 1 } }
        else exec (.evrOpenWindow rq) s = fails specEvrOpenWindow rq stLimit u) ∧
      (k = 1 ∧ 127 < i ∨ k = 2 ∧ 63 < i ∨ 2 < k → exec (.evrOpenWindow rq) s = fails specEvrOpenWindow rq stNotPermitted u)) ∧
    (accepted specEvrRead rq s = true → let u := taken specEvrRead rq s
      let r := u.evr
      let w := mapGet {} r.windows (rq.field 0 4)
      let k := rq.field 4 2
      let ahead := (r.next - w.cursor).toNat
      let moved (x : Nat) : State := { u with evr := { r with windows := mapPut r.windows (rq.field 0 4) { w with cursor := BitVec.ofNat 32 x } } };
      (w.isOpen = false ∨ w.sideband ≠ rqSideband rq → exec (.evrRead rq) s = fails specEvrRead rq stBadHandle u) ∧
      (w.isOpen = true → w.sideband = rqSideband rq → 1 ≤ k → rq.field 6 2 = 0 →
        (w.kind = 0 → k ≤ 42 → ahead ≤ r.log.length → let rs := (r.log.drop (r.log.length - ahead)).take k
          exec (.evrRead rq) s = okWith specEvrRead rq (leBytes 2 rs.length ++ leBytes 2 0 ++ leBytes 4 0 ++
            leBytes 4 ((w.cursor.toNat + rs.length) % 2 ^ 32) ++ leBytes 4 0 ++ rs.flatMap (evrBytes r)) (moved ((w.cursor.toNat + rs.length) % 2 ^ 32))) ∧
        (w.kind = 1 → k ≤ 14 → w.cursor.toNat + k ≤ 128 → exec (.evrRead rq) s = okWith specEvrRead rq (leBytes 2 k ++ leBytes 2 0 ++ leBytes 4 0 ++
          leBytes 4 (w.cursor.toNat + k) ++ leBytes 4 0 ++ (List.range k).flatMap fun i => histBytes r (w.cursor.toNat + i)) (moved (w.cursor.toNat + k))) ∧
        (w.kind = 2 → k ≤ 63 → w.cursor.toNat + k ≤ 64 → exec (.evrRead rq) s = okWith specEvrRead rq (leBytes 2 k ++ leBytes 2 0 ++ leBytes 4 0 ++
          leBytes 4 (w.cursor.toNat + k) ++ leBytes 4 0 ++ (List.range k).flatMap fun i => extremeBytes r (w.cursor.toNat + i)) (moved (w.cursor.toNat + k))))) ∧
    (accepted specEvrClear rq s = true → rq.field 1 1 = 0 → let u := taken specEvrClear rq s
      let i := rq.field 2 2;
      (rq.field 0 1 = 0 → i = 0xFFFF → u.gated = false → completes (exec (.evrClear rq) s) specEvrClear rq (· = []) fun t =>
        t.evr.log.map (fun r => (r.source, r.seq)) = [(317, u.evr.next)] ∧ t.evr.next = u.evr.next + 1 ∧ t.evr.windows = u.evr.windows ∧ t.evr.hist = u.evr.hist) ∧
      (rq.field 0 1 = 0 → i ≠ 0xFFFF → exec (.evrClear rq) s = fails specEvrClear rq stNotPermitted u) ∧
      (rq.field 0 1 = 1 → i ≤ 127 → completes (exec (.evrClear rq) s) specEvrClear rq (· = []) fun t => t.evr.log = u.evr.log ∧
        (t.evr.channel i).bins = [] ∧ (t.evr.channel i).gen = (u.evr.channel i).gen + 1 ∧ t.evr.windows = u.evr.windows) ∧
      (rq.field 0 1 = 2 → i ≤ 63 → completes (exec (.evrClear rq) s) specEvrClear rq (· = []) fun t => t.evr.log = u.evr.log ∧
        t.evr.pair i = { metric := (u.evr.pair i).metric, gen := (u.evr.pair i).gen + 1 } ∧ t.evr.windows = u.evr.windows)) ∧
    (∃ t, exec (.windowExpiry win) s = .next t ∧ (mapGet {} t.evr.windows win.toNat).isOpen = false ∧ t.evr.log = v.log ∧ t.mem = s.mem) ∧
    (exec .recorderSnapshot s = .next { s with evr := { v with
      commitLog := [], snapshot := { log := v.log, next := v.next, hist := v.hist, extremes := v.extremes } } })

namespace Sys2Proof.Claims

open Sys2Proof.Machine

/-- Crucible `n` runs the last verification of the unlock of task `k`. -/
def checksUnlock (n k : Nat) (rq : Req) (s : State) : Prop :=
  ∃ id, (s.crucible n).job = some id ∧ (s.job id).task = some k ∧ s.hasTask k = true ∧ rq.route = .mailbox 0 ∧ jobsRun s = true ∧
    s.task k = { opcode := 0x1001, rq, work := [custodianWork] }

/-- What the write of lock state 0 leaves. -/
def unlocked (u t : State) : Prop :=
  t.bk.lock = 0 ∧ t.bk.latch = 0 ∧ t.bk.designA = 0 ∧ t.bk.designB = 0 ∧ t.bk.lost = false ∧ t.cards.isOpen = false ∧ t.pins.tamper = false ∧
    t.bk.lockseq = u.bk.lockseq ∧ t.bk.seqCopy = some u.bk.lockseq ∧ t.bk.due.length = u.bk.due.length + 1 ∧ t.bk.log = u.bk.log ∧ t.mem = u.mem

end Sys2Proof.Claims

open Sys2Proof Sys2Proof.Machine Sys2Proof.Claims in
/-- An alarm of a running detector sets its latch; class 0 leaves the lock state, class 1 locks an unlocked part and class 2
locks and scrubs it (KEK seed and save key gone), LOCKSEQ advancing with the first; on a clocked compute die live sessions
freeze. A detector that does not run, or under-voltage while disarmed, raises nothing. The end of an alarm clears its active
bit. TMP_STATUS reports and, to the physical function, clears the latches of quiet class 0 detectors. TMP_SET_RESPONSE sets
a class, lowering it only in Greenware and Bisque. TMP_UNLOCK without custodians unlocks at once, with them it waits for the
verifications or fails with AUTH_FAIL, and the good last one unlocks. Due entries enter the log; a start without validity
pattern, or with neither main power nor VDD_HOLD (log entry 121), takes the defaults with lock state 2 and one entry; the
LOCKSEQ copy follows. (R449, R450, R452, R453, R454, R456, R459, R461, R463, R465, R466, R467) -/
def Obligations.AlarmsLockAndTheUnlockReleases : Prop :=
  ∀ (rq : Req) (d : BitVec 4) (designs : BitVec 2) (under : Bool) (cru : BitVec 8) (i k m n : Nat) (keys : List Byte) (e : TamperEntry) (s : State),
    let b := s.bk
    let det := d.toNat
    (detectorRuns det s = true → designs ≠ 0 → b.disarmed = false → ∃ t, exec (.tamperAlarm d designs under) s = .next t ∧
      t.bk.latch.getLsbD det = true ∧ t.bk.active.getLsbD det = true ∧ t.bk.classes = b.classes ∧ t.bk.log = b.log ∧
      (b.cls det = 0 → t.bk.lock = b.lock ∧ t.bk.lockseq = b.lockseq ∧ t.bk.seed = b.seed ∧ t.vault = s.vault ∧ t.tasks = s.tasks) ∧
      (b.cls det = 1 → b.lock = 0 → t.bk.lock = 1 ∧ t.bk.seed = b.seed) ∧
      (b.cls det = 1 → b.lock ≠ 0 → t.bk.lock = b.lock ∧ t.bk.lockseq = b.lockseq) ∧
      (b.cls det = 2 → t.bk.lock = 2 ∧ t.bk.seed = [] ∧ t.bk.saveKey = [] ∧ t.vault.kekValid = false) ∧
      (b.cls det = 1 ∨ b.cls det = 2 → b.lock = 0 → t.bk.lockseq = b.lockseq + 1 ∧ t.bk.copyDue = true ∧ t.pins.tamper = s.sup.vddVault ∧
        (computeOn s = true → (t.session i).live = true → (t.session i).frozen = true))) ∧
    (detectorRuns det s = false ∨ designs = 0 ∨ (b.disarmed = true ∧ under = true ∧ det ≤ 2) → exec (.tamperAlarm d designs under) s = .next s) ∧
    (detectorRuns det s = true → designs ≠ 0 → s.sup.vddVault = true → b.cls det = 0 → ∃ t, exec (.detectorStimulus d designs) s = .next t ∧
      t.bk.latch = setBit b.latch det true ∧ t.bk.active = b.active ∧ t.bk.lock = b.lock ∧ t.vault = s.vault) ∧
    (s.sup.vddVault = false → s.sup.vddHold = false → exec (.detectorStimulus d designs) s = .next s) ∧
    (exec (.tamperAlarmEnd d) s = .next { s with bk := { b with active := setBit b.active det false } }) ∧
    (accepted specTmpStatus rq s = true → let u := taken specTmpStatus rq s
      let c := u.bk;
      completes (exec (.tmpStatus rq) s) specTmpStatus rq
        (holds 32 [(0, 1, c.lock.toNat), (1, 1, 0), (2, 2, u.tmpActive.toNat), (4, 2, u.tmpLatch.toNat), (6, 2, c.fuseDis.toNat), (8, 1, c.log.length),
          (9, 7, 0), (16, 4, c.hours.toNat), (20, 12, 0)])
        fun t => t = { u with bk := { c with latch := t.bk.latch } } ∧ ∀ j, j < 14 → t.bk.latch.getLsbD j =
          (c.latch.getLsbD j && (decide (reqFn rq u ≠ some 0) || u.tmpActive.getLsbD j || decide (c.cls j ≠ 0)))) ∧
    (accepted specTmpSetResponse rq s = true → rq.field 2 2 = 0 → let u := taken specTmpSetResponse rq s
      let j := rq.field 0 1
      let c := rq.field 1 1;
      (j ≤ 13 → c ≤ 2 → u.lcs.state = 0 ∨ u.lcs.state = 1 ∨ u.bk.cls j ≤ c → completes (exec (.tmpSetResponse rq) s) specTmpSetResponse rq (· = []) fun t =>
        t.bk.cls j = c ∧ (∀ l, l < 14 → l ≠ j → t.bk.cls l = u.bk.cls l) ∧ t.bk.classCopy = some t.bk.classes ∧ t.bk.lock = u.bk.lock ∧ t.mem = u.mem) ∧
      (13 < j ∨ 2 < c ∨ (u.lcs.state ≠ 0 ∧ u.lcs.state ≠ 1 ∧ c < u.bk.cls j) → exec (.tmpSetResponse rq) s = fails specTmpSetResponse rq stNotPermitted u)) ∧
    (accepted specTmpUnlock rq s = true → let u := taken specTmpUnlock rq s
      let c := rq.field 8 1
      let ids := (List.range c).map (evidenceIndex rq);
      rq.payload.length = 8 + rq.field 0 4 → c ≤ 8 → rq.field 0 4 = 4 + 68 * c → rq.field 4 4 = 0 → rq.field 9 3 = 0 → u.tasks = [] → u.cards.isOpen = false →
      (u.bk.lock = 0 → exec (.tmpUnlock rq) s = fails specTmpUnlock rq stNotPermitted u) ∧
      (u.bk.lock ≠ 0 → u.tmpActive = 0 →
        (u.custodians = none → completes (exec (.tmpUnlock rq) s) specTmpUnlock rq (· = []) fun t => unlocked u t) ∧
        (u.custodians = some (m, n, keys) → if m ≤ c ∧ ids.Nodup ∧ ∀ x ∈ ids, x < n then
            exec (.tmpUnlock rq) s = inProgress specTmpUnlock rq { rq, work := List.replicate c custodianWork } u
          else exec (.tmpUnlock rq) s = fails specTmpUnlock rq stAuthFail u))) ∧
    (checksUnlock cru.toNat k rq s → s.custodians = some (m, n, keys) →
      if ∀ j, j < rq.field 8 1 → custodianOk s keys (evidenceIndex rq j) (evidenceSig rq j) = true then
        ∃ t, exec (.crucibleJobComplete cru 1) s = .next t ∧ t.hasTask k = false ∧ t.bk.lock = 0 ∧ t.bk.latch = 0 ∧ t.bk.lost = false ∧ t.cards.isOpen = false
      else ∃ t, exec (.crucibleJobComplete cru 1) s = .next t ∧ t.hasTask k = false ∧ t.bk = b) ∧
    (b.due = [] → exec .tamperLogEntry s = .next s) ∧
    (b.due = [e] →
      (b.log = [] → exec .tamperLogEntry s = .next { s with bk := { b with log := [{ e with seq := b.next }], next := b.next + 1, due := [], hours := s.lcs.hours } }) ∧
      (b.log.length = 16 → 2 ^ 14 ≤ e.mask.toNat → exec .tamperLogEntry s = .next { s with bk := { b with
        log := b.log.drop 1 ++ [{ e with seq := b.next }], next := b.next + 1, due := [], hours := s.lcs.hours } })) ∧
    (b.valid = true → s.sup.vddVault = true ∨ s.sup.vddHold = true → exec .backupDomainStart s = .next s) ∧
    (b.valid = false ∨ (s.sup.vddVault = false ∧ s.sup.vddHold = false) → ∃ t, exec .backupDomainStart s = .next t ∧ t.bk.valid = true ∧ t.bk.lock = 2 ∧ t.bk.lost = true ∧ t.bk.seed = [] ∧ t.bk.latch = 0 ∧
      t.bk.fuseDis = b.fuseDis ∧ t.bk.log.map (fun x => (x.mask.toNat, x.cls.toNat)) = [(0x8000, 2)] ∧ t.bk.classes = 0x1AAA455 ∧ t.tal.timeSet = false ∧
      t.pwr.aon = 0 ∧ t.mem = s.mem) ∧
    (b.copyDue = true → s.sup.vddVault = true → exec .lockseqCopyWrite s = .next { s with bk := { b with copyDue := false, seqCopy := some b.lockseq } }) ∧
    (b.copyDue = false → exec .lockseqCopyWrite s = .next s)

namespace Sys2Proof.Claims

open Sys2Proof.Machine

/-- The part is off, and holds of its state what a reset of the whole part keeps. -/
def offAs (s t : State) : Prop :=
  t.pwr.up = false ∧ t.pwr.released = false ∧ t.pwr.cone = 0 ∧ t.pwr.commit = none ∧ t.mem = [] ∧ t.cores = [] ∧ t.tasks = [] ∧ t.jobs = [] ∧
    t.vault.keys = [] ∧ t.vault.sessions = [] ∧ t.hif = {} ∧ t.lcs.otpA = s.lcs.otpA ∧ t.lcs.otpB = s.lcs.otpB ∧ t.lcs.resetDue = false ∧
    t.pwr.aon = s.pwr.aon ∧ t.flash.items = s.flash.items ∧ (s.flash.era = none → t.flash.counts = s.flash.counts) ∧ t.bst.repairs = s.bst.repairs

/-- A commit of a kind runs; the flash has nothing in progress and the self-test queue is gone. -/
def commits (kind : BitVec 8) (t : State) : Prop :=
  t.pwr.commit = some kind ∧ t.flash.prog = none ∧ t.flash.era = none ∧ t.flash.queue = [] ∧ t.bst.waiting = [] ∧ t.bst.running = []

end Sys2Proof.Claims

open Sys2Proof Sys2Proof.Machine Sys2Proof.Claims in
/-- On a released part without a commit, PWRFAIL_N, an undervoltage and a power-good fall with POR_N and PWRFAIL_N high start
the commit with their kind, drop the self-test queue and stop the flash; a second trigger changes nothing more.
COMMIT_COMPLETE with hold-up raises HOLD_DONE and keeps the open span's page, without it or stopped the commit ends without;
POR_N, the loss of the main rails without a commit and the reset a life-cycle transition owes leave the part off with their
bit of CONE_RST_CAUSE where they have one, the backup domain, timebase, fuses and flash items kept, the erase counts too
where no erase was cut, and everything else at reset; the rails without VBAT take the backup content with them. VDD_HOLD in
range lowers HOLD_DONE. COMPUTE_DIE_RELEASE releases only under its conditions. A boot of a part that is off brings it up
with its supplies, one more power cycle, the trained channels and an open span. (R45, R50, R53, R56, R60, R61, R62, R92,
R93, R98, R383, R591) -/
def Obligations.SupplyEventsCommitResetAndBootThePart : Prop :=
  ∀ (vault : Bool) (input : BitVec 2) (k : BitVec 8) (env : BootEnv) (s : State), let p := s.pwr
    (p.released = true → p.commit = none →
      (∃ t, exec .pwrfailNAssert s = .next t ∧ commits 0 t ∧ t.sup = { s.sup with pwrfailN := false } ∧ t.bk.disarmed = true ∧ t.bk.lock = s.bk.lock) ∧
      (∃ t, exec (.railUndervoltage vault) s = .next t ∧ commits (if vault then 2 else 1) t ∧ t.sup = s.sup ∧ t.bk.disarmed = s.bk.disarmed) ∧
      (s.sup.porN = true → s.sup.pwrfailN = true → ∃ t, exec (.powerGoodFall input) s = .next t ∧ commits 3 t ∧ t.sup.pg.getLsbD input.toNat = false)) ∧
    (p.commit = some k → exec .pwrfailNAssert s = .next { s with sup := { s.sup with pwrfailN := false } } ∧ exec (.railUndervoltage vault) s = .next s) ∧
    (s.sup.porN = false → exec (.powerGoodFall input) s = .next { s with sup := { s.sup with pg := setBit s.sup.pg input.toNat false } }) ∧
    (p.commit = none → exec .commitComplete s = .next s) ∧
    (p.commit = some k → p.tripped = false →
      (s.sup.vddHold = true → ∃ t, exec .commitComplete s = .next t ∧ offAs s t ∧ t.pins.holdDone = true ∧ t.pwr.rstCause.getLsbD 3 = true ∧ t.bk = s.bk ∧
        t.tal.ackJournal = s.tal.acked ∧ t.tal.commitPage = if s.tal.isOpen then some (commitPageOf s) else none) ∧
      (s.sup.vddHold = false → s.sup.vbat = true → ∃ t, exec .commitComplete s = .next t ∧ offAs s t ∧ t.pins.holdDone = s.pins.holdDone ∧
        t.pwr.stopped = some k ∧ t.tal.commitPage = s.tal.commitPage) ∧
      (∃ t, exec .commitStopped s = .next t ∧ offAs s t ∧ t.sup.vddHold = false ∧ t.pwr.stopped = some k ∧ t.pins.holdDone = s.pins.holdDone ∧
        t.pwr.rstCause.getLsbD 3 = true)) ∧
    (p.commit = none → ∃ t, exec .porNAssert s = .next t ∧ offAs s t ∧ t.sup.porN = false ∧ t.pins.thermTrip = false ∧ t.pwr.tripped = false ∧
      t.pwr.rstCause.getLsbD 0 = true ∧ t.bk = s.bk) ∧
    (p.commit = some k → ∃ t, exec .porNAssert s = .next t ∧ t.sup.porN = false ∧ t.pwr = { p with tripped := false } ∧ t.bk = s.bk ∧ t.tal = s.tal) ∧
    (s.lcs.resetDue = true → ∃ t, exec .lifecycleReset s = .next t ∧ offAs s t ∧ t.pwr.rstCause.getLsbD 5 = true ∧ t.lcs.rootDis = s.lcs.rootDis) ∧
    (s.lcs.resetDue = false → exec .lifecycleReset s = .next s) ∧
    (p.commit = none → ∃ t, exec .mainPowerLoss s = .next t ∧ offAs s t ∧ t.sup.vddVault = false ∧ t.sup.vddHold = false ∧ t.sup.railsUp = false ∧
      t.sup.porN = false ∧ t.pins.holdDone = false ∧ t.pins.tamper = false ∧ (s.sup.vbat = true → t.bk = s.bk) ∧
      (s.sup.vbat = false → t.bk.valid = false ∧ t.bk.seed = [])) ∧
    (p.commit = some k → ∃ t, exec .mainPowerLoss s = .next t ∧ t.pwr.commit = some k ∧ t.sup.vddVault = false ∧ t.sup.vddHold = s.sup.vddHold ∧
      t.bk = s.bk ∧ t.tal = s.tal ∧ t.flash = s.flash) ∧
    (exec .vddHoldInRange s = .next { s with
      sup := { s.sup with vddHold := true }, pins := { s.pins with holdDone := false }, pwr := { p with holdAbsent := false } }) ∧
    (releasable s = true → ∃ t, exec .computeDieRelease s = .next t ∧ t.pwr = { p with released := true, holdAbsent := !s.sup.vddHold } ∧
      t.pins.holdDone = false ∧ t.bk.disarmed = false ∧ t.mem = s.mem) ∧
    (releasable s = false → exec .computeDieRelease s = .next s) ∧
    (p.up = false → p.tripped = false → p.commit = none → ∃ t, exec (.boot env) s = .next t ∧ t.pwr.up = true ∧ t.pwr.released = true ∧
      t.sup = { s.sup with porN := true, pwrfailN := true, pg := 0xF, railsUp := true, vddVault := true, vddHold := env.vddHold, vbat := env.vbat } ∧
      t.lcs.cycles = s.lcs.cycles + 1 ∧ t.msub.trained = env.trained ∧ t.fabric.linkUp = env.pairs ∧ t.tal.isOpen = true ∧ t.bk.valid = true ∧
      (s.bk.valid = false → t.bk.lock = 2) ∧ (s.bk.valid = true → t.bk.lock = s.bk.lock) ∧ t.flash.items = s.flash.items ∧
      ((s.bank s.upd.select).verified = true → env.bankFails = false → t.upd.running = some s.upd.select)) ∧
    (p.up = true → exec (.boot env) s = .next s)

namespace Sys2Proof.Claims

open Sys2Proof.Machine

/-- The setpoint may move by 10 mV either way, its fused minimum being `m` (R67, R90). -/
def roomToMove (m : Nat) (s : State) : Bool :=
  let v := s.pwr.setpoint.toNat
  avsRuns s && decide (s.bst.running = []) && decide (s.pwr.low.toNat + 10 ≤ v) && decide (690 ≤ v) && decide (m + 20 ≤ v) &&
    decide (v + 10 ≤ s.pwr.high.toNat) && decide (v + 10 ≤ 850)

end Sys2Proof.Claims

open Sys2Proof Sys2Proof.Machine Sys2Proof.Claims in
/-- On a released part a reading above the alert threshold raises the alert and takes one throttle step down to step 4; one at
or below it clears the alert, three degrees below takes a step up. A trip asserts the pin, gates the part and starts the
commit of kind 4. While adaptive voltage runs within its limits, a window with little slack raises the setpoint by 10 mV, a
middle one holds it, the sixteenth good one in a row lowers it by 10 mV, and a write without acknowledgement stops adaptive
voltage; low timing margin halves the domain's clocks and raises the setpoint. A retry that succeeds resumes from the value
read; an alert without a collapse sends CLEAR_FAULTS to each configured regulator whose word has a bit set (log entry 96). A
PLL in use that loses lock hands its domains to its twin; relock ends it. Losing and regaining the crystal changes the time
source and flags the open span; a ratio is taken while the crystal runs. The threshold is the implementation's (an open
Config value). (R49, R50, R66, R68, R69, R84, R86, R88, R89, R90, R91, 03_cones_clocks.md) -/
def Obligations.TemperatureVoltageAndClocksFollowTheirLimits : Prop :=
  ∀ (j : BitVec 16) (slack : Nat) (m mv : BitVec 10) (dom : BitVec 6) (ack : Bool) (status : List (BitVec 16)) (pll : BitVec 4) (ratio : BitVec 32) (s : State),
    let p := s.pwr
    let high := decide ((Config.alertCelsius : Int) < j.toInt)
    (p.released = true →
      (∃ t, exec (.thermalAlert j) s = .next t ∧ t.mem = s.mem ∧ t.pwr = (if high then { p with junction := j } else p) ∧
        t.pins = (if high then { s.pins with thermAlert := true } else s.pins)) ∧
      (∃ t, exec (.thermalAlertClear j) s = .next t ∧ t.mem = s.mem ∧ t.pwr = (if high then p else { p with junction := j }) ∧
        t.pins = (if high then s.pins else { s.pins with thermAlert := false })) ∧
      (∃ t, exec (.throttleStep j) s = .next t ∧ t.pins = s.pins ∧ t.mem = s.mem ∧ t.pwr.junction = j ∧ t.pwr.throttle =
        (if high then (if p.throttle.toNat < 4 then p.throttle + 1 else p.throttle)
         else if j.toInt + 3 ≤ (Config.alertCelsius : Int) ∧ p.throttle ≠ 0 then p.throttle - 1 else p.throttle)) ∧
      (p.tripped = false → p.commit = none → ∃ t, exec (.thermalTrip j) s = .next t ∧ commits 4 t ∧ t.pins.thermTrip = true ∧ t.pwr.tripped = true ∧
        t.pwr.junction = j ∧ t.pwr.rstCause.getLsbD 4 = true ∧ t.bk.disarmed = true) ∧
      (p.tripped = true → exec (.thermalTrip j) s = .next s) ∧
      (∃ t, exec (.pmAlert status false) s = .next t ∧ t.pwr = p ∧ t.mem = s.mem ∧ t.tasks = s.tasks ∧
        ∀ rail, rail < 4 → railConfigured rail s = true → status.getD rail 0 ≠ 0 → .pmbus rail 3 none ∈ t.out) ∧
      (p.commit = none → ∃ t, exec (.pmAlert status true) s = .next t ∧ commits 1 t) ∧
      (p.avsFault = true →
        (∃ t, exec (.pmbusRetry true mv) s = .next t ∧ t.mem = s.mem ∧
          t.pwr = { p with avsFault := false, pmFails := 0, unacked := none, setpoint := mv, goodWindows := 0 }) ∧
        (∃ t, exec (.pmbusRetry false mv) s = .next t ∧ t.mem = s.mem ∧ t.pwr = { p with pmFails := p.pmFails + 1 })) ∧
      (p.avsFault = false → exec (.pmbusRetry ack mv) s = .next s)) ∧
    (roomToMove m.toNat s = true →
      (slack < 8 → ∃ t, exec (.avsWindow slack m true) s = .next t ∧ t.mem = s.mem ∧ t.pwr = { p with setpoint := p.setpoint + 10, pmFails := 0, goodWindows := 0 }) ∧
      (slack < 8 → ∃ t, exec (.avsWindow slack m false) s = .next t ∧ t.mem = s.mem ∧ t.pwr.avsFault = true ∧ t.pwr.setpoint = p.setpoint ∧
        t.pwr.unacked = some (p.setpoint + 10)) ∧
      (8 ≤ slack → slack < 12 → exec (.avsWindow slack m ack) s = .next { s with pwr := { p with halved := 0, goodWindows := 0 } }) ∧
      (12 ≤ slack → p.goodWindows < 15 → exec (.avsWindow slack m ack) s = .next { s with pwr := { p with halved := 0, goodWindows := p.goodWindows + 1 } }) ∧
      (12 ≤ slack → 15 ≤ p.goodWindows → ∃ t, exec (.avsWindow slack m true) s = .next t ∧ t.mem = s.mem ∧
        t.pwr = { p with halved := 0, setpoint := p.setpoint - 10, pmFails := 0, goodWindows := 0 }) ∧
      (∃ t, exec (.timingMarginLow dom) s = .next t ∧ t.mem = s.mem ∧
        t.pwr = { p with halved := setBit p.halved dom.toNat true, setpoint := p.setpoint + 10, pmFails := 0, goodWindows := 0 })) ∧
    (avsRuns s = false → exec (.avsWindow slack m ack) s = .next s ∧ exec (.timingMarginLow dom) s = .next s) ∧
    (p.up = true → pll.toNat < 10 → pll.toNat % 2 = 0 → p.unlocked.getLsbD pll.toNat = false → p.unlocked.getLsbD (pll.toNat + 1) = false →
      p.onTwin.getLsbD (pll.toNat / 2) = false → ∃ t, exec (.pllLossOfLock pll) s = .next t ∧
        t.pwr.unlocked = setBit p.unlocked pll.toNat true ∧ t.pwr.onTwin = setBit p.onTwin (pll.toNat / 2) true) ∧
    (p.unlocked.getLsbD pll.toNat = true → exec (.pllLossOfLock pll) s = .next s) ∧
    (p.unlocked.getLsbD pll.toNat = true → pll.toNat < 10 → pll.toNat % 2 = 0 → p.unlocked.getLsbD (pll.toNat + 1) = false →
      ∃ t, exec (.pllRelock pll) s = .next t ∧ t.pwr = { p with unlocked := setBit p.unlocked pll.toNat false } ∧ t.mem = s.mem) ∧
    (p.unlocked.getLsbD pll.toNat = false → exec (.pllRelock pll) s = .next s) ∧
    (p.scaled = false → exec .crystalReturn s = .next s ∧ ∃ t, exec .crystalLoss s = .next t ∧ t.pwr = { p with crystalOk := false, scaled := true } ∧
      t.tal = { s.tal with flags := s.tal.flags ||| 1 } ∧ t.mem = s.mem) ∧
    (p.scaled = true → exec .crystalLoss s = .next s ∧ ∃ t, exec .crystalReturn s = .next t ∧ t.pwr = { p with crystalOk := true, scaled := false } ∧
      t.tal = { s.tal with flags := s.tal.flags ||| 1 } ∧ t.mem = s.mem) ∧
    (p.crystalOk = true → p.scaled = false → exec (.ratioMeasurement ratio) s = .next { s with pwr := { p with ratio } }) ∧
    (p.crystalOk = false ∨ p.scaled = true → exec (.ratioMeasurement ratio) s = .next s)

open Sys2Proof Sys2Proof.Machine Sys2Proof.Claims in
/-- On a part that is up, CONE_ENTRY starts the entry to the chosen cone where it is deeper and else changes nothing, and for
cone 3 or 4 brings the setpoint to 750 mV where adaptive voltage runs; CONE_ENTRY_COMPLETE turns back where the cone is no
longer permitted, and else stands in it: units outside the reserve lose their slots in cone 2; in cone 3 and 4 the state is
saved, the hot store cooled and the link down. A wake source of the cone starts the exit; a tamper event wakes nothing.
CONE_EXIT_COMPLETE stands in the shallower cone, from cone 3 with the link started again, and without the saved state the
part is off with bit 6 of CONE_RST_CAUSE. A command that waited for the cone completes once it is allowed. A mesh link with
eight failures is out of use; four failed replays of the die-to-die link retrain it, and a link start comes up only where
the pairing secrets match. (R26, R27, R28, R29, R71, R72, R75, R77, R79, R80, R81, R82) -/
def Obligations.ConesAreEnteredLeftAndWokenAndLinksRetrain : Prop :=
  ∀ (k u : Nat) (ids : List Nat) (a b : BitVec 5) (m : Bool) (t0 : Task) (s : State), let p := s.pwr
    (p.up = true → p.moving = false → p.commit = none → let c := chooseCone s;
      (p.cone.toNat < c → (c < 3 ∨ avsRuns s = false) →
        exec .coneEntry s = .next { s with pwr := { p with moving := true, leaving := false, target := BitVec.ofNat 3 c } }) ∧
      (p.cone.toNat < c → 3 ≤ c → avsRuns s = true → ∃ t, exec .coneEntry s = .next t ∧ t.mem = s.mem ∧ t.tasks = s.tasks ∧
        t.pwr = { p with moving := true, leaving := false, target := BitVec.ofNat 3 c, setpoint := 750 }) ∧
      (c ≤ p.cone.toNat → exec .coneEntry s = .next s)) ∧
    (p.moving = true → p.leaving = false →
      (chooseCone s < p.target.toNat → exec .coneEntryComplete s = .next { s with pwr := { p with leaving := true } }) ∧
      (p.target.toNat ≤ chooseCone s → p.target = 1 → exec .coneEntryComplete s = .next { s with pwr := { p with cone := 1, moving := false } }) ∧
      (p.target.toNat ≤ chooseCone s → p.target = 2 → ∃ t, exec .coneEntryComplete s = .next t ∧ t.pwr = { p with cone := 2, moving := false } ∧
        ∀ n, n < 16 → (reserveLanes s).contains n = false → (t.lane n).slots = [] ∧ (t.lane n).contexts = []) ∧
      (p.target.toNat ≤ chooseCone s → 3 ≤ p.target.toNat → p.cone.toNat < 3 → ∃ t, exec .coneEntryComplete s = .next t ∧ t.pwr.cone = p.target ∧
        t.pwr.moving = false ∧ t.pwr.saved = true ∧ t.fabric.linkUp = false ∧ t.tal.entryMinute = some s.minute ∧ ∀ h, (t.key h).hot = false)) ∧
    (p.moving = false → 3 ≤ p.cone.toNat → (∀ w ∈ [WakeSource.host, .sideband, .reader, .card, .timer], ∃ t, exec (.wake w) s = .next t ∧
      t.pwr.moving = true ∧ t.pwr.leaving = true ∧ t.pwr.target = p.cone ∧ t.pwr.cone = p.cone ∧ t.mem = s.mem)) ∧
    (p.moving = false → (p.cone = 1 ∨ p.cone = 2 ∨ p.cone = 3) → exec (.wake .doorbell) s = .next { s with pwr := { p with moving := true, leaving := true, target := p.cone } }) ∧
    (p.cone = 0 → p.moving = false → exec (.wake .doorbell) s = .next s ∧ exec (.wake .card) s = .next s) ∧
    (exec (.wake .tamper) s = .next s) ∧
    (p.moving = false ∨ p.leaving = false → exec .coneExitComplete s = .next s) ∧
    (p.moving = true → p.leaving = true → p.target = p.cone →
      (p.cone = 1 ∨ p.cone = 2 → s.tasks = [] → let c := BitVec.ofNat 3 (min (chooseCone s) (p.cone.toNat - 1))
        exec .coneExitComplete s = .next { s with pwr := { p with cone := c, target := c, moving := false, leaving := false } }) ∧
      (p.cone = 3 → p.saved = true → ∃ t, exec .coneExitComplete s = .next t ∧ t.pwr.cone = BitVec.ofNat 3 (min (chooseCone s) 2) ∧ (quiet s = true → t.pwr.moving = false) ∧
        t.pwr.saved = false ∧ t.bk.saveKey = [] ∧ t.fabric.linkUp = !s.fabric.unpaired ∧ t.evr.staged = [] ∧ t.side.waiting = []) ∧
      (p.cone = 3 → p.saved = false → ∃ t, exec .coneExitComplete s = .next t ∧ offAs s t ∧ t.pwr.rstCause.getLsbD 6 = true ∧ t.bk = s.bk)) ∧
    (s.hasTask k = true → s.task k = t0 → t0.rq.route = .mailbox 0 →
      (t0.opcode = 0x0E00 → t0.work = [.cone] → t0.fate = none → t0.reserved = false → t0.silent = false → t0.recomputed = false → s.bk.lock = 0 → coneAllowed s = true →
        exec (.drainComplete k) s = .next (respond 0x0E00 t0.rq stOk 0 [] { s with tasks := mapDel s.tasks k })) ∧
      (t0.work = [.cone] → coneAllowed s = false → exec (.drainComplete k) s = .next s) ∧
      (t0.work = [.drain ids] → drained t0 ids s = false → exec (.drainComplete k) s = .next s) ∧
      (t0.work = [.idle [u]] → busyNumber u s = true → exec (.drainComplete k) s = .next s)) ∧
    (p.up = true → a ≠ b → s.fabric.broken.contains (linkOf a b) = false → let n := mapGet 0 s.fabric.retries (linkKey a b);
      (∃ t, exec (.meshFlitError a b) s = .next t ∧ t = { s with fabric := { s.fabric with retries := t.fabric.retries } } ∧
        mapGet 0 t.fabric.retries (linkKey a b) = min 8 (n + 1)) ∧
      (n < 8 → exec (.meshLinkReroute a b) s = .next s) ∧
      (8 ≤ n → ∃ t, exec (.meshLinkReroute a b) s = .next t ∧ t.fabric.broken = s.fabric.broken ++ [linkOf a b] ∧
        mapGet 0 t.fabric.retries (linkKey a b) = 0 ∧ t.mem = s.mem)) ∧
    (s.fabric.broken.contains (linkOf a b) = true → exec (.meshLinkReroute a b) s = .next s) ∧
    (s.fabric.linkUp = true →
      (exec .d2dFlitError s = .next { s with fabric := { s.fabric with replays := min 4 (s.fabric.replays + 1) } }) ∧
      (4 ≤ s.fabric.replays → ∃ t, exec .d2dRetrain s = .next t ∧ t.fabric = { s.fabric with replays := 0 } ∧ t.health = { s.health with retrained := true } ∧ t.mem = s.mem) ∧
      (s.fabric.replays < 4 → exec .d2dRetrain s = .next s)) ∧
    (p.released = true → p.cone.toNat ≤ 2 →
      (∃ t, exec (.d2dLinkStart true) s = .next t ∧ t.fabric = { s.fabric with starts := s.fabric.starts + 1, linkUp := true, unpaired := false }) ∧
      (exec (.d2dLinkStart false) s = .next { s with fabric := { s.fabric with starts := s.fabric.starts + 1, linkUp := false, unpaired := true } })) ∧
    (p.released = false → exec (.d2dLinkStart m) s = .next s)

open Sys2Proof Sys2Proof.Machine Sys2Proof.Claims in
/-- ENTDAA and SETDASA give a port without an address one, SETNEWDA replaces it, RSTDAA drops it; in I3C mode GETPID, GETBCR,
GETDCR, GETSTATUS and GETMXDS answer 6, 1, 1, 2 and 2 bytes (the last two open values), ENEC and DISEC set and clear event
bits; without an address nothing answers. A packet for the part starts, continues or ends the assembly of its source and
tag; a wrong sequence drops the assembly, a packet for another endpoint changes nothing, one with a bad error code raises
event 318, a message the part does not handle is counted as dropped, and a control or SPDM request it does not support is
answered so (its code is the standard's, log entry 64). SET_ENDPOINT_ID sets the endpoint of its binding (0 and 0xFF are
refused, log entry 64); the other control commands report it, the UUID, version 1.3 and the message types. The VDM binding
and DOE are silent in L2. A DOE discovery answers, another protocol sets the error bit; an abort resets the DOE connection.
(R555, R556, R557, R558, R559, R567, 21_sideband.md) -/
def Obligations.TwoWirePortMctpAndDoeAnswerAsConfigured : Prop :=
  ∀ (a : BitVec 7) (ev e : BitVec 8) (vdm : Bool) (p : MctpPacket) (asm : Assembly) (vendor : BitVec 16) (type : BitVec 8) (body : List Byte) (s : State),
    let d := s.side
    let key := 8 * p.source.toNat + p.tag.toNat;
    (d.i3c = false →
      exec (.entdaa a) s = .next { s with side := { d with i3c := true, dynAddr := a } } ∧
      exec (.setdasa a) s = .next { s with side := { d with i3c := true, dynAddr := a } } ∧
      exec (.setnewda a) s = .next s ∧ exec .getpid s = .next s ∧ exec .getbcr s = .next s ∧ exec .getdcr s = .next s ∧
      exec (.enec ev) s = .next s ∧ exec (.disec ev) s = .next s ∧ ∃ t, exec .getstatus s = .next t ∧ t.out = s.out) ∧
    (d.i3c = true →
      exec (.entdaa a) s = .next s ∧ exec (.setdasa a) s = .next s ∧
      exec (.setnewda a) s = .next { s with side := { d with dynAddr := a } } ∧
      exec .getbcr s = .next { s with out := .i3cReply [0x06] :: s.out } ∧ exec .getdcr s = .next { s with out := .i3cReply [0x00] :: s.out } ∧
      (∃ bs, exec .getpid s = .next { s with out := .i3cReply bs :: s.out } ∧ bs.length = 6) ∧
      (∃ t bs, exec .getstatus s = .next t ∧ t.out = .i3cReply bs :: s.out ∧ bs.length = 2 ∧ t.side = d) ∧
      (∃ t bs, exec .getmxds s = .next t ∧ t.out = .i3cReply bs :: s.out ∧ bs.length = 2 ∧ t.side = d) ∧
      exec (.enec ev) s = .next { s with side := { d with events := d.events ||| ev } } ∧
      exec (.disec ev) s = .next { s with side := { d with events := d.events &&& ~~~ev } }) ∧
    (exec .rstdaa s = .next { s with side := { d with i3c := false, dynAddr := 0 } }) ∧
    (bindingUp vdm s = true → (vdm = true ∨ d.i3c = true ∨ p.pecGood = true) → p.dest = bindingEid vdm s ∨ p.dest = 0 →
      (p.som = true → p.eom = false → exec (.mctpPacket vdm p) s =
        .next (setAssemblies vdm (mapPut (assemblies vdm s) key { next := p.seq + 1, msgType := p.msgType, check := p.check, bytes := p.body }) s)) ∧
      (p.som = false → (assemblies vdm s).find? (fun x => x.1 == key) = some (key, asm) →
        (asm.next = p.seq → p.eom = false → exec (.mctpPacket vdm p) s =
          .next (setAssemblies vdm (mapPut (assemblies vdm s) key { asm with next := p.seq + 1, bytes := asm.bytes ++ p.body }) s)) ∧
        (asm.next = p.seq → p.eom = true → asm.check = false → asm.msgType = 0x7E → (asm.bytes ++ p.body).length < 4160 →
          exec (.mctpPacket vdm p) s = .next (setAssemblies vdm (mapDel (assemblies vdm s) key) s)) ∧
        (asm.next ≠ p.seq → exec (.mctpPacket vdm p) s = .next (setAssemblies vdm (mapDel (assemblies vdm s) key) s))) ∧
      (p.som = true → p.eom = true → p.check = false → p.msgType = 0 → 2 ≤ p.body.length → p.body.length < 4160 →
        128 ≤ leField p.body 0 1 → leField p.body 1 1 = 0 ∨ 5 < leField p.body 1 1 → exec (.mctpPacket vdm p) s =
          .next { setAssemblies vdm (mapDel (assemblies vdm s) key) s with out := .mctpControl vdm 5 [] :: s.out }) ∧
      (p.som = true → p.eom = true → p.msgType = 1 → ∃ t, exec (.mctpPacket vdm p) s = .next t ∧ mapGet asm (assemblies vdm t) key = asm ∧
        (d.drops ≠ 0xFFFFFFFF → t.side.drops = d.drops + 1))) ∧
    (bindingUp vdm s = true → (vdm = true ∨ d.i3c = true ∨ p.pecGood = true) → p.dest ≠ bindingEid vdm s → p.dest ≠ 0 → exec (.mctpPacket vdm p) s = .next s) ∧
    (d.i3c = false → p.pecGood = false → ∃ t, exec (.mctpPacket false p) s = .next t ∧ t.side = d ∧ t.mem = s.mem) ∧
    (bindingUp vdm s = true →
      (e ≠ 0 → e ≠ 0xFF → exec (.setEndpointId vdm e) s = .next { s with
        side := (if vdm then { d with eidVdm := e } else { d with eidWire := e }), out := .mctpControl vdm 0 [e] :: s.out }) ∧
      (e = 0 ∨ e = 0xFF → exec (.setEndpointId vdm e) s = .next { s with out := .mctpControl vdm 2 [] :: s.out }) ∧
      exec (.getEndpointId vdm) s = .next { s with out := .mctpControl vdm 0 [bindingEid vdm s] :: s.out } ∧
      (∃ u, exec (.getEndpointUuid vdm) s = .next { s with out := .mctpControl vdm 0 u :: s.out } ∧ u.length = 16) ∧
      exec (.getMctpVersionSupport vdm) s = .next { s with out := .mctpControl vdm 0 [1, 3] :: s.out } ∧
      exec (.getMessageTypeSupport vdm) s = .next { s with out := .mctpControl vdm 0 [0x00, 0x05, 0x7E] :: s.out }) ∧
    (s.hif.l2 = true → exec (.mctpPacket true p) s = .next s ∧ exec (.getEndpointId true) s = .next s ∧ exec (.doeObject vendor type body) s = .next s) ∧
    (s.hif.l2 = false →
      (body.length ≤ 4096 → leField body 0 1 = 0 → exec (.doeObject 1 0 body) s = .next { s with out := .doeDiscovery 1 0 1 :: s.out, side := { d with doeReady := true } }) ∧
      (body.length ≤ 4096 → leField body 0 1 = 1 → exec (.doeObject 1 0 body) s = .next { s with out := .doeDiscovery 1 1 0 :: s.out, side := { d with doeReady := true } }) ∧
      (body.length ≤ 4096 → leField body 1 1 < 128 ∨ spdmCodes.contains (leField body 1 1) = true → exec (.doeObject 1 1 body) s = .next s) ∧
      (body.length ≤ 4096 → 128 ≤ leField body 1 1 → spdmCodes.contains (leField body 1 1) = false → (s.conn .doe).serving = none →
        exec (.doeObject 1 1 body) s = .next { s with out := .spdm .doe (.error .unsupportedRequest) :: s.out, side := { d with doeReady := true } }) ∧
      (vendor ≠ 1 ∨ 1 < type.toNat ∨ 4096 < body.length → ∃ t, exec (.doeObject vendor type body) s = .next t ∧ t.side = { d with doeError := true } ∧ t.mem = s.mem)) ∧
    (∃ t, exec .doeAbort s = .next t ∧ t.side.doeReady = false ∧ t.side.doeError = false ∧ t.conn .doe = {} ∧ t.conn .wire = s.conn .wire ∧ t.mem = s.mem)

namespace Sys2Proof.Claims

open Sys2Proof.Machine

/-- A transport carries SPDM and its connection serves nothing. -/
def open_ (t : SpdmTransport) (s : State) : Bool := transportUp t s && (s.conn t).serving.isNone

/-- A response goes out on a transport, and its connection stands as given; nothing else of the connections changes. -/
def answers (t : SpdmTransport) (r : SpdmReply) (c : SpdmConn) (s v : State) : Prop :=
  v.out = .spdm t r :: s.out ∧ v.conn t = c ∧ v.mem = s.mem ∧ v.pwr = s.pwr ∧ v.tasks = s.tasks

end Sys2Proof.Claims

open Sys2Proof Sys2Proof.Machine Sys2Proof.Claims in
/-- On a transport that is up and not serving a signature: GET_VERSION answers 1.2 and 1.3 and resets the connection;
GET_CAPABILITIES and NEGOTIATE_ALGORITHMS take it one phase on, out of order they receive UnexpectedRequest, without P-384
and SHA-384 InvalidRequest. In cone 0 to 2 on a negotiated connection GET_DIGESTS and GET_CERTIFICATE answer where
certificates are on offer (an opaque match of the chain, log entry 6) and else UnsupportedRequest; CHALLENGE and signed
GET_MEASUREMENTS start a signature there; unsigned GET_MEASUREMENTS answer the block of an index from 1 to 9. In cone 3 and
4 a request is deferred with a new token and wakes the part, and RESPOND_IF_READY with the token answers it after the exit.
A busy transport receives Busy. With the vault powered the port loads SAMPLE, IDCODE, BYPASS and the ball instructions, and
COMPUTE_TAP and VAULT_TAP with their right; without it BYPASS is selected. TRST_N selects IDCODE. (R486, R560, R561, R562,
R563, R564, R565, R566, R568, R569, 21_sideband.md) -/
def Obligations.SpdmAnswersByConnectionAndTheTapByItsRights : Prop :=
  ∀ (tr : SpdmTransport) (slot summary token index : BitVec 8) (off len : BitVec 16) (nonce request : List Byte) (ask : SpdmAsk) (s : State), let c := s.conn tr
    (open_ tr s = true →
      (∃ v, exec (.getVersion tr request) s = .next v ∧ (v.conn tr).phase = .versioned ∧ (v.conn tr).deferred = none ∧
        v.out = .spdm tr (.version [0x12, 0x13]) :: s.out ∧ v.mem = s.mem) ∧
      (c.phase = .versioned → ∃ v, exec (.getCapabilities tr request) s = .next v ∧ (v.conn tr).phase = .capable ∧
        v.out = .spdm tr (.capabilities 12 (certified s) (if certified s then 2 else 1) true 4096) :: s.out ∧ v.mem = s.mem) ∧
      (c.phase ≠ .versioned → ∃ v, exec (.getCapabilities tr request) s = .next v ∧ answers tr (.error .unexpectedRequest) c s v) ∧
      (c.phase = .capable → (∃ v, exec (.negotiateAlgorithms tr true true request) s = .next v ∧ (v.conn tr).phase = .negotiated ∧
          v.out = .spdm tr .algorithms :: s.out) ∧
        (∃ v, exec (.negotiateAlgorithms tr false true request) s = .next v ∧ answers tr (.error .invalidRequest) c s v)) ∧
      (c.phase ≠ .capable → ∃ v, exec (.negotiateAlgorithms tr true true request) s = .next v ∧ answers tr (.error .unexpectedRequest) c s v) ∧
      (c.phase = .negotiated → s.pwr.cone.toNat < 3 →
        (if certified s = true then
          (∃ v h, exec (.getDigests tr request) s = .next v ∧ v.out = .spdm tr (.digests 1 h) :: s.out ∧ (v.conn tr).opening = c.opening) ∧
          (slot = 0 → off.toNat < s.chain.length → ∃ v, exec (.getCertificate tr slot off len request) s = .next v ∧ let part := (s.chain.drop off.toNat).take len.toNat
            v.out = .spdm tr (.certificate 0 part (s.chain.length - off.toNat - part.length)) :: s.out) ∧
          (s.chain.length ≤ off.toNat → ∃ v, exec (.getCertificate tr slot off len request) s = .next v ∧ answers tr (.error .invalidRequest) c s v) ∧
          (slot = 0 → summary = 0xFF → ∃ v, exec (.challenge tr slot summary nonce request) s = .next v ∧
            (v.conn tr).serving = some (.challenge slot summary nonce request)) ∧
          (1 ≤ index.toNat → index.toNat ≤ 9 → ∃ v, exec (.getMeasurements tr index true nonce request) s = .next v ∧
            (v.conn tr).serving = some (.measurements index true nonce request))
        else
          (∃ v, exec (.getDigests tr request) s = .next v ∧ answers tr (.error .unsupportedRequest) c s v) ∧
          (∃ v, exec (.getCertificate tr slot off len request) s = .next v ∧ answers tr (.error .unsupportedRequest) c s v) ∧
          (∃ v, exec (.challenge tr slot summary nonce request) s = .next v ∧ answers tr (.error .unsupportedRequest) c s v)) ∧
        (1 ≤ index.toNat → index.toNat ≤ 9 → ∃ v n, exec (.getMeasurements tr index false nonce request) s = .next v ∧
          v.out = .spdm tr (.measurements [(index.toNat, (measurement index.toNat s).1, (measurement index.toNat s).2)] n []) :: s.out ∧ n.length = 32 ∧ v.mem = s.mem) ∧
        (index = 0 ∨ 9 < index.toNat ∧ index ≠ 0xFF → ∃ v, exec (.getMeasurements tr index false nonce request) s = .next v ∧
          answers tr (.error .invalidRequest) c s v)) ∧
      (3 ≤ s.pwr.cone.toNat → s.pwr.moving = false → ∃ v, exec (.getDigests tr request) s = .next v ∧ v.pwr.moving = true ∧ v.pwr.leaving = true ∧
        (v.conn tr).deferred = some (c.tokens + 1, .digests request) ∧
        v.out = .spdm tr (.error (.notReady (if s.pwr.cone = 3 then 12 else 16) 2 (c.tokens + 1))) :: s.out) ∧
      (c.deferred = none → ∃ v, exec (.respondIfReady tr token) s = .next v ∧ answers tr (.error .unexpectedRequest) c s v) ∧
      (c.deferred = some (token, ask) → c.phase ≠ .negotiated → s.pwr.cone.toNat < 3 → ∃ v, exec (.respondIfReady tr token) s = .next v ∧
        answers tr (.error .unexpectedRequest) { c with deferred := none } s v) ∧
      (c.deferred = some (token, .measurements 1 false nonce request) → c.phase = .negotiated → s.pwr.cone.toNat < 3 →
        ∃ v n, exec (.respondIfReady tr token) s = .next v ∧ (v.conn tr).deferred = none ∧
          v.out = .spdm tr (.measurements [(1, (measurement 1 s).1, (measurement 1 s).2)] n []) :: s.out)) ∧
    (transportUp tr s = true → c.serving.isSome = true → ∃ v, exec (.getVersion tr request) s = .next v ∧ answers tr (.error .busy) c s v) ∧
    (s.sup.vddVault = true →
      (∃ v, exec .samplePreload s = .next v ∧ v.side.ir = 0x01 ∧ v.out = s.out ∧ v.mem = s.mem) ∧
      (∃ v, exec .idcode s = .next v ∧ v.side.ir = 0x02 ∧ v.out = .tapValue 32 Machine.idcode :: s.out ∧ v.mem = s.mem) ∧
      (∃ v, exec .bypass s = .next v ∧ v.side.ir = 0xFF ∧ v.out = .tapValue 1 0 :: s.out ∧ v.mem = s.mem) ∧
      (s.hif.linkUp = false → (∃ v, exec .extest s = .next v ∧ v.side.ir = 0x00 ∧ v.vault = s.vault) ∧ (∃ v, exec .clamp s = .next v ∧ v.side.ir = 0x03 ∧ v.vault = s.vault) ∧
        (∃ v, exec .highz s = .next v ∧ v.side.ir = 0x04 ∧ v.vault = s.vault)) ∧
      (s.lcs.isOpen = true → s.lcs.rights.getLsbD 0 = true → ∃ v, exec .computeTap s = .next v ∧ v.side.ir = 0x20 ∧ v.mem = s.mem) ∧
      (s.lcs.isOpen = true → s.lcs.rights.getLsbD 1 = true → ∃ v, exec .vaultTap s = .next v ∧ v.side.ir = 0x21 ∧ v.mem = s.mem) ∧
      (s.lcs.isOpen = false → (∃ v, exec .computeTap s = .next v ∧ v.side.ir = 0xFF ∧ v.mem = s.mem) ∧ (∃ v, exec .vaultTap s = .next v ∧ v.side.ir = 0xFF ∧ v.mem = s.mem))) ∧
    (∃ v, exec .trstN s = .next v ∧ v.side.ir = 0x02 ∧ v.out = s.out ∧ v.hif = s.hif ∧ v.mem = s.mem)

open Sys2Proof Sys2Proof.Machine Sys2Proof.Claims in
/-- For every command c and state, step with c at the front of the queue is exec of c on the state with the queue's rest. With
an empty queue step answers a next state in which the always-on timebase is one count on and nothing else changed (that the
idle step is one tick is the model's choice, log entry 8). Every command of the table, with every operand, answers a next
state in every state. No word spells a command, for the table gives its rows no bits, and the words change nothing of the
queue. (R88, 01_architecture.md) -/
def Obligations.StepRunsTheFrontCommandOrLetsTheTimebaseTick : Prop :=
  (∀ (c : Instr) (rest : List Instr) (s : State), step { s with pending := c :: rest } = exec c { s with pending := rest }) ∧
    (∀ s : State, s.pending = [] → step s = .next { s with pwr := { s.pwr with aon := s.pwr.aon + 1 } }) ∧
    (∀ (c : Instr) (s : State), ∃ t, exec c s = .next t) ∧
    (∀ (nbits w : Nat) (s : State), decodeTableWord nbits w = none ∧ s.withFetchWord nbits w = s)

open Sys2Proof Sys2Proof.Machine Sys2Proof.Claims in
/-- After reset the queue, the log of events, the tasks, jobs, keys, sessions and saggars are empty, the compute die is not up
and stands in cone 0, every queue pair and mailbox is at its reset value with CAUSE 0 and no command, the lock state is 2
with the backup content lost and the detector classes of R447, CONE_RST_CAUSE reads 1, the setpoint 750 mV with limits 850
and 680, the floor 40 and the reserve two clusters and two lanes, the entropy source is in state 0 with no pair failed, the
tag holds PC word 0x4400 and no password, the test access port holds IDCODE, the port no address, and memory lists nothing.
Which lanes are spare, cores stopped until their reset and values the spec leaves open are the model's (log entries 2, 3 and
4). (R88, R92, R98, R206, R213, R391, R447, R461, R474, R516, R555, 22_modes_service.md) -/
def Obligations.ResetLeavesTheStatedValues : Prop :=
  let s := State.reset;
    s.pending = [] ∧ s.out = [] ∧ s.tasks = [] ∧ s.jobs = [] ∧ s.vault.keys = [] ∧ s.vault.sessions = [] ∧ s.vault.saggars = [] ∧ s.evr.log = [] ∧
      s.mem = [] ∧ Memory.wf s.mem ∧ s.pwr.up = false ∧ s.pwr.released = false ∧ s.pwr.cone = 0 ∧ s.pwr.moving = false ∧ s.pwr.commit = none ∧
      s.pwr.rstCause = 1 ∧ s.pwr.setpoint = 750 ∧ s.pwr.high = 850 ∧ s.pwr.low = 680 ∧ s.pwr.floor = 40 ∧ s.pwr.clusters = 2 ∧ s.pwr.lanes = 2 ∧
      s.pwr.aon = 0 ∧ s.pwr.throttle = 0 ∧ (∀ q, q < 4096 → (s.qp q).state = 0 ∧ (s.qp q).cause = 0 ∧ (s.qp q).assigned = false) ∧
      (∀ f, f < 64 → (s.box f).state = 0 ∧ (s.box f).overrun = false) ∧ (∀ c, (s.core c).running = false ∧ (s.core c).armed = false) ∧
      s.bk.lock = 2 ∧ s.bk.lost = true ∧ s.bk.lockseq = 0 ∧ s.bk.seed = [] ∧ s.bk.classes = 0x1AAA455 ∧ s.bk.latch = 0 ∧ s.ent.state = 0 ∧
      s.ent.failed = 0 ∧ s.flash.mem = [] ∧ s.flash.prog = none ∧ s.tal.timeSet = false ∧ s.msub.trained = 0 ∧ s.tag.password = 0 ∧
      tagWord s.tag 1 1 = 0x4400 ∧ s.cards.isOpen = false ∧ s.side.i3c = false ∧ s.side.ir = 2 ∧ s.side.drops = 0 ∧ s.fabric.linkUp = false

open Sys2Proof Sys2Proof.Machine Sys2Proof.Claims in
/-- For every state whose internal memory is in canonical form (addresses strictly rising, no listed byte equal to what an
unlisted one reads as), whichever command stands at the front of the queue or with none, the next state has its memory in
canonical form: stores and stack words of the cores, raw operations and loads into crucible memory, wipes, scrubs of service
cores and resets keep it, and every other command leaves it. The canonical form is the model's representation (log entry 7).
(R11, 01_architecture.md, 04_thrower_isa.md) -/
def Obligations.EveryStepKeepsTheMemoryInCanonicalForm : Prop :=
  ∀ s t : State, Memory.wf s.mem → step s = .next t → Memory.wf t.mem
end

