-- ==== Sys2Proof/Laws/Depepa.lean ====
section
/-! SUPPORT. What running a command can do: one lemma for each way a request ends (R162-R180). -/

namespace Sys2Proof.Machine

variable {c : CmdSpec} {rq : Req} {body : State → CmdRes} {s n : State}

/-- A request that is not taken up leaves the state its route gives. -/
theorem runCommand_ignored (h : takeUp c.opcode rq s = (n, false)) : runCommand c rq body s = n := by
  simp [runCommand, h]

/-- A request that a check of R179 refuses completes with that check's status, and its body does not run. -/
theorem runCommand_refused {st : Nat} (h : takeUp c.opcode rq s = (n, true)) (hc : preCheck c rq n = some st) :
    runCommand c rq body s = respond c.opcode rq st 0 [] (dropReservation rq n) := by
  simp [runCommand, h, hc]

/-- A command whose body completes delivers its response. -/
theorem runCommand_done {st det : Nat} {p : List Byte} {u : State} (h : takeUp c.opcode rq s = (n, true))
    (hc : preCheck c rq n = none) (hb : body n = .done st det p u) :
    runCommand c rq body s = respond c.opcode rq st det p (dropReservation rq u) := by
  simp [runCommand, h, hc, hb]

/-- A command whose body waits stays in progress. -/
theorem runCommand_wait {t : Task} {u : State} (h : takeUp c.opcode rq s = (n, true)) (hc : preCheck c rq n = none)
    (hb : body n = .wait t u) :
    runCommand c rq body s = addTask { t with
      opcode := BitVec.ofNat 16 c.opcode, rq, reserved := match rq.route with | .queue _ _ => true | _ => false } u := by
  unfold runCommand
  rw [h]
  simp only [hc, hb] <;> rfl

end Sys2Proof.Machine
end

