-- ==== Sys2Proof/Laws/Map.lean ====
section
/-! SUPPORT. The laws of sparse maps and of memories: read after write, and that every operation keeps the canonical form. -/

namespace Sys2Proof.Machine

variable {α : Type}

/-! ### Read after write -/

theorem mapGet_mapDel_self (d : α) (m : FMap α) (k : Nat) : mapGet d (mapDel m k) k = d := by
  induction m with
  | nil => rfl
  | cons e m ih =>
    obtain ⟨j, v⟩ := e
    by_cases h : j = k <;> simp [mapDel, mapGet, h, ih]

theorem mapGet_mapDel_ne (d : α) (m : FMap α) {k x : Nat} (h : x ≠ k) : mapGet d (mapDel m k) x = mapGet d m x := by
  induction m with
  | nil => rfl
  | cons e m ih =>
    obtain ⟨j, v⟩ := e
    by_cases hj : j = k
    · subst hj; simp [mapDel, mapGet, ih, Ne.symm h]
    · by_cases hx : j = x
      · subst hx; simp [mapDel, mapGet, hj]
      · simp [mapDel, mapGet, hj, hx, ih]

theorem mapGet_mapPut_self (d : α) (m : FMap α) (k : Nat) (v : α) : mapGet d (mapPut m k v) k = v := by
  induction m with
  | nil => simp [mapPut, mapGet]
  | cons e m ih =>
    obtain ⟨j, w⟩ := e
    rcases Nat.lt_trichotomy k j with h | h | h
    · simp [mapPut, mapGet, h]
    · simp [mapPut, mapGet, h]
    · have h1 : ¬ k < j := by omega
      have h2 : ¬ k = j := by omega
      have h3 : ¬ j = k := by omega
      simp [mapPut, mapGet, h1, h2, h3, ih]

theorem mapGet_mapPut_ne (d : α) (m : FMap α) {k x : Nat} (v : α) (h : x ≠ k) :
    mapGet d (mapPut m k v) x = mapGet d m x := by
  induction m with
  | nil => simp [mapPut, mapGet, Ne.symm h]
  | cons e m ih =>
    obtain ⟨j, w⟩ := e
    rcases Nat.lt_trichotomy k j with g | g | g
    · simp [mapPut, mapGet, g, Ne.symm h]
    · subst g; simp [mapPut, mapGet, Ne.symm h]
    · have h1 : ¬ k < j := by omega
      have h2 : ¬ k = j := by omega
      simp [mapPut, mapGet, h1, h2, ih]

variable [DecidableEq α]

@[simp] theorem mapGet_mapSet_self (d : α) (m : FMap α) (k : Nat) (v : α) : mapGet d (mapSet d m k v) k = v := by
  by_cases h : v = d
  · simp [mapSet, h, mapGet_mapDel_self]
  · simp [mapSet, h, mapGet_mapPut_self]

theorem mapGet_mapSet_ne (d : α) (m : FMap α) {k x : Nat} (v : α) (h : x ≠ k) :
    mapGet d (mapSet d m k v) x = mapGet d m x := by
  by_cases g : v = d
  · simp [mapSet, g, mapGet_mapDel_ne d m h]
  · simp [mapSet, g, mapGet_mapPut_ne d m v h]

theorem mapGet_mapSet (d : α) (m : FMap α) (k x : Nat) (v : α) :
    mapGet d (mapSet d m k v) x = if x = k then v else mapGet d m x := by
  by_cases h : x = k
  · subst h; simp
  · simp [h, mapGet_mapSet_ne d m v h]

/-! ### The canonical form -/

theorem mapWfFrom_weaken (d : α) {b c : Nat} (m : FMap α) (h : c ≤ b) (w : mapWfFrom d (some b) m = true) :
    mapWfFrom d (some c) m = true := by
  cases m with
  | nil => rfl
  | cons e m =>
    obtain ⟨j, v⟩ := e
    simp only [mapWfFrom, Bool.and_eq_true, decide_eq_true_eq] at w ⊢
    exact ⟨⟨by omega, w.1.2⟩, w.2⟩

theorem mapWfFrom_none (d : α) {b : Nat} (m : FMap α) (w : mapWfFrom d (some b) m = true) : mapWfFrom d none m = true := by
  cases m with
  | nil => rfl
  | cons e m =>
    obtain ⟨j, v⟩ := e
    simp only [mapWfFrom, Bool.and_eq_true, decide_eq_true_eq] at w ⊢
    exact ⟨⟨trivial, w.1.2⟩, w.2⟩

/-- A bound below every listed number. -/
def lowOk : Option Nat → Nat → Prop
  | none, _ => True
  | some b, k => b < k

theorem mapWfFrom_cons (d : α) (lo : Option Nat) (j : Nat) (v : α) (m : FMap α) :
    mapWfFrom d lo ((j, v) :: m) = true ↔ lowOk lo j ∧ v ≠ d ∧ mapWfFrom d (some j) m = true := by
  cases lo <;> simp [mapWfFrom, lowOk, and_assoc]

theorem mapDel_wf (d : α) (lo : Option Nat) (m : FMap α) (k : Nat) (w : mapWfFrom d lo m = true) :
    mapWfFrom d lo (mapDel m k) = true := by
  induction m generalizing lo with
  | nil => exact w
  | cons e m ih =>
    obtain ⟨j, v⟩ := e
    rw [mapWfFrom_cons] at w
    by_cases h : j = k
    · simp only [mapDel, h, if_true]
      cases lo with
      | none => exact mapWfFrom_none d (b := j) _ (h ▸ ih (some j) w.2.2)
      | some b => exact mapWfFrom_weaken d (b := j) _ (Nat.le_of_lt w.1) (h ▸ ih (some j) w.2.2)
    · simp only [mapDel, h, if_false]
      exact (mapWfFrom_cons ..).2 ⟨w.1, w.2.1, ih (some j) w.2.2⟩

theorem mapPut_wf (d : α) (lo : Option Nat) (m : FMap α) (k : Nat) (v : α) (hv : v ≠ d) (hk : lowOk lo k)
    (w : mapWfFrom d lo m = true) : mapWfFrom d lo (mapPut m k v) = true := by
  induction m generalizing lo with
  | nil => exact (mapWfFrom_cons ..).2 ⟨hk, hv, rfl⟩
  | cons e m ih =>
    obtain ⟨j, u⟩ := e
    have w' := (mapWfFrom_cons ..).1 w
    rcases Nat.lt_trichotomy k j with h | h | h
    · simp only [mapPut, h, if_true]
      exact (mapWfFrom_cons ..).2 ⟨hk, hv, (mapWfFrom_cons ..).2 ⟨h, w'.2⟩⟩
    · subst h
      simp only [mapPut, Nat.lt_irrefl, if_false, if_true]
      exact (mapWfFrom_cons ..).2 ⟨hk, hv, w'.2.2⟩
    · have h1 : ¬ k < j := by omega
      have h2 : ¬ k = j := by omega
      simp only [mapPut, h1, h2, if_false]
      exact (mapWfFrom_cons ..).2 ⟨w'.1, w'.2.1, ih (some j) h w'.2.2⟩

theorem mapSet_wf (d : α) (m : FMap α) (k : Nat) (v : α) (w : mapWf d m = true) : mapWf d (mapSet d m k v) = true := by
  by_cases h : v = d
  · simp only [mapSet, h, if_true]; exact mapDel_wf d none m k w
  · simp only [mapSet, h, if_false]; exact mapPut_wf d none m k v h trivial w

theorem mapMod_wf (d : α) (m : FMap α) (k : Nat) (f : α → α) (w : mapWf d m = true) : mapWf d (mapMod d m k f) = true :=
  mapSet_wf d m k _ w

theorem mapAll_wf (d : α) (lo : Option Nat) (f : Nat → α → α) (m : FMap α) (w : mapWfFrom d lo m = true) :
    mapWfFrom d lo (mapAll d f m) = true := by
  induction m generalizing lo with
  | nil => exact w
  | cons e m ih =>
    obtain ⟨j, v⟩ := e
    have w' := (mapWfFrom_cons ..).1 w
    by_cases h : f j v = d
    · simp only [mapAll, h, if_true]
      apply mapDel_wf
      cases lo with
      | none => exact mapWfFrom_none d _ (ih (some j) w'.2.2)
      | some b => exact mapWfFrom_weaken d _ (Nat.le_of_lt w'.1) (ih (some j) w'.2.2)
    · simp only [mapAll, h, if_false]
      exact (mapWfFrom_cons ..).2 ⟨w'.1, h, ih (some j) w'.2.2⟩

/-- Every number has the image of its value, where the default is a fixed point. -/
theorem mapGet_mapAll (d : α) (f : Nat → α → α) (hd : ∀ j, f j d = d) (m : FMap α) (k : Nat) :
    mapGet d (mapAll d f m) k = f k (mapGet d m k) := by
  induction m with
  | nil => simp [mapAll, mapGet, hd]
  | cons e m ih =>
    obtain ⟨j, v⟩ := e
    by_cases hj : j = k
    · subst hj
      by_cases h : f j v = d
      · simp [mapAll, mapGet, h, mapGet_mapDel_self]
      · simp [mapAll, mapGet, h]
    · by_cases h : f j v = d
      · simp [mapAll, mapGet, h, hj, mapGet_mapDel_ne d _ (Ne.symm hj), ih]
      · simp [mapAll, mapGet, h, hj, ih]

/-! ### Memory -/

theorem memWrite_wf (d : Byte) (m : FMap Byte) (a : Nat) (bs : List Byte) (w : mapWf d m = true) :
    mapWf d (memWrite d m a bs) = true := by
  induction bs generalizing m a with
  | nil => exact w
  | cons b bs ih => exact ih _ _ (mapSet_wf d m a b w)

theorem mapFilter_wf (d : α) (lo : Option Nat) (m : FMap α) (p : Nat × α → Bool) (w : mapWfFrom d lo m = true) :
    mapWfFrom d lo (m.filter p) = true := by
  induction m generalizing lo with
  | nil => exact w
  | cons e m ih =>
    obtain ⟨j, v⟩ := e
    have w' := (mapWfFrom_cons ..).1 w
    by_cases h : p (j, v) = true
    · rw [List.filter_cons_of_pos h]
      exact (mapWfFrom_cons ..).2 ⟨w'.1, w'.2.1, ih (some j) w'.2.2⟩
    · rw [List.filter_cons_of_neg h]
      cases lo with
      | none => exact mapWfFrom_none d _ (ih (some j) w'.2.2)
      | some b => exact mapWfFrom_weaken d _ (Nat.le_of_lt w'.1) (ih (some j) w'.2.2)

theorem memClear_wf (d : Byte) (m : FMap Byte) (lo hi : Nat) (w : mapWf d m = true) : mapWf d (memClear m lo hi) = true :=
  mapFilter_wf d none m _ w

theorem mapGet_memWrite (d : Byte) (m : FMap Byte) (a x : Nat) (bs : List Byte) (h : x < a ∨ a + bs.length ≤ x) :
    mapGet d (memWrite d m a bs) x = mapGet d m x := by
  induction bs generalizing m a with
  | nil => rfl
  | cons b bs ih =>
    simp only [List.length_cons] at h
    rw [memWrite, ih _ _ (by omega), mapGet_mapSet_ne d m b (by omega)]

theorem memRead_memWrite (d : Byte) (m : FMap Byte) (a : Nat) (bs : List Byte) :
    memRead d (memWrite d m a bs) a bs.length = bs := by
  induction bs generalizing m a with
  | nil => rfl
  | cons b bs ih =>
    simp only [List.length_cons, memRead, memWrite]
    rw [ih, mapGet_memWrite d _ _ _ _ (by omega), mapGet_mapSet_self]

@[simp] theorem leBytes_length (n v : Nat) : (leBytes n v).length = n := by
  induction n generalizing v with
  | zero => rfl
  | succ n ih => simp [leBytes, ih]

end Sys2Proof.Machine
end

