-- ==== Sys2Proof/Laws/State.lean ====
section
/-! SUPPORT. What each update of State leaves as it was, field by field, and what it puts in place. Every lemma is true by rfl
or by the laws of maps. -/

namespace Sys2Proof.Machine

variable (s : State)

/-! ### setCore -/

@[simp] theorem State.setCore_pending (c : CoreId) (k : Thrower) : (s.setCore c k).pending = s.pending := rfl
@[simp] theorem State.setCore_freeCtr (c : CoreId) (k : Thrower) : (s.setCore c k).freeCtr = s.freeCtr := rfl
@[simp] theorem State.setCore_out (c : CoreId) (k : Thrower) : (s.setCore c k).out = s.out := rfl
@[simp] theorem State.setCore_mem (c : CoreId) (k : Thrower) : (s.setCore c k).mem = s.mem := rfl
@[simp] theorem State.setCore_cru (c : CoreId) (k : Thrower) : (s.setCore c k).cru = s.cru := rfl
@[simp] theorem State.setCore_roles (c : CoreId) (k : Thrower) : (s.setCore c k).roles = s.roles := rfl
@[simp] theorem State.setCore_arr (c : CoreId) (k : Thrower) : (s.setCore c k).arr = s.arr := rfl
@[simp] theorem State.setCore_lanes (c : CoreId) (k : Thrower) : (s.setCore c k).lanes = s.lanes := rfl
@[simp] theorem State.setCore_ent (c : CoreId) (k : Thrower) : (s.setCore c k).ent = s.ent := rfl
@[simp] theorem State.setCore_flash (c : CoreId) (k : Thrower) : (s.setCore c k).flash = s.flash := rfl
@[simp] theorem State.setCore_health (c : CoreId) (k : Thrower) : (s.setCore c k).health = s.health := rfl
@[simp] theorem State.setCore_tokenWait (c : CoreId) (k : Thrower) : (s.setCore c k).tokenWait = s.tokenWait := rfl
@[simp] theorem State.setCore_hif (c : CoreId) (k : Thrower) : (s.setCore c k).hif = s.hif := rfl
@[simp] theorem State.setCore_tasks (c : CoreId) (k : Thrower) : (s.setCore c k).tasks = s.tasks := rfl
@[simp] theorem State.setCore_jobs (c : CoreId) (k : Thrower) : (s.setCore c k).jobs = s.jobs := rfl
@[simp] theorem State.setCore_taskIds (c : CoreId) (k : Thrower) : (s.setCore c k).taskIds = s.taskIds := rfl
@[simp] theorem State.setCore_jobIds (c : CoreId) (k : Thrower) : (s.setCore c k).jobIds = s.jobIds := rfl
@[simp] theorem State.setCore_vault (c : CoreId) (k : Thrower) : (s.setCore c k).vault = s.vault := rfl
@[simp] theorem State.setCore_bk (c : CoreId) (k : Thrower) : (s.setCore c k).bk = s.bk := rfl
@[simp] theorem State.setCore_cards (c : CoreId) (k : Thrower) : (s.setCore c k).cards = s.cards := rfl
@[simp] theorem State.setCore_tag (c : CoreId) (k : Thrower) : (s.setCore c k).tag = s.tag := rfl
@[simp] theorem State.setCore_sup (c : CoreId) (k : Thrower) : (s.setCore c k).sup = s.sup := rfl
@[simp] theorem State.setCore_pins (c : CoreId) (k : Thrower) : (s.setCore c k).pins = s.pins := rfl
@[simp] theorem State.setCore_pwr (c : CoreId) (k : Thrower) : (s.setCore c k).pwr = s.pwr := rfl
@[simp] theorem State.setCore_fabric (c : CoreId) (k : Thrower) : (s.setCore c k).fabric = s.fabric := rfl
@[simp] theorem State.setCore_lcs (c : CoreId) (k : Thrower) : (s.setCore c k).lcs = s.lcs := rfl
@[simp] theorem State.setCore_tal (c : CoreId) (k : Thrower) : (s.setCore c k).tal = s.tal := rfl
@[simp] theorem State.setCore_msub (c : CoreId) (k : Thrower) : (s.setCore c k).msub = s.msub := rfl
@[simp] theorem State.setCore_evr (c : CoreId) (k : Thrower) : (s.setCore c k).evr = s.evr := rfl
@[simp] theorem State.setCore_bst (c : CoreId) (k : Thrower) : (s.setCore c k).bst = s.bst := rfl
@[simp] theorem State.setCore_upd (c : CoreId) (k : Thrower) : (s.setCore c k).upd = s.upd := rfl
@[simp] theorem State.setCore_side (c : CoreId) (k : Thrower) : (s.setCore c k).side = s.side := rfl
@[simp] theorem State.core_setCore (c : CoreId) (k : Thrower) : (s.setCore c k).core c = k := by simp [State.setCore, State.core]

/-! ### setCrucible -/

@[simp] theorem State.setCrucible_pending (n : Nat) (x : Crucible) : (s.setCrucible n x).pending = s.pending := rfl
@[simp] theorem State.setCrucible_freeCtr (n : Nat) (x : Crucible) : (s.setCrucible n x).freeCtr = s.freeCtr := rfl
@[simp] theorem State.setCrucible_out (n : Nat) (x : Crucible) : (s.setCrucible n x).out = s.out := rfl
@[simp] theorem State.setCrucible_mem (n : Nat) (x : Crucible) : (s.setCrucible n x).mem = s.mem := rfl
@[simp] theorem State.setCrucible_cores (n : Nat) (x : Crucible) : (s.setCrucible n x).cores = s.cores := rfl
@[simp] theorem State.setCrucible_roles (n : Nat) (x : Crucible) : (s.setCrucible n x).roles = s.roles := rfl
@[simp] theorem State.setCrucible_arr (n : Nat) (x : Crucible) : (s.setCrucible n x).arr = s.arr := rfl
@[simp] theorem State.setCrucible_lanes (n : Nat) (x : Crucible) : (s.setCrucible n x).lanes = s.lanes := rfl
@[simp] theorem State.setCrucible_ent (n : Nat) (x : Crucible) : (s.setCrucible n x).ent = s.ent := rfl
@[simp] theorem State.setCrucible_flash (n : Nat) (x : Crucible) : (s.setCrucible n x).flash = s.flash := rfl
@[simp] theorem State.setCrucible_health (n : Nat) (x : Crucible) : (s.setCrucible n x).health = s.health := rfl
@[simp] theorem State.setCrucible_tokenWait (n : Nat) (x : Crucible) : (s.setCrucible n x).tokenWait = s.tokenWait := rfl
@[simp] theorem State.setCrucible_hif (n : Nat) (x : Crucible) : (s.setCrucible n x).hif = s.hif := rfl
@[simp] theorem State.setCrucible_tasks (n : Nat) (x : Crucible) : (s.setCrucible n x).tasks = s.tasks := rfl
@[simp] theorem State.setCrucible_jobs (n : Nat) (x : Crucible) : (s.setCrucible n x).jobs = s.jobs := rfl
@[simp] theorem State.setCrucible_taskIds (n : Nat) (x : Crucible) : (s.setCrucible n x).taskIds = s.taskIds := rfl
@[simp] theorem State.setCrucible_jobIds (n : Nat) (x : Crucible) : (s.setCrucible n x).jobIds = s.jobIds := rfl
@[simp] theorem State.setCrucible_vault (n : Nat) (x : Crucible) : (s.setCrucible n x).vault = s.vault := rfl
@[simp] theorem State.setCrucible_bk (n : Nat) (x : Crucible) : (s.setCrucible n x).bk = s.bk := rfl
@[simp] theorem State.setCrucible_cards (n : Nat) (x : Crucible) : (s.setCrucible n x).cards = s.cards := rfl
@[simp] theorem State.setCrucible_tag (n : Nat) (x : Crucible) : (s.setCrucible n x).tag = s.tag := rfl
@[simp] theorem State.setCrucible_sup (n : Nat) (x : Crucible) : (s.setCrucible n x).sup = s.sup := rfl
@[simp] theorem State.setCrucible_pins (n : Nat) (x : Crucible) : (s.setCrucible n x).pins = s.pins := rfl
@[simp] theorem State.setCrucible_pwr (n : Nat) (x : Crucible) : (s.setCrucible n x).pwr = s.pwr := rfl
@[simp] theorem State.setCrucible_fabric (n : Nat) (x : Crucible) : (s.setCrucible n x).fabric = s.fabric := rfl
@[simp] theorem State.setCrucible_lcs (n : Nat) (x : Crucible) : (s.setCrucible n x).lcs = s.lcs := rfl
@[simp] theorem State.setCrucible_tal (n : Nat) (x : Crucible) : (s.setCrucible n x).tal = s.tal := rfl
@[simp] theorem State.setCrucible_msub (n : Nat) (x : Crucible) : (s.setCrucible n x).msub = s.msub := rfl
@[simp] theorem State.setCrucible_evr (n : Nat) (x : Crucible) : (s.setCrucible n x).evr = s.evr := rfl
@[simp] theorem State.setCrucible_bst (n : Nat) (x : Crucible) : (s.setCrucible n x).bst = s.bst := rfl
@[simp] theorem State.setCrucible_upd (n : Nat) (x : Crucible) : (s.setCrucible n x).upd = s.upd := rfl
@[simp] theorem State.setCrucible_side (n : Nat) (x : Crucible) : (s.setCrucible n x).side = s.side := rfl
@[simp] theorem State.crucible_setCrucible (n : Nat) (x : Crucible) : (s.setCrucible n x).crucible n = x := by simp [State.setCrucible, State.crucible]

/-! ### setFn -/

@[simp] theorem State.setFn_pending (f : Nat) (x : HostFn) : (s.setFn f x).pending = s.pending := rfl
@[simp] theorem State.setFn_freeCtr (f : Nat) (x : HostFn) : (s.setFn f x).freeCtr = s.freeCtr := rfl
@[simp] theorem State.setFn_out (f : Nat) (x : HostFn) : (s.setFn f x).out = s.out := rfl
@[simp] theorem State.setFn_mem (f : Nat) (x : HostFn) : (s.setFn f x).mem = s.mem := rfl
@[simp] theorem State.setFn_cores (f : Nat) (x : HostFn) : (s.setFn f x).cores = s.cores := rfl
@[simp] theorem State.setFn_cru (f : Nat) (x : HostFn) : (s.setFn f x).cru = s.cru := rfl
@[simp] theorem State.setFn_roles (f : Nat) (x : HostFn) : (s.setFn f x).roles = s.roles := rfl
@[simp] theorem State.setFn_arr (f : Nat) (x : HostFn) : (s.setFn f x).arr = s.arr := rfl
@[simp] theorem State.setFn_lanes (f : Nat) (x : HostFn) : (s.setFn f x).lanes = s.lanes := rfl
@[simp] theorem State.setFn_ent (f : Nat) (x : HostFn) : (s.setFn f x).ent = s.ent := rfl
@[simp] theorem State.setFn_flash (f : Nat) (x : HostFn) : (s.setFn f x).flash = s.flash := rfl
@[simp] theorem State.setFn_health (f : Nat) (x : HostFn) : (s.setFn f x).health = s.health := rfl
@[simp] theorem State.setFn_tokenWait (f : Nat) (x : HostFn) : (s.setFn f x).tokenWait = s.tokenWait := rfl
@[simp] theorem State.setFn_tasks (f : Nat) (x : HostFn) : (s.setFn f x).tasks = s.tasks := rfl
@[simp] theorem State.setFn_jobs (f : Nat) (x : HostFn) : (s.setFn f x).jobs = s.jobs := rfl
@[simp] theorem State.setFn_taskIds (f : Nat) (x : HostFn) : (s.setFn f x).taskIds = s.taskIds := rfl
@[simp] theorem State.setFn_jobIds (f : Nat) (x : HostFn) : (s.setFn f x).jobIds = s.jobIds := rfl
@[simp] theorem State.setFn_vault (f : Nat) (x : HostFn) : (s.setFn f x).vault = s.vault := rfl
@[simp] theorem State.setFn_bk (f : Nat) (x : HostFn) : (s.setFn f x).bk = s.bk := rfl
@[simp] theorem State.setFn_cards (f : Nat) (x : HostFn) : (s.setFn f x).cards = s.cards := rfl
@[simp] theorem State.setFn_tag (f : Nat) (x : HostFn) : (s.setFn f x).tag = s.tag := rfl
@[simp] theorem State.setFn_sup (f : Nat) (x : HostFn) : (s.setFn f x).sup = s.sup := rfl
@[simp] theorem State.setFn_pins (f : Nat) (x : HostFn) : (s.setFn f x).pins = s.pins := rfl
@[simp] theorem State.setFn_pwr (f : Nat) (x : HostFn) : (s.setFn f x).pwr = s.pwr := rfl
@[simp] theorem State.setFn_fabric (f : Nat) (x : HostFn) : (s.setFn f x).fabric = s.fabric := rfl
@[simp] theorem State.setFn_lcs (f : Nat) (x : HostFn) : (s.setFn f x).lcs = s.lcs := rfl
@[simp] theorem State.setFn_tal (f : Nat) (x : HostFn) : (s.setFn f x).tal = s.tal := rfl
@[simp] theorem State.setFn_msub (f : Nat) (x : HostFn) : (s.setFn f x).msub = s.msub := rfl
@[simp] theorem State.setFn_evr (f : Nat) (x : HostFn) : (s.setFn f x).evr = s.evr := rfl
@[simp] theorem State.setFn_bst (f : Nat) (x : HostFn) : (s.setFn f x).bst = s.bst := rfl
@[simp] theorem State.setFn_upd (f : Nat) (x : HostFn) : (s.setFn f x).upd = s.upd := rfl
@[simp] theorem State.setFn_side (f : Nat) (x : HostFn) : (s.setFn f x).side = s.side := rfl
@[simp] theorem State.fn_setFn (f : Nat) (x : HostFn) : (s.setFn f x).fn f = x := by simp [State.setFn, State.fn]

/-! ### setQp -/

@[simp] theorem State.setQp_pending (q : Nat) (x : QueuePair) : (s.setQp q x).pending = s.pending := rfl
@[simp] theorem State.setQp_freeCtr (q : Nat) (x : QueuePair) : (s.setQp q x).freeCtr = s.freeCtr := rfl
@[simp] theorem State.setQp_out (q : Nat) (x : QueuePair) : (s.setQp q x).out = s.out := rfl
@[simp] theorem State.setQp_mem (q : Nat) (x : QueuePair) : (s.setQp q x).mem = s.mem := rfl
@[simp] theorem State.setQp_cores (q : Nat) (x : QueuePair) : (s.setQp q x).cores = s.cores := rfl
@[simp] theorem State.setQp_cru (q : Nat) (x : QueuePair) : (s.setQp q x).cru = s.cru := rfl
@[simp] theorem State.setQp_roles (q : Nat) (x : QueuePair) : (s.setQp q x).roles = s.roles := rfl
@[simp] theorem State.setQp_arr (q : Nat) (x : QueuePair) : (s.setQp q x).arr = s.arr := rfl
@[simp] theorem State.setQp_lanes (q : Nat) (x : QueuePair) : (s.setQp q x).lanes = s.lanes := rfl
@[simp] theorem State.setQp_ent (q : Nat) (x : QueuePair) : (s.setQp q x).ent = s.ent := rfl
@[simp] theorem State.setQp_flash (q : Nat) (x : QueuePair) : (s.setQp q x).flash = s.flash := rfl
@[simp] theorem State.setQp_health (q : Nat) (x : QueuePair) : (s.setQp q x).health = s.health := rfl
@[simp] theorem State.setQp_tokenWait (q : Nat) (x : QueuePair) : (s.setQp q x).tokenWait = s.tokenWait := rfl
@[simp] theorem State.setQp_tasks (q : Nat) (x : QueuePair) : (s.setQp q x).tasks = s.tasks := rfl
@[simp] theorem State.setQp_jobs (q : Nat) (x : QueuePair) : (s.setQp q x).jobs = s.jobs := rfl
@[simp] theorem State.setQp_taskIds (q : Nat) (x : QueuePair) : (s.setQp q x).taskIds = s.taskIds := rfl
@[simp] theorem State.setQp_jobIds (q : Nat) (x : QueuePair) : (s.setQp q x).jobIds = s.jobIds := rfl
@[simp] theorem State.setQp_vault (q : Nat) (x : QueuePair) : (s.setQp q x).vault = s.vault := rfl
@[simp] theorem State.setQp_bk (q : Nat) (x : QueuePair) : (s.setQp q x).bk = s.bk := rfl
@[simp] theorem State.setQp_cards (q : Nat) (x : QueuePair) : (s.setQp q x).cards = s.cards := rfl
@[simp] theorem State.setQp_tag (q : Nat) (x : QueuePair) : (s.setQp q x).tag = s.tag := rfl
@[simp] theorem State.setQp_sup (q : Nat) (x : QueuePair) : (s.setQp q x).sup = s.sup := rfl
@[simp] theorem State.setQp_pins (q : Nat) (x : QueuePair) : (s.setQp q x).pins = s.pins := rfl
@[simp] theorem State.setQp_pwr (q : Nat) (x : QueuePair) : (s.setQp q x).pwr = s.pwr := rfl
@[simp] theorem State.setQp_fabric (q : Nat) (x : QueuePair) : (s.setQp q x).fabric = s.fabric := rfl
@[simp] theorem State.setQp_lcs (q : Nat) (x : QueuePair) : (s.setQp q x).lcs = s.lcs := rfl
@[simp] theorem State.setQp_tal (q : Nat) (x : QueuePair) : (s.setQp q x).tal = s.tal := rfl
@[simp] theorem State.setQp_msub (q : Nat) (x : QueuePair) : (s.setQp q x).msub = s.msub := rfl
@[simp] theorem State.setQp_evr (q : Nat) (x : QueuePair) : (s.setQp q x).evr = s.evr := rfl
@[simp] theorem State.setQp_bst (q : Nat) (x : QueuePair) : (s.setQp q x).bst = s.bst := rfl
@[simp] theorem State.setQp_upd (q : Nat) (x : QueuePair) : (s.setQp q x).upd = s.upd := rfl
@[simp] theorem State.setQp_side (q : Nat) (x : QueuePair) : (s.setQp q x).side = s.side := rfl
@[simp] theorem State.qp_setQp (q : Nat) (x : QueuePair) : (s.setQp q x).qp q = x := by simp [State.setQp, State.qp]

/-! ### setSaggar -/

@[simp] theorem State.setSaggar_pending (i : Nat) (x : Saggar) : (s.setSaggar i x).pending = s.pending := rfl
@[simp] theorem State.setSaggar_freeCtr (i : Nat) (x : Saggar) : (s.setSaggar i x).freeCtr = s.freeCtr := rfl
@[simp] theorem State.setSaggar_out (i : Nat) (x : Saggar) : (s.setSaggar i x).out = s.out := rfl
@[simp] theorem State.setSaggar_mem (i : Nat) (x : Saggar) : (s.setSaggar i x).mem = s.mem := rfl
@[simp] theorem State.setSaggar_cores (i : Nat) (x : Saggar) : (s.setSaggar i x).cores = s.cores := rfl
@[simp] theorem State.setSaggar_cru (i : Nat) (x : Saggar) : (s.setSaggar i x).cru = s.cru := rfl
@[simp] theorem State.setSaggar_roles (i : Nat) (x : Saggar) : (s.setSaggar i x).roles = s.roles := rfl
@[simp] theorem State.setSaggar_arr (i : Nat) (x : Saggar) : (s.setSaggar i x).arr = s.arr := rfl
@[simp] theorem State.setSaggar_lanes (i : Nat) (x : Saggar) : (s.setSaggar i x).lanes = s.lanes := rfl
@[simp] theorem State.setSaggar_ent (i : Nat) (x : Saggar) : (s.setSaggar i x).ent = s.ent := rfl
@[simp] theorem State.setSaggar_flash (i : Nat) (x : Saggar) : (s.setSaggar i x).flash = s.flash := rfl
@[simp] theorem State.setSaggar_health (i : Nat) (x : Saggar) : (s.setSaggar i x).health = s.health := rfl
@[simp] theorem State.setSaggar_tokenWait (i : Nat) (x : Saggar) : (s.setSaggar i x).tokenWait = s.tokenWait := rfl
@[simp] theorem State.setSaggar_hif (i : Nat) (x : Saggar) : (s.setSaggar i x).hif = s.hif := rfl
@[simp] theorem State.setSaggar_tasks (i : Nat) (x : Saggar) : (s.setSaggar i x).tasks = s.tasks := rfl
@[simp] theorem State.setSaggar_jobs (i : Nat) (x : Saggar) : (s.setSaggar i x).jobs = s.jobs := rfl
@[simp] theorem State.setSaggar_taskIds (i : Nat) (x : Saggar) : (s.setSaggar i x).taskIds = s.taskIds := rfl
@[simp] theorem State.setSaggar_jobIds (i : Nat) (x : Saggar) : (s.setSaggar i x).jobIds = s.jobIds := rfl
@[simp] theorem State.setSaggar_bk (i : Nat) (x : Saggar) : (s.setSaggar i x).bk = s.bk := rfl
@[simp] theorem State.setSaggar_cards (i : Nat) (x : Saggar) : (s.setSaggar i x).cards = s.cards := rfl
@[simp] theorem State.setSaggar_tag (i : Nat) (x : Saggar) : (s.setSaggar i x).tag = s.tag := rfl
@[simp] theorem State.setSaggar_sup (i : Nat) (x : Saggar) : (s.setSaggar i x).sup = s.sup := rfl
@[simp] theorem State.setSaggar_pins (i : Nat) (x : Saggar) : (s.setSaggar i x).pins = s.pins := rfl
@[simp] theorem State.setSaggar_pwr (i : Nat) (x : Saggar) : (s.setSaggar i x).pwr = s.pwr := rfl
@[simp] theorem State.setSaggar_fabric (i : Nat) (x : Saggar) : (s.setSaggar i x).fabric = s.fabric := rfl
@[simp] theorem State.setSaggar_lcs (i : Nat) (x : Saggar) : (s.setSaggar i x).lcs = s.lcs := rfl
@[simp] theorem State.setSaggar_tal (i : Nat) (x : Saggar) : (s.setSaggar i x).tal = s.tal := rfl
@[simp] theorem State.setSaggar_msub (i : Nat) (x : Saggar) : (s.setSaggar i x).msub = s.msub := rfl
@[simp] theorem State.setSaggar_evr (i : Nat) (x : Saggar) : (s.setSaggar i x).evr = s.evr := rfl
@[simp] theorem State.setSaggar_bst (i : Nat) (x : Saggar) : (s.setSaggar i x).bst = s.bst := rfl
@[simp] theorem State.setSaggar_upd (i : Nat) (x : Saggar) : (s.setSaggar i x).upd = s.upd := rfl
@[simp] theorem State.setSaggar_side (i : Nat) (x : Saggar) : (s.setSaggar i x).side = s.side := rfl
@[simp] theorem State.saggar_setSaggar (i : Nat) (x : Saggar) : (s.setSaggar i x).saggar i = x := by simp [State.setSaggar, State.saggar]

/-! ### setKey -/

@[simp] theorem State.setKey_pending (i : Nat) (x : Key) : (s.setKey i x).pending = s.pending := rfl
@[simp] theorem State.setKey_freeCtr (i : Nat) (x : Key) : (s.setKey i x).freeCtr = s.freeCtr := rfl
@[simp] theorem State.setKey_out (i : Nat) (x : Key) : (s.setKey i x).out = s.out := rfl
@[simp] theorem State.setKey_mem (i : Nat) (x : Key) : (s.setKey i x).mem = s.mem := rfl
@[simp] theorem State.setKey_cores (i : Nat) (x : Key) : (s.setKey i x).cores = s.cores := rfl
@[simp] theorem State.setKey_cru (i : Nat) (x : Key) : (s.setKey i x).cru = s.cru := rfl
@[simp] theorem State.setKey_roles (i : Nat) (x : Key) : (s.setKey i x).roles = s.roles := rfl
@[simp] theorem State.setKey_arr (i : Nat) (x : Key) : (s.setKey i x).arr = s.arr := rfl
@[simp] theorem State.setKey_lanes (i : Nat) (x : Key) : (s.setKey i x).lanes = s.lanes := rfl
@[simp] theorem State.setKey_ent (i : Nat) (x : Key) : (s.setKey i x).ent = s.ent := rfl
@[simp] theorem State.setKey_flash (i : Nat) (x : Key) : (s.setKey i x).flash = s.flash := rfl
@[simp] theorem State.setKey_health (i : Nat) (x : Key) : (s.setKey i x).health = s.health := rfl
@[simp] theorem State.setKey_tokenWait (i : Nat) (x : Key) : (s.setKey i x).tokenWait = s.tokenWait := rfl
@[simp] theorem State.setKey_hif (i : Nat) (x : Key) : (s.setKey i x).hif = s.hif := rfl
@[simp] theorem State.setKey_tasks (i : Nat) (x : Key) : (s.setKey i x).tasks = s.tasks := rfl
@[simp] theorem State.setKey_jobs (i : Nat) (x : Key) : (s.setKey i x).jobs = s.jobs := rfl
@[simp] theorem State.setKey_taskIds (i : Nat) (x : Key) : (s.setKey i x).taskIds = s.taskIds := rfl
@[simp] theorem State.setKey_jobIds (i : Nat) (x : Key) : (s.setKey i x).jobIds = s.jobIds := rfl
@[simp] theorem State.setKey_bk (i : Nat) (x : Key) : (s.setKey i x).bk = s.bk := rfl
@[simp] theorem State.setKey_cards (i : Nat) (x : Key) : (s.setKey i x).cards = s.cards := rfl
@[simp] theorem State.setKey_tag (i : Nat) (x : Key) : (s.setKey i x).tag = s.tag := rfl
@[simp] theorem State.setKey_sup (i : Nat) (x : Key) : (s.setKey i x).sup = s.sup := rfl
@[simp] theorem State.setKey_pins (i : Nat) (x : Key) : (s.setKey i x).pins = s.pins := rfl
@[simp] theorem State.setKey_pwr (i : Nat) (x : Key) : (s.setKey i x).pwr = s.pwr := rfl
@[simp] theorem State.setKey_fabric (i : Nat) (x : Key) : (s.setKey i x).fabric = s.fabric := rfl
@[simp] theorem State.setKey_lcs (i : Nat) (x : Key) : (s.setKey i x).lcs = s.lcs := rfl
@[simp] theorem State.setKey_tal (i : Nat) (x : Key) : (s.setKey i x).tal = s.tal := rfl
@[simp] theorem State.setKey_msub (i : Nat) (x : Key) : (s.setKey i x).msub = s.msub := rfl
@[simp] theorem State.setKey_evr (i : Nat) (x : Key) : (s.setKey i x).evr = s.evr := rfl
@[simp] theorem State.setKey_bst (i : Nat) (x : Key) : (s.setKey i x).bst = s.bst := rfl
@[simp] theorem State.setKey_upd (i : Nat) (x : Key) : (s.setKey i x).upd = s.upd := rfl
@[simp] theorem State.setKey_side (i : Nat) (x : Key) : (s.setKey i x).side = s.side := rfl
@[simp] theorem State.key_setKey (i : Nat) (x : Key) : (s.setKey i x).key i = x := by simp [State.setKey, State.key]

/-! ### setSession -/

@[simp] theorem State.setSession_pending (i : Nat) (x : Session) : (s.setSession i x).pending = s.pending := rfl
@[simp] theorem State.setSession_freeCtr (i : Nat) (x : Session) : (s.setSession i x).freeCtr = s.freeCtr := rfl
@[simp] theorem State.setSession_out (i : Nat) (x : Session) : (s.setSession i x).out = s.out := rfl
@[simp] theorem State.setSession_mem (i : Nat) (x : Session) : (s.setSession i x).mem = s.mem := rfl
@[simp] theorem State.setSession_cores (i : Nat) (x : Session) : (s.setSession i x).cores = s.cores := rfl
@[simp] theorem State.setSession_cru (i : Nat) (x : Session) : (s.setSession i x).cru = s.cru := rfl
@[simp] theorem State.setSession_roles (i : Nat) (x : Session) : (s.setSession i x).roles = s.roles := rfl
@[simp] theorem State.setSession_arr (i : Nat) (x : Session) : (s.setSession i x).arr = s.arr := rfl
@[simp] theorem State.setSession_lanes (i : Nat) (x : Session) : (s.setSession i x).lanes = s.lanes := rfl
@[simp] theorem State.setSession_ent (i : Nat) (x : Session) : (s.setSession i x).ent = s.ent := rfl
@[simp] theorem State.setSession_flash (i : Nat) (x : Session) : (s.setSession i x).flash = s.flash := rfl
@[simp] theorem State.setSession_health (i : Nat) (x : Session) : (s.setSession i x).health = s.health := rfl
@[simp] theorem State.setSession_tokenWait (i : Nat) (x : Session) : (s.setSession i x).tokenWait = s.tokenWait := rfl
@[simp] theorem State.setSession_hif (i : Nat) (x : Session) : (s.setSession i x).hif = s.hif := rfl
@[simp] theorem State.setSession_tasks (i : Nat) (x : Session) : (s.setSession i x).tasks = s.tasks := rfl
@[simp] theorem State.setSession_jobs (i : Nat) (x : Session) : (s.setSession i x).jobs = s.jobs := rfl
@[simp] theorem State.setSession_taskIds (i : Nat) (x : Session) : (s.setSession i x).taskIds = s.taskIds := rfl
@[simp] theorem State.setSession_jobIds (i : Nat) (x : Session) : (s.setSession i x).jobIds = s.jobIds := rfl
@[simp] theorem State.setSession_bk (i : Nat) (x : Session) : (s.setSession i x).bk = s.bk := rfl
@[simp] theorem State.setSession_cards (i : Nat) (x : Session) : (s.setSession i x).cards = s.cards := rfl
@[simp] theorem State.setSession_tag (i : Nat) (x : Session) : (s.setSession i x).tag = s.tag := rfl
@[simp] theorem State.setSession_sup (i : Nat) (x : Session) : (s.setSession i x).sup = s.sup := rfl
@[simp] theorem State.setSession_pins (i : Nat) (x : Session) : (s.setSession i x).pins = s.pins := rfl
@[simp] theorem State.setSession_pwr (i : Nat) (x : Session) : (s.setSession i x).pwr = s.pwr := rfl
@[simp] theorem State.setSession_fabric (i : Nat) (x : Session) : (s.setSession i x).fabric = s.fabric := rfl
@[simp] theorem State.setSession_lcs (i : Nat) (x : Session) : (s.setSession i x).lcs = s.lcs := rfl
@[simp] theorem State.setSession_tal (i : Nat) (x : Session) : (s.setSession i x).tal = s.tal := rfl
@[simp] theorem State.setSession_msub (i : Nat) (x : Session) : (s.setSession i x).msub = s.msub := rfl
@[simp] theorem State.setSession_evr (i : Nat) (x : Session) : (s.setSession i x).evr = s.evr := rfl
@[simp] theorem State.setSession_bst (i : Nat) (x : Session) : (s.setSession i x).bst = s.bst := rfl
@[simp] theorem State.setSession_upd (i : Nat) (x : Session) : (s.setSession i x).upd = s.upd := rfl
@[simp] theorem State.setSession_side (i : Nat) (x : Session) : (s.setSession i x).side = s.side := rfl
@[simp] theorem State.session_setSession (i : Nat) (x : Session) : (s.setSession i x).session i = x := by simp [State.setSession, State.session]

/-! ### setShake -/

@[simp] theorem State.setShake_pending (i : Nat) (x : Handshake) : (s.setShake i x).pending = s.pending := rfl
@[simp] theorem State.setShake_freeCtr (i : Nat) (x : Handshake) : (s.setShake i x).freeCtr = s.freeCtr := rfl
@[simp] theorem State.setShake_out (i : Nat) (x : Handshake) : (s.setShake i x).out = s.out := rfl
@[simp] theorem State.setShake_mem (i : Nat) (x : Handshake) : (s.setShake i x).mem = s.mem := rfl
@[simp] theorem State.setShake_cores (i : Nat) (x : Handshake) : (s.setShake i x).cores = s.cores := rfl
@[simp] theorem State.setShake_cru (i : Nat) (x : Handshake) : (s.setShake i x).cru = s.cru := rfl
@[simp] theorem State.setShake_roles (i : Nat) (x : Handshake) : (s.setShake i x).roles = s.roles := rfl
@[simp] theorem State.setShake_arr (i : Nat) (x : Handshake) : (s.setShake i x).arr = s.arr := rfl
@[simp] theorem State.setShake_lanes (i : Nat) (x : Handshake) : (s.setShake i x).lanes = s.lanes := rfl
@[simp] theorem State.setShake_ent (i : Nat) (x : Handshake) : (s.setShake i x).ent = s.ent := rfl
@[simp] theorem State.setShake_flash (i : Nat) (x : Handshake) : (s.setShake i x).flash = s.flash := rfl
@[simp] theorem State.setShake_health (i : Nat) (x : Handshake) : (s.setShake i x).health = s.health := rfl
@[simp] theorem State.setShake_tokenWait (i : Nat) (x : Handshake) : (s.setShake i x).tokenWait = s.tokenWait := rfl
@[simp] theorem State.setShake_hif (i : Nat) (x : Handshake) : (s.setShake i x).hif = s.hif := rfl
@[simp] theorem State.setShake_tasks (i : Nat) (x : Handshake) : (s.setShake i x).tasks = s.tasks := rfl
@[simp] theorem State.setShake_jobs (i : Nat) (x : Handshake) : (s.setShake i x).jobs = s.jobs := rfl
@[simp] theorem State.setShake_taskIds (i : Nat) (x : Handshake) : (s.setShake i x).taskIds = s.taskIds := rfl
@[simp] theorem State.setShake_jobIds (i : Nat) (x : Handshake) : (s.setShake i x).jobIds = s.jobIds := rfl
@[simp] theorem State.setShake_bk (i : Nat) (x : Handshake) : (s.setShake i x).bk = s.bk := rfl
@[simp] theorem State.setShake_cards (i : Nat) (x : Handshake) : (s.setShake i x).cards = s.cards := rfl
@[simp] theorem State.setShake_tag (i : Nat) (x : Handshake) : (s.setShake i x).tag = s.tag := rfl
@[simp] theorem State.setShake_sup (i : Nat) (x : Handshake) : (s.setShake i x).sup = s.sup := rfl
@[simp] theorem State.setShake_pins (i : Nat) (x : Handshake) : (s.setShake i x).pins = s.pins := rfl
@[simp] theorem State.setShake_pwr (i : Nat) (x : Handshake) : (s.setShake i x).pwr = s.pwr := rfl
@[simp] theorem State.setShake_fabric (i : Nat) (x : Handshake) : (s.setShake i x).fabric = s.fabric := rfl
@[simp] theorem State.setShake_lcs (i : Nat) (x : Handshake) : (s.setShake i x).lcs = s.lcs := rfl
@[simp] theorem State.setShake_tal (i : Nat) (x : Handshake) : (s.setShake i x).tal = s.tal := rfl
@[simp] theorem State.setShake_msub (i : Nat) (x : Handshake) : (s.setShake i x).msub = s.msub := rfl
@[simp] theorem State.setShake_evr (i : Nat) (x : Handshake) : (s.setShake i x).evr = s.evr := rfl
@[simp] theorem State.setShake_bst (i : Nat) (x : Handshake) : (s.setShake i x).bst = s.bst := rfl
@[simp] theorem State.setShake_upd (i : Nat) (x : Handshake) : (s.setShake i x).upd = s.upd := rfl
@[simp] theorem State.setShake_side (i : Nat) (x : Handshake) : (s.setShake i x).side = s.side := rfl
@[simp] theorem State.shake_setShake (i : Nat) (x : Handshake) : (s.setShake i x).shake i = x := by simp [State.setShake, State.shake]

/-! ### setLease -/

@[simp] theorem State.setLease_pending (i : Nat) (x : Lease) : (s.setLease i x).pending = s.pending := rfl
@[simp] theorem State.setLease_freeCtr (i : Nat) (x : Lease) : (s.setLease i x).freeCtr = s.freeCtr := rfl
@[simp] theorem State.setLease_out (i : Nat) (x : Lease) : (s.setLease i x).out = s.out := rfl
@[simp] theorem State.setLease_mem (i : Nat) (x : Lease) : (s.setLease i x).mem = s.mem := rfl
@[simp] theorem State.setLease_cores (i : Nat) (x : Lease) : (s.setLease i x).cores = s.cores := rfl
@[simp] theorem State.setLease_cru (i : Nat) (x : Lease) : (s.setLease i x).cru = s.cru := rfl
@[simp] theorem State.setLease_roles (i : Nat) (x : Lease) : (s.setLease i x).roles = s.roles := rfl
@[simp] theorem State.setLease_arr (i : Nat) (x : Lease) : (s.setLease i x).arr = s.arr := rfl
@[simp] theorem State.setLease_lanes (i : Nat) (x : Lease) : (s.setLease i x).lanes = s.lanes := rfl
@[simp] theorem State.setLease_ent (i : Nat) (x : Lease) : (s.setLease i x).ent = s.ent := rfl
@[simp] theorem State.setLease_flash (i : Nat) (x : Lease) : (s.setLease i x).flash = s.flash := rfl
@[simp] theorem State.setLease_health (i : Nat) (x : Lease) : (s.setLease i x).health = s.health := rfl
@[simp] theorem State.setLease_tokenWait (i : Nat) (x : Lease) : (s.setLease i x).tokenWait = s.tokenWait := rfl
@[simp] theorem State.setLease_hif (i : Nat) (x : Lease) : (s.setLease i x).hif = s.hif := rfl
@[simp] theorem State.setLease_tasks (i : Nat) (x : Lease) : (s.setLease i x).tasks = s.tasks := rfl
@[simp] theorem State.setLease_jobs (i : Nat) (x : Lease) : (s.setLease i x).jobs = s.jobs := rfl
@[simp] theorem State.setLease_taskIds (i : Nat) (x : Lease) : (s.setLease i x).taskIds = s.taskIds := rfl
@[simp] theorem State.setLease_jobIds (i : Nat) (x : Lease) : (s.setLease i x).jobIds = s.jobIds := rfl
@[simp] theorem State.setLease_bk (i : Nat) (x : Lease) : (s.setLease i x).bk = s.bk := rfl
@[simp] theorem State.setLease_cards (i : Nat) (x : Lease) : (s.setLease i x).cards = s.cards := rfl
@[simp] theorem State.setLease_tag (i : Nat) (x : Lease) : (s.setLease i x).tag = s.tag := rfl
@[simp] theorem State.setLease_sup (i : Nat) (x : Lease) : (s.setLease i x).sup = s.sup := rfl
@[simp] theorem State.setLease_pins (i : Nat) (x : Lease) : (s.setLease i x).pins = s.pins := rfl
@[simp] theorem State.setLease_pwr (i : Nat) (x : Lease) : (s.setLease i x).pwr = s.pwr := rfl
@[simp] theorem State.setLease_fabric (i : Nat) (x : Lease) : (s.setLease i x).fabric = s.fabric := rfl
@[simp] theorem State.setLease_lcs (i : Nat) (x : Lease) : (s.setLease i x).lcs = s.lcs := rfl
@[simp] theorem State.setLease_tal (i : Nat) (x : Lease) : (s.setLease i x).tal = s.tal := rfl
@[simp] theorem State.setLease_msub (i : Nat) (x : Lease) : (s.setLease i x).msub = s.msub := rfl
@[simp] theorem State.setLease_evr (i : Nat) (x : Lease) : (s.setLease i x).evr = s.evr := rfl
@[simp] theorem State.setLease_bst (i : Nat) (x : Lease) : (s.setLease i x).bst = s.bst := rfl
@[simp] theorem State.setLease_upd (i : Nat) (x : Lease) : (s.setLease i x).upd = s.upd := rfl
@[simp] theorem State.setLease_side (i : Nat) (x : Lease) : (s.setLease i x).side = s.side := rfl
@[simp] theorem State.lease_setLease (i : Nat) (x : Lease) : (s.setLease i x).lease i = x := by simp [State.setLease, State.lease]

/-! ### setLane -/

@[simp] theorem State.setLane_pending (n : Nat) (x : Lane) : (s.setLane n x).pending = s.pending := rfl
@[simp] theorem State.setLane_freeCtr (n : Nat) (x : Lane) : (s.setLane n x).freeCtr = s.freeCtr := rfl
@[simp] theorem State.setLane_out (n : Nat) (x : Lane) : (s.setLane n x).out = s.out := rfl
@[simp] theorem State.setLane_mem (n : Nat) (x : Lane) : (s.setLane n x).mem = s.mem := rfl
@[simp] theorem State.setLane_cores (n : Nat) (x : Lane) : (s.setLane n x).cores = s.cores := rfl
@[simp] theorem State.setLane_cru (n : Nat) (x : Lane) : (s.setLane n x).cru = s.cru := rfl
@[simp] theorem State.setLane_roles (n : Nat) (x : Lane) : (s.setLane n x).roles = s.roles := rfl
@[simp] theorem State.setLane_arr (n : Nat) (x : Lane) : (s.setLane n x).arr = s.arr := rfl
@[simp] theorem State.setLane_ent (n : Nat) (x : Lane) : (s.setLane n x).ent = s.ent := rfl
@[simp] theorem State.setLane_flash (n : Nat) (x : Lane) : (s.setLane n x).flash = s.flash := rfl
@[simp] theorem State.setLane_health (n : Nat) (x : Lane) : (s.setLane n x).health = s.health := rfl
@[simp] theorem State.setLane_tokenWait (n : Nat) (x : Lane) : (s.setLane n x).tokenWait = s.tokenWait := rfl
@[simp] theorem State.setLane_hif (n : Nat) (x : Lane) : (s.setLane n x).hif = s.hif := rfl
@[simp] theorem State.setLane_tasks (n : Nat) (x : Lane) : (s.setLane n x).tasks = s.tasks := rfl
@[simp] theorem State.setLane_jobs (n : Nat) (x : Lane) : (s.setLane n x).jobs = s.jobs := rfl
@[simp] theorem State.setLane_taskIds (n : Nat) (x : Lane) : (s.setLane n x).taskIds = s.taskIds := rfl
@[simp] theorem State.setLane_jobIds (n : Nat) (x : Lane) : (s.setLane n x).jobIds = s.jobIds := rfl
@[simp] theorem State.setLane_vault (n : Nat) (x : Lane) : (s.setLane n x).vault = s.vault := rfl
@[simp] theorem State.setLane_bk (n : Nat) (x : Lane) : (s.setLane n x).bk = s.bk := rfl
@[simp] theorem State.setLane_cards (n : Nat) (x : Lane) : (s.setLane n x).cards = s.cards := rfl
@[simp] theorem State.setLane_tag (n : Nat) (x : Lane) : (s.setLane n x).tag = s.tag := rfl
@[simp] theorem State.setLane_sup (n : Nat) (x : Lane) : (s.setLane n x).sup = s.sup := rfl
@[simp] theorem State.setLane_pins (n : Nat) (x : Lane) : (s.setLane n x).pins = s.pins := rfl
@[simp] theorem State.setLane_pwr (n : Nat) (x : Lane) : (s.setLane n x).pwr = s.pwr := rfl
@[simp] theorem State.setLane_fabric (n : Nat) (x : Lane) : (s.setLane n x).fabric = s.fabric := rfl
@[simp] theorem State.setLane_lcs (n : Nat) (x : Lane) : (s.setLane n x).lcs = s.lcs := rfl
@[simp] theorem State.setLane_tal (n : Nat) (x : Lane) : (s.setLane n x).tal = s.tal := rfl
@[simp] theorem State.setLane_msub (n : Nat) (x : Lane) : (s.setLane n x).msub = s.msub := rfl
@[simp] theorem State.setLane_evr (n : Nat) (x : Lane) : (s.setLane n x).evr = s.evr := rfl
@[simp] theorem State.setLane_bst (n : Nat) (x : Lane) : (s.setLane n x).bst = s.bst := rfl
@[simp] theorem State.setLane_upd (n : Nat) (x : Lane) : (s.setLane n x).upd = s.upd := rfl
@[simp] theorem State.setLane_side (n : Nat) (x : Lane) : (s.setLane n x).side = s.side := rfl
@[simp] theorem State.lane_setLane (n : Nat) (x : Lane) : (s.setLane n x).lane n = x := by simp [State.setLane, State.lane]

/-! ### setRole -/

@[simp] theorem State.setRole_pending (u : Nat) (r : Role) : (s.setRole u r).pending = s.pending := rfl
@[simp] theorem State.setRole_freeCtr (u : Nat) (r : Role) : (s.setRole u r).freeCtr = s.freeCtr := rfl
@[simp] theorem State.setRole_out (u : Nat) (r : Role) : (s.setRole u r).out = s.out := rfl
@[simp] theorem State.setRole_mem (u : Nat) (r : Role) : (s.setRole u r).mem = s.mem := rfl
@[simp] theorem State.setRole_cores (u : Nat) (r : Role) : (s.setRole u r).cores = s.cores := rfl
@[simp] theorem State.setRole_cru (u : Nat) (r : Role) : (s.setRole u r).cru = s.cru := rfl
@[simp] theorem State.setRole_arr (u : Nat) (r : Role) : (s.setRole u r).arr = s.arr := rfl
@[simp] theorem State.setRole_lanes (u : Nat) (r : Role) : (s.setRole u r).lanes = s.lanes := rfl
@[simp] theorem State.setRole_ent (u : Nat) (r : Role) : (s.setRole u r).ent = s.ent := rfl
@[simp] theorem State.setRole_flash (u : Nat) (r : Role) : (s.setRole u r).flash = s.flash := rfl
@[simp] theorem State.setRole_health (u : Nat) (r : Role) : (s.setRole u r).health = s.health := rfl
@[simp] theorem State.setRole_tokenWait (u : Nat) (r : Role) : (s.setRole u r).tokenWait = s.tokenWait := rfl
@[simp] theorem State.setRole_hif (u : Nat) (r : Role) : (s.setRole u r).hif = s.hif := rfl
@[simp] theorem State.setRole_tasks (u : Nat) (r : Role) : (s.setRole u r).tasks = s.tasks := rfl
@[simp] theorem State.setRole_jobs (u : Nat) (r : Role) : (s.setRole u r).jobs = s.jobs := rfl
@[simp] theorem State.setRole_taskIds (u : Nat) (r : Role) : (s.setRole u r).taskIds = s.taskIds := rfl
@[simp] theorem State.setRole_jobIds (u : Nat) (r : Role) : (s.setRole u r).jobIds = s.jobIds := rfl
@[simp] theorem State.setRole_vault (u : Nat) (r : Role) : (s.setRole u r).vault = s.vault := rfl
@[simp] theorem State.setRole_bk (u : Nat) (r : Role) : (s.setRole u r).bk = s.bk := rfl
@[simp] theorem State.setRole_cards (u : Nat) (r : Role) : (s.setRole u r).cards = s.cards := rfl
@[simp] theorem State.setRole_tag (u : Nat) (r : Role) : (s.setRole u r).tag = s.tag := rfl
@[simp] theorem State.setRole_sup (u : Nat) (r : Role) : (s.setRole u r).sup = s.sup := rfl
@[simp] theorem State.setRole_pins (u : Nat) (r : Role) : (s.setRole u r).pins = s.pins := rfl
@[simp] theorem State.setRole_pwr (u : Nat) (r : Role) : (s.setRole u r).pwr = s.pwr := rfl
@[simp] theorem State.setRole_fabric (u : Nat) (r : Role) : (s.setRole u r).fabric = s.fabric := rfl
@[simp] theorem State.setRole_lcs (u : Nat) (r : Role) : (s.setRole u r).lcs = s.lcs := rfl
@[simp] theorem State.setRole_tal (u : Nat) (r : Role) : (s.setRole u r).tal = s.tal := rfl
@[simp] theorem State.setRole_msub (u : Nat) (r : Role) : (s.setRole u r).msub = s.msub := rfl
@[simp] theorem State.setRole_evr (u : Nat) (r : Role) : (s.setRole u r).evr = s.evr := rfl
@[simp] theorem State.setRole_bst (u : Nat) (r : Role) : (s.setRole u r).bst = s.bst := rfl
@[simp] theorem State.setRole_upd (u : Nat) (r : Role) : (s.setRole u r).upd = s.upd := rfl
@[simp] theorem State.setRole_side (u : Nat) (r : Role) : (s.setRole u r).side = s.side := rfl
@[simp] theorem State.role_setRole (u : Nat) (r : Role) : (s.setRole u r).role u = r := by simp [State.setRole, State.role]

/-! ### setTask -/

@[simp] theorem State.setTask_pending (i : Nat) (x : Task) : (s.setTask i x).pending = s.pending := rfl
@[simp] theorem State.setTask_freeCtr (i : Nat) (x : Task) : (s.setTask i x).freeCtr = s.freeCtr := rfl
@[simp] theorem State.setTask_out (i : Nat) (x : Task) : (s.setTask i x).out = s.out := rfl
@[simp] theorem State.setTask_mem (i : Nat) (x : Task) : (s.setTask i x).mem = s.mem := rfl
@[simp] theorem State.setTask_cores (i : Nat) (x : Task) : (s.setTask i x).cores = s.cores := rfl
@[simp] theorem State.setTask_cru (i : Nat) (x : Task) : (s.setTask i x).cru = s.cru := rfl
@[simp] theorem State.setTask_roles (i : Nat) (x : Task) : (s.setTask i x).roles = s.roles := rfl
@[simp] theorem State.setTask_arr (i : Nat) (x : Task) : (s.setTask i x).arr = s.arr := rfl
@[simp] theorem State.setTask_lanes (i : Nat) (x : Task) : (s.setTask i x).lanes = s.lanes := rfl
@[simp] theorem State.setTask_ent (i : Nat) (x : Task) : (s.setTask i x).ent = s.ent := rfl
@[simp] theorem State.setTask_flash (i : Nat) (x : Task) : (s.setTask i x).flash = s.flash := rfl
@[simp] theorem State.setTask_health (i : Nat) (x : Task) : (s.setTask i x).health = s.health := rfl
@[simp] theorem State.setTask_tokenWait (i : Nat) (x : Task) : (s.setTask i x).tokenWait = s.tokenWait := rfl
@[simp] theorem State.setTask_hif (i : Nat) (x : Task) : (s.setTask i x).hif = s.hif := rfl
@[simp] theorem State.setTask_jobs (i : Nat) (x : Task) : (s.setTask i x).jobs = s.jobs := rfl
@[simp] theorem State.setTask_taskIds (i : Nat) (x : Task) : (s.setTask i x).taskIds = s.taskIds := rfl
@[simp] theorem State.setTask_jobIds (i : Nat) (x : Task) : (s.setTask i x).jobIds = s.jobIds := rfl
@[simp] theorem State.setTask_vault (i : Nat) (x : Task) : (s.setTask i x).vault = s.vault := rfl
@[simp] theorem State.setTask_bk (i : Nat) (x : Task) : (s.setTask i x).bk = s.bk := rfl
@[simp] theorem State.setTask_cards (i : Nat) (x : Task) : (s.setTask i x).cards = s.cards := rfl
@[simp] theorem State.setTask_tag (i : Nat) (x : Task) : (s.setTask i x).tag = s.tag := rfl
@[simp] theorem State.setTask_sup (i : Nat) (x : Task) : (s.setTask i x).sup = s.sup := rfl
@[simp] theorem State.setTask_pins (i : Nat) (x : Task) : (s.setTask i x).pins = s.pins := rfl
@[simp] theorem State.setTask_pwr (i : Nat) (x : Task) : (s.setTask i x).pwr = s.pwr := rfl
@[simp] theorem State.setTask_fabric (i : Nat) (x : Task) : (s.setTask i x).fabric = s.fabric := rfl
@[simp] theorem State.setTask_lcs (i : Nat) (x : Task) : (s.setTask i x).lcs = s.lcs := rfl
@[simp] theorem State.setTask_tal (i : Nat) (x : Task) : (s.setTask i x).tal = s.tal := rfl
@[simp] theorem State.setTask_msub (i : Nat) (x : Task) : (s.setTask i x).msub = s.msub := rfl
@[simp] theorem State.setTask_evr (i : Nat) (x : Task) : (s.setTask i x).evr = s.evr := rfl
@[simp] theorem State.setTask_bst (i : Nat) (x : Task) : (s.setTask i x).bst = s.bst := rfl
@[simp] theorem State.setTask_upd (i : Nat) (x : Task) : (s.setTask i x).upd = s.upd := rfl
@[simp] theorem State.setTask_side (i : Nat) (x : Task) : (s.setTask i x).side = s.side := rfl
@[simp] theorem State.task_setTask (i : Nat) (x : Task) : (s.setTask i x).task i = x := by simp [State.setTask, State.task]

/-! ### setJob -/

@[simp] theorem State.setJob_pending (i : Nat) (x : Job) : (s.setJob i x).pending = s.pending := rfl
@[simp] theorem State.setJob_freeCtr (i : Nat) (x : Job) : (s.setJob i x).freeCtr = s.freeCtr := rfl
@[simp] theorem State.setJob_out (i : Nat) (x : Job) : (s.setJob i x).out = s.out := rfl
@[simp] theorem State.setJob_mem (i : Nat) (x : Job) : (s.setJob i x).mem = s.mem := rfl
@[simp] theorem State.setJob_cores (i : Nat) (x : Job) : (s.setJob i x).cores = s.cores := rfl
@[simp] theorem State.setJob_cru (i : Nat) (x : Job) : (s.setJob i x).cru = s.cru := rfl
@[simp] theorem State.setJob_roles (i : Nat) (x : Job) : (s.setJob i x).roles = s.roles := rfl
@[simp] theorem State.setJob_arr (i : Nat) (x : Job) : (s.setJob i x).arr = s.arr := rfl
@[simp] theorem State.setJob_lanes (i : Nat) (x : Job) : (s.setJob i x).lanes = s.lanes := rfl
@[simp] theorem State.setJob_ent (i : Nat) (x : Job) : (s.setJob i x).ent = s.ent := rfl
@[simp] theorem State.setJob_flash (i : Nat) (x : Job) : (s.setJob i x).flash = s.flash := rfl
@[simp] theorem State.setJob_health (i : Nat) (x : Job) : (s.setJob i x).health = s.health := rfl
@[simp] theorem State.setJob_tokenWait (i : Nat) (x : Job) : (s.setJob i x).tokenWait = s.tokenWait := rfl
@[simp] theorem State.setJob_hif (i : Nat) (x : Job) : (s.setJob i x).hif = s.hif := rfl
@[simp] theorem State.setJob_tasks (i : Nat) (x : Job) : (s.setJob i x).tasks = s.tasks := rfl
@[simp] theorem State.setJob_taskIds (i : Nat) (x : Job) : (s.setJob i x).taskIds = s.taskIds := rfl
@[simp] theorem State.setJob_jobIds (i : Nat) (x : Job) : (s.setJob i x).jobIds = s.jobIds := rfl
@[simp] theorem State.setJob_vault (i : Nat) (x : Job) : (s.setJob i x).vault = s.vault := rfl
@[simp] theorem State.setJob_bk (i : Nat) (x : Job) : (s.setJob i x).bk = s.bk := rfl
@[simp] theorem State.setJob_cards (i : Nat) (x : Job) : (s.setJob i x).cards = s.cards := rfl
@[simp] theorem State.setJob_tag (i : Nat) (x : Job) : (s.setJob i x).tag = s.tag := rfl
@[simp] theorem State.setJob_sup (i : Nat) (x : Job) : (s.setJob i x).sup = s.sup := rfl
@[simp] theorem State.setJob_pins (i : Nat) (x : Job) : (s.setJob i x).pins = s.pins := rfl
@[simp] theorem State.setJob_pwr (i : Nat) (x : Job) : (s.setJob i x).pwr = s.pwr := rfl
@[simp] theorem State.setJob_fabric (i : Nat) (x : Job) : (s.setJob i x).fabric = s.fabric := rfl
@[simp] theorem State.setJob_lcs (i : Nat) (x : Job) : (s.setJob i x).lcs = s.lcs := rfl
@[simp] theorem State.setJob_tal (i : Nat) (x : Job) : (s.setJob i x).tal = s.tal := rfl
@[simp] theorem State.setJob_msub (i : Nat) (x : Job) : (s.setJob i x).msub = s.msub := rfl
@[simp] theorem State.setJob_evr (i : Nat) (x : Job) : (s.setJob i x).evr = s.evr := rfl
@[simp] theorem State.setJob_bst (i : Nat) (x : Job) : (s.setJob i x).bst = s.bst := rfl
@[simp] theorem State.setJob_upd (i : Nat) (x : Job) : (s.setJob i x).upd = s.upd := rfl
@[simp] theorem State.setJob_side (i : Nat) (x : Job) : (s.setJob i x).side = s.side := rfl
@[simp] theorem State.job_setJob (i : Nat) (x : Job) : (s.setJob i x).job i = x := by simp [State.setJob, State.job]

/-! ### setPort -/

@[simp] theorem State.setPort_pending (n : Nat) (x : CardPort) : (s.setPort n x).pending = s.pending := rfl
@[simp] theorem State.setPort_freeCtr (n : Nat) (x : CardPort) : (s.setPort n x).freeCtr = s.freeCtr := rfl
@[simp] theorem State.setPort_out (n : Nat) (x : CardPort) : (s.setPort n x).out = s.out := rfl
@[simp] theorem State.setPort_mem (n : Nat) (x : CardPort) : (s.setPort n x).mem = s.mem := rfl
@[simp] theorem State.setPort_cores (n : Nat) (x : CardPort) : (s.setPort n x).cores = s.cores := rfl
@[simp] theorem State.setPort_cru (n : Nat) (x : CardPort) : (s.setPort n x).cru = s.cru := rfl
@[simp] theorem State.setPort_roles (n : Nat) (x : CardPort) : (s.setPort n x).roles = s.roles := rfl
@[simp] theorem State.setPort_arr (n : Nat) (x : CardPort) : (s.setPort n x).arr = s.arr := rfl
@[simp] theorem State.setPort_lanes (n : Nat) (x : CardPort) : (s.setPort n x).lanes = s.lanes := rfl
@[simp] theorem State.setPort_ent (n : Nat) (x : CardPort) : (s.setPort n x).ent = s.ent := rfl
@[simp] theorem State.setPort_flash (n : Nat) (x : CardPort) : (s.setPort n x).flash = s.flash := rfl
@[simp] theorem State.setPort_health (n : Nat) (x : CardPort) : (s.setPort n x).health = s.health := rfl
@[simp] theorem State.setPort_tokenWait (n : Nat) (x : CardPort) : (s.setPort n x).tokenWait = s.tokenWait := rfl
@[simp] theorem State.setPort_hif (n : Nat) (x : CardPort) : (s.setPort n x).hif = s.hif := rfl
@[simp] theorem State.setPort_tasks (n : Nat) (x : CardPort) : (s.setPort n x).tasks = s.tasks := rfl
@[simp] theorem State.setPort_jobs (n : Nat) (x : CardPort) : (s.setPort n x).jobs = s.jobs := rfl
@[simp] theorem State.setPort_taskIds (n : Nat) (x : CardPort) : (s.setPort n x).taskIds = s.taskIds := rfl
@[simp] theorem State.setPort_jobIds (n : Nat) (x : CardPort) : (s.setPort n x).jobIds = s.jobIds := rfl
@[simp] theorem State.setPort_vault (n : Nat) (x : CardPort) : (s.setPort n x).vault = s.vault := rfl
@[simp] theorem State.setPort_bk (n : Nat) (x : CardPort) : (s.setPort n x).bk = s.bk := rfl
@[simp] theorem State.setPort_tag (n : Nat) (x : CardPort) : (s.setPort n x).tag = s.tag := rfl
@[simp] theorem State.setPort_sup (n : Nat) (x : CardPort) : (s.setPort n x).sup = s.sup := rfl
@[simp] theorem State.setPort_pins (n : Nat) (x : CardPort) : (s.setPort n x).pins = s.pins := rfl
@[simp] theorem State.setPort_pwr (n : Nat) (x : CardPort) : (s.setPort n x).pwr = s.pwr := rfl
@[simp] theorem State.setPort_fabric (n : Nat) (x : CardPort) : (s.setPort n x).fabric = s.fabric := rfl
@[simp] theorem State.setPort_lcs (n : Nat) (x : CardPort) : (s.setPort n x).lcs = s.lcs := rfl
@[simp] theorem State.setPort_tal (n : Nat) (x : CardPort) : (s.setPort n x).tal = s.tal := rfl
@[simp] theorem State.setPort_msub (n : Nat) (x : CardPort) : (s.setPort n x).msub = s.msub := rfl
@[simp] theorem State.setPort_evr (n : Nat) (x : CardPort) : (s.setPort n x).evr = s.evr := rfl
@[simp] theorem State.setPort_bst (n : Nat) (x : CardPort) : (s.setPort n x).bst = s.bst := rfl
@[simp] theorem State.setPort_upd (n : Nat) (x : CardPort) : (s.setPort n x).upd = s.upd := rfl
@[simp] theorem State.setPort_side (n : Nat) (x : CardPort) : (s.setPort n x).side = s.side := rfl
@[simp] theorem State.port_setPort (n : Nat) (x : CardPort) : (s.setPort n x).port n = x := by simp [State.setPort, State.port]

/-! ### setConn -/

@[simp] theorem State.setConn_pending (t : SpdmTransport) (x : SpdmConn) : (s.setConn t x).pending = s.pending := rfl
@[simp] theorem State.setConn_freeCtr (t : SpdmTransport) (x : SpdmConn) : (s.setConn t x).freeCtr = s.freeCtr := rfl
@[simp] theorem State.setConn_out (t : SpdmTransport) (x : SpdmConn) : (s.setConn t x).out = s.out := rfl
@[simp] theorem State.setConn_mem (t : SpdmTransport) (x : SpdmConn) : (s.setConn t x).mem = s.mem := rfl
@[simp] theorem State.setConn_cores (t : SpdmTransport) (x : SpdmConn) : (s.setConn t x).cores = s.cores := rfl
@[simp] theorem State.setConn_cru (t : SpdmTransport) (x : SpdmConn) : (s.setConn t x).cru = s.cru := rfl
@[simp] theorem State.setConn_roles (t : SpdmTransport) (x : SpdmConn) : (s.setConn t x).roles = s.roles := rfl
@[simp] theorem State.setConn_arr (t : SpdmTransport) (x : SpdmConn) : (s.setConn t x).arr = s.arr := rfl
@[simp] theorem State.setConn_lanes (t : SpdmTransport) (x : SpdmConn) : (s.setConn t x).lanes = s.lanes := rfl
@[simp] theorem State.setConn_ent (t : SpdmTransport) (x : SpdmConn) : (s.setConn t x).ent = s.ent := rfl
@[simp] theorem State.setConn_flash (t : SpdmTransport) (x : SpdmConn) : (s.setConn t x).flash = s.flash := rfl
@[simp] theorem State.setConn_health (t : SpdmTransport) (x : SpdmConn) : (s.setConn t x).health = s.health := rfl
@[simp] theorem State.setConn_tokenWait (t : SpdmTransport) (x : SpdmConn) : (s.setConn t x).tokenWait = s.tokenWait := rfl
@[simp] theorem State.setConn_hif (t : SpdmTransport) (x : SpdmConn) : (s.setConn t x).hif = s.hif := rfl
@[simp] theorem State.setConn_tasks (t : SpdmTransport) (x : SpdmConn) : (s.setConn t x).tasks = s.tasks := rfl
@[simp] theorem State.setConn_jobs (t : SpdmTransport) (x : SpdmConn) : (s.setConn t x).jobs = s.jobs := rfl
@[simp] theorem State.setConn_taskIds (t : SpdmTransport) (x : SpdmConn) : (s.setConn t x).taskIds = s.taskIds := rfl
@[simp] theorem State.setConn_jobIds (t : SpdmTransport) (x : SpdmConn) : (s.setConn t x).jobIds = s.jobIds := rfl
@[simp] theorem State.setConn_vault (t : SpdmTransport) (x : SpdmConn) : (s.setConn t x).vault = s.vault := rfl
@[simp] theorem State.setConn_bk (t : SpdmTransport) (x : SpdmConn) : (s.setConn t x).bk = s.bk := rfl
@[simp] theorem State.setConn_cards (t : SpdmTransport) (x : SpdmConn) : (s.setConn t x).cards = s.cards := rfl
@[simp] theorem State.setConn_tag (t : SpdmTransport) (x : SpdmConn) : (s.setConn t x).tag = s.tag := rfl
@[simp] theorem State.setConn_sup (t : SpdmTransport) (x : SpdmConn) : (s.setConn t x).sup = s.sup := rfl
@[simp] theorem State.setConn_pins (t : SpdmTransport) (x : SpdmConn) : (s.setConn t x).pins = s.pins := rfl
@[simp] theorem State.setConn_pwr (t : SpdmTransport) (x : SpdmConn) : (s.setConn t x).pwr = s.pwr := rfl
@[simp] theorem State.setConn_fabric (t : SpdmTransport) (x : SpdmConn) : (s.setConn t x).fabric = s.fabric := rfl
@[simp] theorem State.setConn_lcs (t : SpdmTransport) (x : SpdmConn) : (s.setConn t x).lcs = s.lcs := rfl
@[simp] theorem State.setConn_tal (t : SpdmTransport) (x : SpdmConn) : (s.setConn t x).tal = s.tal := rfl
@[simp] theorem State.setConn_msub (t : SpdmTransport) (x : SpdmConn) : (s.setConn t x).msub = s.msub := rfl
@[simp] theorem State.setConn_evr (t : SpdmTransport) (x : SpdmConn) : (s.setConn t x).evr = s.evr := rfl
@[simp] theorem State.setConn_bst (t : SpdmTransport) (x : SpdmConn) : (s.setConn t x).bst = s.bst := rfl
@[simp] theorem State.setConn_upd (t : SpdmTransport) (x : SpdmConn) : (s.setConn t x).upd = s.upd := rfl
@[simp] theorem State.conn_setConn (t : SpdmTransport) (x : SpdmConn) : (s.setConn t x).conn t = x := by simp [State.setConn, State.conn]

/-! ### setRequest -/

@[simp] theorem State.setRequest_pending (i : Nat) (x : BstRequest) : (s.setRequest i x).pending = s.pending := rfl
@[simp] theorem State.setRequest_freeCtr (i : Nat) (x : BstRequest) : (s.setRequest i x).freeCtr = s.freeCtr := rfl
@[simp] theorem State.setRequest_out (i : Nat) (x : BstRequest) : (s.setRequest i x).out = s.out := rfl
@[simp] theorem State.setRequest_mem (i : Nat) (x : BstRequest) : (s.setRequest i x).mem = s.mem := rfl
@[simp] theorem State.setRequest_cores (i : Nat) (x : BstRequest) : (s.setRequest i x).cores = s.cores := rfl
@[simp] theorem State.setRequest_cru (i : Nat) (x : BstRequest) : (s.setRequest i x).cru = s.cru := rfl
@[simp] theorem State.setRequest_roles (i : Nat) (x : BstRequest) : (s.setRequest i x).roles = s.roles := rfl
@[simp] theorem State.setRequest_arr (i : Nat) (x : BstRequest) : (s.setRequest i x).arr = s.arr := rfl
@[simp] theorem State.setRequest_lanes (i : Nat) (x : BstRequest) : (s.setRequest i x).lanes = s.lanes := rfl
@[simp] theorem State.setRequest_ent (i : Nat) (x : BstRequest) : (s.setRequest i x).ent = s.ent := rfl
@[simp] theorem State.setRequest_flash (i : Nat) (x : BstRequest) : (s.setRequest i x).flash = s.flash := rfl
@[simp] theorem State.setRequest_health (i : Nat) (x : BstRequest) : (s.setRequest i x).health = s.health := rfl
@[simp] theorem State.setRequest_tokenWait (i : Nat) (x : BstRequest) : (s.setRequest i x).tokenWait = s.tokenWait := rfl
@[simp] theorem State.setRequest_hif (i : Nat) (x : BstRequest) : (s.setRequest i x).hif = s.hif := rfl
@[simp] theorem State.setRequest_tasks (i : Nat) (x : BstRequest) : (s.setRequest i x).tasks = s.tasks := rfl
@[simp] theorem State.setRequest_jobs (i : Nat) (x : BstRequest) : (s.setRequest i x).jobs = s.jobs := rfl
@[simp] theorem State.setRequest_taskIds (i : Nat) (x : BstRequest) : (s.setRequest i x).taskIds = s.taskIds := rfl
@[simp] theorem State.setRequest_jobIds (i : Nat) (x : BstRequest) : (s.setRequest i x).jobIds = s.jobIds := rfl
@[simp] theorem State.setRequest_vault (i : Nat) (x : BstRequest) : (s.setRequest i x).vault = s.vault := rfl
@[simp] theorem State.setRequest_bk (i : Nat) (x : BstRequest) : (s.setRequest i x).bk = s.bk := rfl
@[simp] theorem State.setRequest_cards (i : Nat) (x : BstRequest) : (s.setRequest i x).cards = s.cards := rfl
@[simp] theorem State.setRequest_tag (i : Nat) (x : BstRequest) : (s.setRequest i x).tag = s.tag := rfl
@[simp] theorem State.setRequest_sup (i : Nat) (x : BstRequest) : (s.setRequest i x).sup = s.sup := rfl
@[simp] theorem State.setRequest_pins (i : Nat) (x : BstRequest) : (s.setRequest i x).pins = s.pins := rfl
@[simp] theorem State.setRequest_pwr (i : Nat) (x : BstRequest) : (s.setRequest i x).pwr = s.pwr := rfl
@[simp] theorem State.setRequest_fabric (i : Nat) (x : BstRequest) : (s.setRequest i x).fabric = s.fabric := rfl
@[simp] theorem State.setRequest_lcs (i : Nat) (x : BstRequest) : (s.setRequest i x).lcs = s.lcs := rfl
@[simp] theorem State.setRequest_tal (i : Nat) (x : BstRequest) : (s.setRequest i x).tal = s.tal := rfl
@[simp] theorem State.setRequest_msub (i : Nat) (x : BstRequest) : (s.setRequest i x).msub = s.msub := rfl
@[simp] theorem State.setRequest_evr (i : Nat) (x : BstRequest) : (s.setRequest i x).evr = s.evr := rfl
@[simp] theorem State.setRequest_upd (i : Nat) (x : BstRequest) : (s.setRequest i x).upd = s.upd := rfl
@[simp] theorem State.setRequest_side (i : Nat) (x : BstRequest) : (s.setRequest i x).side = s.side := rfl

/-! ### setBank -/

@[simp] theorem State.setBank_pending (b : Bool) (x : PatchBank) : (s.setBank b x).pending = s.pending := rfl
@[simp] theorem State.setBank_freeCtr (b : Bool) (x : PatchBank) : (s.setBank b x).freeCtr = s.freeCtr := rfl
@[simp] theorem State.setBank_out (b : Bool) (x : PatchBank) : (s.setBank b x).out = s.out := rfl
@[simp] theorem State.setBank_mem (b : Bool) (x : PatchBank) : (s.setBank b x).mem = s.mem := rfl
@[simp] theorem State.setBank_cores (b : Bool) (x : PatchBank) : (s.setBank b x).cores = s.cores := rfl
@[simp] theorem State.setBank_cru (b : Bool) (x : PatchBank) : (s.setBank b x).cru = s.cru := rfl
@[simp] theorem State.setBank_roles (b : Bool) (x : PatchBank) : (s.setBank b x).roles = s.roles := rfl
@[simp] theorem State.setBank_arr (b : Bool) (x : PatchBank) : (s.setBank b x).arr = s.arr := rfl
@[simp] theorem State.setBank_lanes (b : Bool) (x : PatchBank) : (s.setBank b x).lanes = s.lanes := rfl
@[simp] theorem State.setBank_ent (b : Bool) (x : PatchBank) : (s.setBank b x).ent = s.ent := rfl
@[simp] theorem State.setBank_flash (b : Bool) (x : PatchBank) : (s.setBank b x).flash = s.flash := rfl
@[simp] theorem State.setBank_health (b : Bool) (x : PatchBank) : (s.setBank b x).health = s.health := rfl
@[simp] theorem State.setBank_tokenWait (b : Bool) (x : PatchBank) : (s.setBank b x).tokenWait = s.tokenWait := rfl
@[simp] theorem State.setBank_hif (b : Bool) (x : PatchBank) : (s.setBank b x).hif = s.hif := rfl
@[simp] theorem State.setBank_tasks (b : Bool) (x : PatchBank) : (s.setBank b x).tasks = s.tasks := rfl
@[simp] theorem State.setBank_jobs (b : Bool) (x : PatchBank) : (s.setBank b x).jobs = s.jobs := rfl
@[simp] theorem State.setBank_taskIds (b : Bool) (x : PatchBank) : (s.setBank b x).taskIds = s.taskIds := rfl
@[simp] theorem State.setBank_jobIds (b : Bool) (x : PatchBank) : (s.setBank b x).jobIds = s.jobIds := rfl
@[simp] theorem State.setBank_vault (b : Bool) (x : PatchBank) : (s.setBank b x).vault = s.vault := rfl
@[simp] theorem State.setBank_bk (b : Bool) (x : PatchBank) : (s.setBank b x).bk = s.bk := rfl
@[simp] theorem State.setBank_cards (b : Bool) (x : PatchBank) : (s.setBank b x).cards = s.cards := rfl
@[simp] theorem State.setBank_tag (b : Bool) (x : PatchBank) : (s.setBank b x).tag = s.tag := rfl
@[simp] theorem State.setBank_sup (b : Bool) (x : PatchBank) : (s.setBank b x).sup = s.sup := rfl
@[simp] theorem State.setBank_pins (b : Bool) (x : PatchBank) : (s.setBank b x).pins = s.pins := rfl
@[simp] theorem State.setBank_pwr (b : Bool) (x : PatchBank) : (s.setBank b x).pwr = s.pwr := rfl
@[simp] theorem State.setBank_fabric (b : Bool) (x : PatchBank) : (s.setBank b x).fabric = s.fabric := rfl
@[simp] theorem State.setBank_lcs (b : Bool) (x : PatchBank) : (s.setBank b x).lcs = s.lcs := rfl
@[simp] theorem State.setBank_tal (b : Bool) (x : PatchBank) : (s.setBank b x).tal = s.tal := rfl
@[simp] theorem State.setBank_msub (b : Bool) (x : PatchBank) : (s.setBank b x).msub = s.msub := rfl
@[simp] theorem State.setBank_evr (b : Bool) (x : PatchBank) : (s.setBank b x).evr = s.evr := rfl
@[simp] theorem State.setBank_bst (b : Bool) (x : PatchBank) : (s.setBank b x).bst = s.bst := rfl
@[simp] theorem State.setBank_side (b : Bool) (x : PatchBank) : (s.setBank b x).side = s.side := rfl

/-! ### withTag -/

@[simp] theorem State.withTag_pending (t : Tag) : (s.withTag t).pending = s.pending := rfl
@[simp] theorem State.withTag_freeCtr (t : Tag) : (s.withTag t).freeCtr = s.freeCtr := rfl
@[simp] theorem State.withTag_out (t : Tag) : (s.withTag t).out = s.out := rfl
@[simp] theorem State.withTag_mem (t : Tag) : (s.withTag t).mem = s.mem := rfl
@[simp] theorem State.withTag_cores (t : Tag) : (s.withTag t).cores = s.cores := rfl
@[simp] theorem State.withTag_cru (t : Tag) : (s.withTag t).cru = s.cru := rfl
@[simp] theorem State.withTag_roles (t : Tag) : (s.withTag t).roles = s.roles := rfl
@[simp] theorem State.withTag_arr (t : Tag) : (s.withTag t).arr = s.arr := rfl
@[simp] theorem State.withTag_lanes (t : Tag) : (s.withTag t).lanes = s.lanes := rfl
@[simp] theorem State.withTag_ent (t : Tag) : (s.withTag t).ent = s.ent := rfl
@[simp] theorem State.withTag_flash (t : Tag) : (s.withTag t).flash = s.flash := rfl
@[simp] theorem State.withTag_health (t : Tag) : (s.withTag t).health = s.health := rfl
@[simp] theorem State.withTag_tokenWait (t : Tag) : (s.withTag t).tokenWait = s.tokenWait := rfl
@[simp] theorem State.withTag_hif (t : Tag) : (s.withTag t).hif = s.hif := rfl
@[simp] theorem State.withTag_tasks (t : Tag) : (s.withTag t).tasks = s.tasks := rfl
@[simp] theorem State.withTag_jobs (t : Tag) : (s.withTag t).jobs = s.jobs := rfl
@[simp] theorem State.withTag_taskIds (t : Tag) : (s.withTag t).taskIds = s.taskIds := rfl
@[simp] theorem State.withTag_jobIds (t : Tag) : (s.withTag t).jobIds = s.jobIds := rfl
@[simp] theorem State.withTag_vault (t : Tag) : (s.withTag t).vault = s.vault := rfl
@[simp] theorem State.withTag_bk (t : Tag) : (s.withTag t).bk = s.bk := rfl
@[simp] theorem State.withTag_cards (t : Tag) : (s.withTag t).cards = s.cards := rfl
@[simp] theorem State.withTag_sup (t : Tag) : (s.withTag t).sup = s.sup := rfl
@[simp] theorem State.withTag_pins (t : Tag) : (s.withTag t).pins = s.pins := rfl
@[simp] theorem State.withTag_pwr (t : Tag) : (s.withTag t).pwr = s.pwr := rfl
@[simp] theorem State.withTag_fabric (t : Tag) : (s.withTag t).fabric = s.fabric := rfl
@[simp] theorem State.withTag_lcs (t : Tag) : (s.withTag t).lcs = s.lcs := rfl
@[simp] theorem State.withTag_tal (t : Tag) : (s.withTag t).tal = s.tal := rfl
@[simp] theorem State.withTag_msub (t : Tag) : (s.withTag t).msub = s.msub := rfl
@[simp] theorem State.withTag_evr (t : Tag) : (s.withTag t).evr = s.evr := rfl
@[simp] theorem State.withTag_bst (t : Tag) : (s.withTag t).bst = s.bst := rfl
@[simp] theorem State.withTag_upd (t : Tag) : (s.withTag t).upd = s.upd := rfl
@[simp] theorem State.withTag_side (t : Tag) : (s.withTag t).side = s.side := rfl

/-! ### used -/

@[simp] theorem State.used_pending (n : Nat) : (s.used n).pending = s.pending := rfl
@[simp] theorem State.used_out (n : Nat) : (s.used n).out = s.out := rfl
@[simp] theorem State.used_mem (n : Nat) : (s.used n).mem = s.mem := rfl
@[simp] theorem State.used_cores (n : Nat) : (s.used n).cores = s.cores := rfl
@[simp] theorem State.used_cru (n : Nat) : (s.used n).cru = s.cru := rfl
@[simp] theorem State.used_roles (n : Nat) : (s.used n).roles = s.roles := rfl
@[simp] theorem State.used_arr (n : Nat) : (s.used n).arr = s.arr := rfl
@[simp] theorem State.used_lanes (n : Nat) : (s.used n).lanes = s.lanes := rfl
@[simp] theorem State.used_ent (n : Nat) : (s.used n).ent = s.ent := rfl
@[simp] theorem State.used_flash (n : Nat) : (s.used n).flash = s.flash := rfl
@[simp] theorem State.used_health (n : Nat) : (s.used n).health = s.health := rfl
@[simp] theorem State.used_tokenWait (n : Nat) : (s.used n).tokenWait = s.tokenWait := rfl
@[simp] theorem State.used_hif (n : Nat) : (s.used n).hif = s.hif := rfl
@[simp] theorem State.used_tasks (n : Nat) : (s.used n).tasks = s.tasks := rfl
@[simp] theorem State.used_jobs (n : Nat) : (s.used n).jobs = s.jobs := rfl
@[simp] theorem State.used_taskIds (n : Nat) : (s.used n).taskIds = s.taskIds := rfl
@[simp] theorem State.used_jobIds (n : Nat) : (s.used n).jobIds = s.jobIds := rfl
@[simp] theorem State.used_vault (n : Nat) : (s.used n).vault = s.vault := rfl
@[simp] theorem State.used_bk (n : Nat) : (s.used n).bk = s.bk := rfl
@[simp] theorem State.used_cards (n : Nat) : (s.used n).cards = s.cards := rfl
@[simp] theorem State.used_tag (n : Nat) : (s.used n).tag = s.tag := rfl
@[simp] theorem State.used_sup (n : Nat) : (s.used n).sup = s.sup := rfl
@[simp] theorem State.used_pins (n : Nat) : (s.used n).pins = s.pins := rfl
@[simp] theorem State.used_pwr (n : Nat) : (s.used n).pwr = s.pwr := rfl
@[simp] theorem State.used_fabric (n : Nat) : (s.used n).fabric = s.fabric := rfl
@[simp] theorem State.used_lcs (n : Nat) : (s.used n).lcs = s.lcs := rfl
@[simp] theorem State.used_tal (n : Nat) : (s.used n).tal = s.tal := rfl
@[simp] theorem State.used_msub (n : Nat) : (s.used n).msub = s.msub := rfl
@[simp] theorem State.used_evr (n : Nat) : (s.used n).evr = s.evr := rfl
@[simp] theorem State.used_bst (n : Nat) : (s.used n).bst = s.bst := rfl
@[simp] theorem State.used_upd (n : Nat) : (s.used n).upd = s.upd := rfl
@[simp] theorem State.used_side (n : Nat) : (s.used n).side = s.side := rfl

/-! ### emit -/

@[simp] theorem State.emit_pending (o : Out) : (s.emit o).pending = s.pending := rfl
@[simp] theorem State.emit_freeCtr (o : Out) : (s.emit o).freeCtr = s.freeCtr := rfl
@[simp] theorem State.emit_mem (o : Out) : (s.emit o).mem = s.mem := rfl
@[simp] theorem State.emit_cores (o : Out) : (s.emit o).cores = s.cores := rfl
@[simp] theorem State.emit_cru (o : Out) : (s.emit o).cru = s.cru := rfl
@[simp] theorem State.emit_roles (o : Out) : (s.emit o).roles = s.roles := rfl
@[simp] theorem State.emit_arr (o : Out) : (s.emit o).arr = s.arr := rfl
@[simp] theorem State.emit_lanes (o : Out) : (s.emit o).lanes = s.lanes := rfl
@[simp] theorem State.emit_ent (o : Out) : (s.emit o).ent = s.ent := rfl
@[simp] theorem State.emit_flash (o : Out) : (s.emit o).flash = s.flash := rfl
@[simp] theorem State.emit_health (o : Out) : (s.emit o).health = s.health := rfl
@[simp] theorem State.emit_tokenWait (o : Out) : (s.emit o).tokenWait = s.tokenWait := rfl
@[simp] theorem State.emit_hif (o : Out) : (s.emit o).hif = s.hif := rfl
@[simp] theorem State.emit_tasks (o : Out) : (s.emit o).tasks = s.tasks := rfl
@[simp] theorem State.emit_jobs (o : Out) : (s.emit o).jobs = s.jobs := rfl
@[simp] theorem State.emit_taskIds (o : Out) : (s.emit o).taskIds = s.taskIds := rfl
@[simp] theorem State.emit_jobIds (o : Out) : (s.emit o).jobIds = s.jobIds := rfl
@[simp] theorem State.emit_vault (o : Out) : (s.emit o).vault = s.vault := rfl
@[simp] theorem State.emit_bk (o : Out) : (s.emit o).bk = s.bk := rfl
@[simp] theorem State.emit_cards (o : Out) : (s.emit o).cards = s.cards := rfl
@[simp] theorem State.emit_tag (o : Out) : (s.emit o).tag = s.tag := rfl
@[simp] theorem State.emit_sup (o : Out) : (s.emit o).sup = s.sup := rfl
@[simp] theorem State.emit_pins (o : Out) : (s.emit o).pins = s.pins := rfl
@[simp] theorem State.emit_pwr (o : Out) : (s.emit o).pwr = s.pwr := rfl
@[simp] theorem State.emit_fabric (o : Out) : (s.emit o).fabric = s.fabric := rfl
@[simp] theorem State.emit_lcs (o : Out) : (s.emit o).lcs = s.lcs := rfl
@[simp] theorem State.emit_tal (o : Out) : (s.emit o).tal = s.tal := rfl
@[simp] theorem State.emit_msub (o : Out) : (s.emit o).msub = s.msub := rfl
@[simp] theorem State.emit_evr (o : Out) : (s.emit o).evr = s.evr := rfl
@[simp] theorem State.emit_bst (o : Out) : (s.emit o).bst = s.bst := rfl
@[simp] theorem State.emit_upd (o : Out) : (s.emit o).upd = s.upd := rfl
@[simp] theorem State.emit_side (o : Out) : (s.emit o).side = s.side := rfl

@[simp] theorem State.qp_setFn (i j : Nat) (x : HostFn) : (s.setFn i x).qp j = s.qp j := rfl
@[simp] theorem State.fn_setQp (i j : Nat) (x : QueuePair) : (s.setQp i x).fn j = s.fn j := rfl
@[simp] theorem State.key_setSaggar (i j : Nat) (x : Saggar) : (s.setSaggar i x).key j = s.key j := rfl
@[simp] theorem State.session_setSaggar (i j : Nat) (x : Saggar) : (s.setSaggar i x).session j = s.session j := rfl
@[simp] theorem State.shake_setSaggar (i j : Nat) (x : Saggar) : (s.setSaggar i x).shake j = s.shake j := rfl
@[simp] theorem State.lease_setSaggar (i j : Nat) (x : Saggar) : (s.setSaggar i x).lease j = s.lease j := rfl
@[simp] theorem State.saggar_setKey (i j : Nat) (x : Key) : (s.setKey i x).saggar j = s.saggar j := rfl
@[simp] theorem State.session_setKey (i j : Nat) (x : Key) : (s.setKey i x).session j = s.session j := rfl
@[simp] theorem State.shake_setKey (i j : Nat) (x : Key) : (s.setKey i x).shake j = s.shake j := rfl
@[simp] theorem State.lease_setKey (i j : Nat) (x : Key) : (s.setKey i x).lease j = s.lease j := rfl
@[simp] theorem State.saggar_setSession (i j : Nat) (x : Session) : (s.setSession i x).saggar j = s.saggar j := rfl
@[simp] theorem State.key_setSession (i j : Nat) (x : Session) : (s.setSession i x).key j = s.key j := rfl
@[simp] theorem State.shake_setSession (i j : Nat) (x : Session) : (s.setSession i x).shake j = s.shake j := rfl
@[simp] theorem State.lease_setSession (i j : Nat) (x : Session) : (s.setSession i x).lease j = s.lease j := rfl
@[simp] theorem State.saggar_setShake (i j : Nat) (x : Handshake) : (s.setShake i x).saggar j = s.saggar j := rfl
@[simp] theorem State.key_setShake (i j : Nat) (x : Handshake) : (s.setShake i x).key j = s.key j := rfl
@[simp] theorem State.session_setShake (i j : Nat) (x : Handshake) : (s.setShake i x).session j = s.session j := rfl
@[simp] theorem State.lease_setShake (i j : Nat) (x : Handshake) : (s.setShake i x).lease j = s.lease j := rfl
@[simp] theorem State.saggar_setLease (i j : Nat) (x : Lease) : (s.setLease i x).saggar j = s.saggar j := rfl
@[simp] theorem State.key_setLease (i j : Nat) (x : Lease) : (s.setLease i x).key j = s.key j := rfl
@[simp] theorem State.session_setLease (i j : Nat) (x : Lease) : (s.setLease i x).session j = s.session j := rfl
@[simp] theorem State.shake_setLease (i j : Nat) (x : Lease) : (s.setLease i x).shake j = s.shake j := rfl
@[simp] theorem State.box_setBox (f : Nat) (m : Mailbox) : (s.setBox f m).box f = m := by simp [State.setBox, State.box]
@[simp] theorem State.reset_mem : State.reset.mem = [] := rfl

end Sys2Proof.Machine
end

