-- ==== Sys2Proof/Tests/Slice0.lean ====
section
/-! SUPPORT. Tests: terms that are not well formed, and a witness for the hypotheses of every statement. -/

namespace Sys2Proof.Tests

open Sys2Proof.Machine Sys2Proof.Claims

set_option linter.unusedVariables false
set_option maxRecDepth 4000

/-! ### Small states -/

/-- The part after reset with one core running as given. -/
def coreAt (c : CoreId) (k : Thrower) : State := State.reset.setCore c { k with running := true }

def wordsCore : State := coreAt (.control 0) { g := [(1, 7), (2, 3)] }
def bigCore : State := coreAt (.control 0) { g := [(1, 0x7FFFFFFF)] }
def fullRegion : MpuRegion := { base := 0, limit := 0xFFFFFFFF, attr := 0xF }
/-- Crucible 3 runs a job in ring 1. -/
def jobCore : State :=
  (coreAt (.crucible 3) { st := 0x40, mpu := [(16, fullRegion)], g := [(1, 0x101)] }).setCrucible 3 { busy := true }
def bankCore : State := coreAt (.crucible 3) { p := [(0, 0x30030000), (1, 0x30038000)] }
def ramCore : State := coreAt (.control 0) { p := [(0, 0x21000000)] }
def macCore : State := coreAt (.control 0) { p := [(0, 0x21000000), (1, 0x21080000), (2, 0x100)] }
/-- A core with one gate to 0x21000040 in ring 0. -/
def gateCore : State :=
  { coreAt (.control 0) { armed := true, mpu := [(0, fullRegion)], gtlen := 1, gtbase := 0x21000000, sp := [(0, 0x21000100)] } with
    mem := memWrite 0 [] 0x21000000 (leBytes 4 0x21000040 ++ leBytes 4 0x80) }
/-- A core with a return to ring 1 on its stack. -/
def returnCore (gate : Bool) : State :=
  { coreAt (.control 0) { armed := true, mpu := [(0, fullRegion)], sp := [(0, 0x21000100)], erdepth := 1, erring := 1, erkind := bit gate } with
    mem := memWrite 0 [] 0x21000100 (leBytes 4 0x21000080 ++ leBytes 4 0x40) }

/-- A part in cone 0 with its link up and the physical function enabled. -/
def hostUp : State :=
  { State.reset with
    pwr := { up := true, released := true }
    sup := { perstN := true }
    hif := { linkUp := true, fns := [(0, { memEnable := true, busMaster := true })] } }

/-- A mailbox request of the physical function for a saggar id with a payload. -/
def ask (sag : BitVec 16) (payload : List Byte) : Req :=
  { route := .mailbox 0, flags := 0, tag := 1, length := BitVec.ofNat 32 payload.length, saggar := sag, reserved := 0, payload
    data := [], respAddr := 0, respRoom := 0, dmaFails := false }

/-- The same part in the Fired state. -/
def fired : State := { hostUp with lcs := { hostUp.lcs with state := 2 } }

/-! ### Terms that are not well formed: each check of `Instr.wf` refuses one -/

/-- A request over a given route that is well formed elsewhere. -/
def excess (r : Route) : Req := { ask 0 [] with route := r }

def dataDesc : DataDesc :=
  { flags := 0, tag := 0, length := 2, saggar := 0, reserved := 0, session := 0, srcAddr := 0, dstAddr := 0, aadLen := 0
    capacity := 2, seq := 0, rsvd64 := 0, source := [1, 2] }

def packet : MctpPacket :=
  { version := 1, dest := 0, source := 0, som := true, eom := true, seq := 0, tag := 0, owner := true, check := false, msgType := 0
    pecGood := true, body := List.replicate 64 0 }

theorem test_wf_payload_length : (Instr.sysIdentify (ask 0 [])).wf = true ∧ (Instr.sysIdentify { ask 0 [] with length := 1 }).wf = false ∧
    (Instr.sysIdentify { ask 0 [] with length := 4000 }).wf = true := by decide
theorem test_wf_ring_routes : (Instr.sysIdentify (excess (.ring (.service 4) 3))).wf = true ∧
    (Instr.sysIdentify (excess (.ring (.service 4) 0))).wf = false ∧ (Instr.sysIdentify (excess (.ring (.control 0) 1))).wf = true ∧
    (Instr.sysIdentify (excess (.ring (.control 0) 2))).wf = false ∧ (Instr.sysIdentify (excess (.ring (.crucible 3) 2))).wf = false := by
  decide
theorem test_wf_requests_with_operands :
    (Instr.lcTransition { ask 0 [] with length := 1 } .burnt).wf = false ∧
    (Instr.ccpActivate { ask 0 [] with length := 1 } { present := false, answered := false, atr := [], fidi := 0 }).wf = false ∧
    (Instr.ccpApdu { ask 0 [] with length := 1 } .removed).wf = false ∧ (Instr.arcMount { ask 0 [] with length := 1 } .absent).wf = false ∧
    (Instr.tagWrite { ask 0 [] with length := 1 } []).wf = false ∧ (Instr.tagSetPassword { ask 0 [] with length := 1 } []).wf = false ∧
    (Instr.pwrStatus { ask 0 [] with length := 1 } 0).wf = false ∧ (Instr.unitRecalibrate { ask 0 [] with length := 1 } true).wf = false ∧
    (Instr.modCall { ask 0 [] with length := 1 } .runs).wf = false := by decide
theorem test_wf_archive_blocks : (Instr.arcImport (ask 0 []) [] false).wf = true ∧ (Instr.arcImport (ask 0 []) [[1]] false).wf = false := by
  decide
theorem test_wf_data_descriptor : (Instr.dataDescriptor 5 dataDesc).wf = true ∧
    (Instr.dataDescriptor 5 { dataDesc with length := 3 }).wf = false := by decide
theorem test_wf_descriptor_fetch : (Instr.descriptorFetch 5 (.command 0x0100 (excess (.queue 5 0)))).wf = true ∧
    (Instr.descriptorFetch 5 (.command 0x0100 (excess (.queue 6 0)))).wf = false ∧
    (Instr.descriptorFetch 5 (.command 0x0100 (ask 0 []))).wf = false ∧
    (Instr.descriptorFetch 5 (.data { dataDesc with length := 3 })).wf = false := by decide
theorem test_wf_mailbox_write : (Instr.mailboxRequestWrite 0 2047 [1]).wf = true ∧ (Instr.mailboxRequestWrite 0 0 []).wf = false ∧
    (Instr.mailboxRequestWrite 0 2047 [1, 2]).wf = false := by decide
theorem test_wf_unsupported_request : (Instr.barUnsupportedRequest 0 false 0 4096).wf = true ∧
    (Instr.barUnsupportedRequest 0 false 0 0).wf = false ∧ (Instr.barUnsupportedRequest 0 false 0 4097).wf = false := by decide
theorem test_wf_crucible_numbers : (Instr.crucibleJobComplete 159 1).wf = true ∧ (Instr.crucibleJobComplete 160 1).wf = false ∧
    (Instr.crucibleFaultDetected 160 0 0 0).wf = false ∧ (Instr.rawcmdWmulacc (.service 0) 160 0).wf = false ∧
    (Instr.rawcmdWsqracc (.service 0) 160 0).wf = false ∧ (Instr.rawcmdWload (.service 0) 160 0).wf = false ∧
    (Instr.rawcmdWstore (.service 0) 160 0).wf = false ∧ (Instr.rawcmdEnd (.service 0) 160 0).wf = false ∧
    (Instr.rawOperation 160).wf = false ∧ (Instr.rawFault 160).wf = false ∧ (Instr.cruActCycLo (.service 0) 160).wf = false := by decide
theorem test_wf_handshakes : (Instr.handshakeExpiry 0x3FFFFF).wf = true ∧ (Instr.handshakeExpiry 0x400000).wf = false ∧
    (Instr.keyupdatePrepare 0x400000).wf = false := by decide
theorem test_wf_flash : (Instr.eraseComplete 1 true).wf = true ∧ (Instr.eraseComplete 0 true).wf = false ∧
    (Instr.flashWindowRead (.service 0) 4).wf = true ∧ (Instr.flashWindowRead (.service 0) 6).wf = false := by decide
theorem test_wf_detectors : (Instr.tamperAlarm 13 3 false).wf = true ∧ (Instr.tamperAlarm 14 1 false).wf = false ∧
    (Instr.tamperAlarm 0 0 false).wf = false ∧ (Instr.detectorStimulus 14 1).wf = false ∧ (Instr.detectorStimulus 0 0).wf = false ∧
    (Instr.tamperAlarmEnd 13).wf = true ∧ (Instr.tamperAlarmEnd 14).wf = false := by decide
theorem test_wf_power : (Instr.pmAlert [0, 0, 0, 0] false).wf = true ∧ (Instr.pmAlert [0] false).wf = false ∧
    (Instr.avsWindow 100 0 true).wf = true ∧ (Instr.avsWindow 101 0 true).wf = false := by decide
theorem test_wf_mesh : (Instr.meshFlitError 3 4).wf = true ∧ (Instr.meshFlitError 3 3).wf = false ∧ (Instr.meshLinkReroute 3 3).wf = false := by
  decide
theorem test_wf_tag : (Instr.query 0 0 false 2 3).wf = true ∧ (Instr.query 0 0 false 2 4).wf = false ∧
    (Instr.blockwrite 0 0 [7] 0 false []).wf = true ∧ (Instr.blockwrite 0 0 [] 0 false []).wf = false := by decide
theorem test_wf_units : (Instr.spareRotation .service 27 0).wf = true ∧ (Instr.spareRotation .service 28 0).wf = false ∧
    (Instr.spareRotation .lane 0 16).wf = false ∧ (Instr.debugHaltRequest .crucible 159).wf = true ∧
    (Instr.debugHaltRequest .crucible 160).wf = false := by decide
theorem test_wf_events : (Instr.eventRecord 323 0 .none).wf = true ∧ (Instr.eventRecord 0 0 .none).wf = false ∧
    (Instr.eventRecord 324 0 .none).wf = false ∧ (Instr.eventRecord 256 0 (.check 3 true)).wf = true ∧
    (Instr.eventRecord 256 0 (.check 4 true)).wf = false ∧ (Instr.eventRecord 256 0 (.backlog 0)).wf = false ∧
    (Instr.eventRecord 260 0 (.session 0x800000)).wf = false ∧ (Instr.eventRecord 260 0 (.handshake 0x400000)).wf = false ∧
    (Instr.eventRecord 260 0 (.pool (.service 0) 0 none)).wf = false := by decide
theorem test_wf_metrics : (Instr.histogramSample 12 0).wf = true ∧ (Instr.histogramSample 0 0).wf = false ∧
    (Instr.histogramSample 13 0).wf = false := by decide
theorem test_wf_sideband : (Instr.mctpPacket false packet).wf = true ∧
    (Instr.mctpPacket false { packet with body := List.replicate 65 0 }).wf = false ∧
    (Instr.challenge .wire 0 0 (List.replicate 31 0) []).wf = false ∧ (Instr.getMeasurements .wire 0 true [] []).wf = false ∧
    (Instr.getMeasurements .wire 0 false [] []).wf = true := by decide
theorem test_wf_register_writes : (Instr.registerWrite (.host 0 false 8) 0).wf = true ∧ (Instr.registerWrite (.host 0 false 6) 0).wf = false ∧
    (Instr.registerWrite (.internal (.control 0) 6) 0).wf = false := by decide
theorem test_wf_link : (Instr.linkUp 6 16).wf = true ∧ (Instr.linkUp 0 16).wf = false ∧ (Instr.linkUp 7 16).wf = false ∧
    (Instr.linkUp 1 3).wf = false := by decide

/-! ### Figures of the spec's worked examples -/

/-- Worked example of chapter 3: 500 at scale 2, 5 at scale 4, a floor of 5,000 µs and an active saggar with 1,000 µs. -/
def tolerant : State :=
  { State.reset with
    pwr := { State.reset.pwr with floor := 5000 }
    hif := { State.reset.hif with
      ltrEnable := true, ltrSnoop := 2 * 1024 + 500, ltrNoSnoop := 4 * 1024 + 5
      qps := [(1, { bound := some 17 })] }
    vault := { State.reset.vault with saggars := [(17, { live := true, tolerance := 1000 }), (40, { live := true, tolerance := 100 })] } }
theorem test_tolerance_example : tolerant.hostTerm = 512 ∧ tolerant.saggarTerm = 1000 ∧ tolerant.tolerance = 512 := by decide

/-- Worked example of chapter 16: the entry of the tamper log. -/
theorem test_tamper_entry_example :
    tamperBytes { seq := 41, mask := 0x1080, cls := 2, repeats := 0, time := 0x12C4A, lockseq := 7, supply := 0, design := 3 } =
      [0x29, 0, 0, 0, 0x80, 0x10, 2, 0, 0x4A, 0x2C, 1, 0, 7, 0, 0, 3] := by decide

/-- Worked example of chapter 20: row 0x1A3 of bank Y of crucible 12. -/
theorem test_repair_example : macroOf { cls := 1, unit := 12, at_ := 1 } 0x1A3 = (0x100C0007, 35) := by decide

/-- Worked example of chapter 7: grants to saggars 0x21 of weight 3 and 0x30 of weight 1. -/
def grants : Nat → FMap Int → List Nat
  | 0, _ => []
  | n + 1, m => match wrrPick [(0x21, 3), (0x30, 1)] m with | some (h, m') => h :: grants n m' | none => []
theorem test_grants_example : grants 7 [] = [0x21, 0x21, 0x30, 0x21, 0x21, 0x21, 0x30] := by decide

/-- Worked example of chapter 5: a module of service core 5 and the load that is not aligned. -/
def moduleCore : State :=
  State.reset.setCore (.service 5) { (State.reset.core (.service 5)) with
    running := true, armed := true, pc := 0x20151230, st := 0xE0, p := [(1, 0x20164000)], sp := [(1, 0x2017F000), (0, 0x2017E000)]
    vbase := [(0, 0x20140000), (1, 0x20140400)]
    mpu := [(0, fullRegion), (16, fullRegion), (48, fullRegion)] }
/-- The handler's return with the saved ring 3, or with the forged ring 0. -/
def handlerCore (saved : List Byte) : State :=
  { moduleCore.setCore (.service 5) { moduleCore.core (.service 5) with
      pc := 0x20140C40, st := 0x60, sp := [(1, 0x2017EFF8), (0, 0x2017E000)], erdepth := 1, erring := 3 } with
    mem := memWrite 0 [] 0x2017EFF8 (leBytes 4 0x20151234 ++ saved) }

/-- What the example names of the core after a command. -/
def coreFacts (a : Answer) : List Nat :=
  match a with
  | .next s =>
    let k := s.core (.service 5)
    [k.pc.toNat, k.st.toNat, (mapGet 0 k.sp 1).toNat, k.erring.toNat, k.erkind.toNat, k.erdepth.toNat]
  | _ => []
theorem test_module_fault_example :
    coreFacts (exec (.ldw (.service 5) 3 1 0 2) moduleCore) = [0x20140420, 0x60, 0x2017EFF8, 3, 0, 1] := by decide
theorem test_module_fault_saved_words : ∃ t, exec (.ldw (.service 5) 3 1 0 2) moduleCore = .next t ∧
    memRead 0 t.mem 0x2017EFF8 8 = leBytes 4 0x20151230 ++ leBytes 4 0xE0 ∧
    mapGet 0 (t.core (.service 5)).xcause 1 = 2 ∧ mapGet 0 (t.core (.service 5)).xpc 1 = 0x20151230 ∧
    mapGet 0 (t.core (.service 5)).xaddr 1 = 0x20164002 := ⟨_, rfl, by decide⟩
theorem test_forged_return_example :
    coreFacts (exec (.eret (.service 5) 0) (handlerCore (leBytes 4 0x20))) = [0x201400F0, 0, 0x2017EFF8, 7, 0, 2] := by decide
theorem test_handler_return_waits_for_its_slot : ∃ t, exec (.eret (.service 5) 0) (handlerCore (leBytes 4 0xE0)) = .next t ∧
    (t.core (.service 5)).slot = some { from_ := 0x20140C40, kind := .ret 0x20151234 0xE0 1 0x2017EFF8 0x60 } := ⟨_, rfl, by decide⟩

/-! ### Single commands -/

theorem test_add_wraps : ∃ t, exec (.add (.control 0) 3 1 2) (coreAt (.control 0) { g := [(1, 0xFFFFFFFF), (2, 2)] }) = .next t ∧
    (t.core (.control 0)).greg 3 = 1 ∧ (t.core (.control 0)).pc = 4 := ⟨_, rfl, by decide⟩
theorem test_mulh_is_signed : ∃ t, exec (.mulh (.control 0) 3 1 2) (coreAt (.control 0) { g := [(1, 0xFFFFFFFF), (2, 2)] }) = .next t ∧
    (t.core (.control 0)).greg 3 = 0xFFFFFFFF := ⟨_, rfl, by decide⟩
theorem test_step_takes_the_first_command :
    ∃ t, step { wordsCore with pending := [.add (.control 0) 3 1 2, .sub (.control 0) 4 1 2] } = .next t ∧
      t.pending = [.sub (.control 0) 4 1 2] ∧ (t.core (.control 0)).greg 3 = 10 := ⟨_, rfl, by decide⟩

/-! RegisterOperationsWriteTheirResult -/

theorem witness_ready : ready (.control 0) (coreAt (.control 0) {}) = true := by decide

/-! CheckedOperationsAndDivisionsWriteTheirResult -/

theorem witness_checked : ready (.control 0) wordsCore = true ∧
    inWord (((wordsCore.core (.control 0)).greg 1).toInt + ((wordsCore.core (.control 0)).greg 2).toInt) ∧
    inWord (((wordsCore.core (.control 0)).greg 1).toInt + (5 : BitVec 14).toInt) ∧
    (wordsCore.core (.control 0)).greg 2 ≠ 0 := by decide

/-! ArithmeticExceptionsArePreciseUnderPxElseWriteTheTableValue -/

theorem witness_overflow : ready (.control 0) bigCore = true ∧ (bigCore.core (.control 0)).px = false ∧
    ¬ inWord (((bigCore.core (.control 0)).greg 1).toInt + ((bigCore.core (.control 0)).greg 1).toInt) ∧
    (bigCore.core (.control 0)).greg 2 = 0 := by decide
theorem witness_overflow_precise : ready (.control 0) (coreAt (.control 0) { st := 0x10, g := [(1, 0x7FFFFFFF)] }) = true ∧
    ((coreAt (.control 0) { st := 0x10, g := [(1, 0x7FFFFFFF)] }).core (.control 0)).px = true := by decide

/-! ImmediateOperationsWriteTheirResult -/

theorem witness_shift_bounds : (31 : BitVec 14).toNat < 32 ∧ 32 ≤ (32 : BitVec 14).toNat := by decide

/-! PointerOperationsFollowTheirRows -/

theorem witness_pointer_fields : (7 : BitVec 5).toNat < 8 ∧ 8 ≤ (8 : BitVec 5).toNat := by decide

/-! WideAccumulatorOperationsRunOnCruciblesOnly -/

theorem witness_wide : ready (.crucible 3) jobCore = true ∧ (8 : BitVec 5).toNat ≤ 8 ∧
    selectorOk (jobCore.crucible 3) ((jobCore.core (.crucible 3)).greg 1) = true ∧
    operandRight jobCore (.crucible 3) (jobCore.core (.crucible 3)).ring 3 = .full ∧
    (wideRead (.crucible 3) 3 0x101 1 (jobCore.core (.crucible 3)) jobCore).toOption = some (0, jobCore) ∧
    ready (.control 0) (coreAt (.control 0) {}) = true := by decide
theorem witness_wmacd : ready (.crucible 3) bankCore = true ∧
    laUpdate (bankCore.core (.crucible 3)) 0 1 16 = some (some 16) ∧
    inBank (.crucible 3) false ((bankCore.core (.crucible 3)).ptr 0).toNat 16 8 = true ∧
    inBank (.crucible 3) true ((bankCore.core (.crucible 3)).ptr 1).toNat 16 8 = true ∧
    (loadBytes (.crucible 3) (bankCore.core (.crucible 3)).ring ((bankCore.core (.crucible 3)).ptr 0) 16 bankCore).toOption.isSome = true := by
  decide

/-! LoadsWriteTheLoadedValueAndThePointerUpdate -/

theorem witness_load : ready (.control 0) ramCore = true ∧
    lmMode (ramCore.core (.control 0)) 0 1 0 4 = some (0x21000000, some 4) ∧
    (loadBytes (.control 0) 0 0x21000000 4 ramCore).toOption.isSome = true ∧
    (loadBytes (.control 0) 0 0x3000000 4 ramCore).toOption = none ∧ (0x21000002 : Addr).toNat % 4 ≠ 0 := by decide

/-! StoresWriteExactlyTheirBytes -/

theorem witness_store : ready (.control 0) ramCore = true ∧
    lmMode (ramCore.core (.control 0)) 0 1 0 4 = some (0x21000000, some 4) ∧
    storeGranted (.control 0) 0x21000000 4 ramCore = true := by decide

/-! SlotWordRunsBeforeTheTransferTakesEffect -/

theorem witness_slot : inSlot (.control 0) 0 0x40 (coreAt (.control 0) { pc := 4, slot := some { from_ := 0, kind := .branch 0x40 } }) = true := by
  decide

/-! LoopWordsArmAndCloseTheirLevel -/

theorem witness_loop : ready (.control 0) wordsCore = true ∧ (2 : BitVec 2) ≠ 3 ∧ (1 : BitVec 12) ≠ 0 ∧
    (1 : BitVec 10) ≠ 0 ∧ (wordsCore.core (.control 0)).greg 1 ≠ 0 := by decide
theorem witness_loop_end :
    let s (n : Word) := coreAt (.control 0) { pc := 8, ls := [(1, 4)], le := [(1, 8)], lc := [(1, n)] }
    ready (.control 0) ((s 5).setCore (.control 0) { (s 5).core (.control 0) with lc := [] }) = true ∧
      ((s 5).core (.control 0)).endsAt 8 1 = true ∧ ((s 1).core (.control 0)).endsAt 8 1 = true := by decide

/-! GateAndReturnWordsOpenTheirTransfer -/

theorem witness_gate : ready (.control 0) gateCore = true ∧ (gateCore.core (.control 0)).armed = true ∧
    (gateChecks (.control 0) (gateCore.core (.control 0)) 0 gateCore).toOption = some (0x21000040, 0) ∧
    stackCheck (.control 0) 0 gateCore = none ∧
    (gateChecks (.control 0) (gateCore.core (.control 0)) 9 gateCore).toOption = none := by decide
theorem witness_return (gate : Bool) : let s := returnCore gate
    ready (.control 0) s = true ∧ (s.core (.control 0)).armed = true ∧
    (poppedWords (.control 0) 0 (s.core (.control 0)) s).toOption = some (0x21000080, 0x40, s) ∧
    (s.core (.control 0)).erdepth ≠ 0 ∧ (s.core (.control 0)).topGate = gate ∧
    stRing 0x40 = (s.core (.control 0)).topRing ∧ hasRing (.control 0) (stRing 0x40) = true := by
  cases gate <;> decide
theorem witness_dfret : let s := coreAt (.control 0) { armed := true, df := true, mpu := [(0, { limit := 0xFFFFFFFF, attr := 0xF })] }
    ready (.control 0) s = true ∧ (s.core (.control 0)).df = true ∧ (s.core (.control 0)).erdepth = 0 ∧
      (poppedWords (.control 0) 0 (s.core (.control 0)) s).toOption.isSome = true := by decide

/-! SpecialRegistersAreReadAndWrittenByNumber -/

theorem witness_special : ready (.control 0) (coreAt (.control 0) {}) = true ∧ specialGrant (.control 0) 0 0x44 false = true ∧
    specialGrant (.control 0) 0 0x44 true = true ∧ selectedRingOk (.control 0) ((coreAt (.control 0) {}).core (.control 0)) 0x44 = true ∧
    specialGrant (.control 0) 0 0x7F false = false ∧ specialGrant (.control 0) 0 0x22 true = false ∧
    (specialWrite ((coreAt (.control 0) {}).core (.control 0)) 0x44 0).eventPending = false ∧
    [2, 1, 0].any ((specialWrite ((coreAt (.control 0) {}).core (.control 0)) 0x44 0).endsAt 0) = false := by decide

/-! MultiplyAccumulateReadsBothBanks -/

theorem witness_macd : ready (.control 0) macCore = true ∧
    laUpdate (macCore.core (.control 0)) 0 1 4 = some (some 4) ∧ laUpdate (macCore.core (.control 0)) 1 0 4 = some none ∧
    inBank (.control 0) false ((macCore.core (.control 0)).ptr 0).toNat 4 4 = true ∧
    inBank (.control 0) true ((macCore.core (.control 0)).ptr 1).toNat 4 4 = true ∧
    inBank (.control 0) false ((macCore.core (.control 0)).ptr 2).toNat 4 4 = false ∧
    (loadBytes (.control 0) 0 ((macCore.core (.control 0)).ptr 0) 4 macCore).toOption.isSome = true ∧
    (loadBytes (.control 0) 0 ((macCore.core (.control 0)).ptr 1) 4 macCore).toOption.isSome = true := by decide
theorem witness_pair : let k := wordsCore.core (.control 0)
    decodePair (.control 0) 0x0C450C86 = some (.movi 1 5, .movi 2 6) ∧ shortRun (.control 0) (.movi 1 5) k wordsCore = .core (k.setG 1 5) ∧
    shortRun (.control 0) (.movi 2 6) (k.setG 1 5) (wordsCore.setCore (.control 0) (k.setG 1 5)) = .core ((k.setG 1 5).setG 2 6) ∧
    ((k.setG 1 5).setG 2 6).eventPending = false ∧ [2, 1, 0].any (((k.setG 1 5).setG 2 6).endsAt k.pc) = false ∧
    decodePair (.control 0) 0x3C000C86 = none := by decide

/-! ExceptionEntrySavesReturnAddressAndStatus -/

theorem witness_break : ready (.control 0) gateCore = true ∧ (gateCore.core (.control 0)).armed = true ∧
    (gateCore.core (.control 0)).df = false ∧ stackCheck (.control 0) 0 gateCore = none := by decide

/-! UnarmedOrDoublyFaultedCoreHalts -/

theorem witness_halt : ready (.control 0) (coreAt (.control 0) {}) = true ∧
    ((coreAt (.control 0) {}).core (.control 0)).armed = false := by decide
theorem witness_double : let s := coreAt (.control 0) { armed := true, mpu := [(0, { limit := 0xFFFFFFFF, attr := 0xF })] }
    ready (.control 0) s = true ∧ (s.core (.control 0)).armed = true ∧ (s.core (.control 0)).df = false ∧
      stackCheck (.control 0) 0 s = some 1 := by decide

/-! CoreEventsAreRecordedAndTakenWhenAdmitted -/

theorem witness_events : let k : Thrower := { running := true, st := 0x20, imask := 1, watchdog := false }
    admits k = true ∧ k.machineCheck = none ∧ k.watchdog = false ∧ (1 : Word) &&& k.imask ≠ 0 ∧ (2 : Word) &&& k.imask = 0 ∧
    admits { k with watchdog := true } = true := by decide

/-! MailboxAreaControlAndDoorbellFollowTheirState -/

theorem witness_mailbox : reachable 0 hostUp = true ∧ (hostUp.box 0).state ≠ 1 ∧ ((hostUp.setBox 0 { state := 1 }).box 0).state = 1 ∧
    reachable 0 (hostUp.setBox 0 { state := 1 }) = true ∧ (0x1F0001 : Word).toNat / 2 ^ 16 % 2 ^ 11 < 32 ∧
    32 ≤ (0x200000 : Word).toNat / 2 ^ 16 % 2 ^ 11 ∧
    knownOpcode (areaReq 0 ((hostUp.setBox 0 { req := [(1, 1)] }).box 0)).1 = true ∧ (2047 : BitVec 11).toNat + 1 ≤ 2048 := by decide

/-! EnablingAQueuePairFollowsItsConfiguration -/

theorem witness_enable : let s (n : BitVec 4) := hostUp.setQp 0 { assigned := true, size := n }
    reachable 0 (s 4) = true ∧ selects 0 0 (s 4) = true ∧ ((s 4).qp 0).state = 0 ∧ validConfig ((s 4).qp 0) = true ∧
    validConfig ((s 12).qp 0) = true ∧ validConfig ((s 13).qp 0) = false ∧ selects 0 0 (s 13) = true ∧ ((s 4).qp 0).bound = none := by
  decide

/-! QueuePairsAreAssignedDisabledAndDrained -/

theorem witness_drain : let s (n : BitVec 2) := hostUp.setQp 0 { assigned := true, state := n, reserved := 2 }
    reachable 0 (s 1) = true ∧ selects 0 0 (s 1) = true ∧ ((s 1).qp 0).state = 1 ∧ selects 0 0 (s 3) = true ∧ ((s 3).qp 0).state = 3 ∧
    ((s 0).qp 0).bound = none ∧ ((s 0).qp 0).state = 0 ∧ ((s 2).qp 0).state = 2 ∧ queueTasks 0 (s 2) = 0 ∧ ((s 2).qp 0).held = [] := by
  decide

/-! DoorbellIndexesPostReleaseOrPutInError -/

theorem witness_doorbell : let s := hostUp.setQp 0 { assigned := true, state := 1, size := 4, cqTail := 3, consumed := 3 }
    reachable 0 s = true ∧ (s.qp 0).assigned = true ∧ (s.qp 0).owner = 0 ∧ released (s.qp 0) 2 = 2 ∧ (s.qp 0).unread = 3 ∧
    (15 : BitVec 12).toNat < (s.qp 0).ring ∧ (s.qp 0).ring ≤ (16 : BitVec 12).toNat ∧ (s.qp 0).unread < released (s.qp 0) 4 ∧
    ((s.qp 1).assigned = false) := by decide

/-! FetchTakesOneReservationAndOneCredit -/

theorem witness_fetch : let x : QueuePair := { assigned := true, state := 1, sqTail := 1, returned := 1, bound := some 5, reserved := 0 }
    let s : State := { hostUp with hif := { hostUp.hif with qps := [(0, x)] } }
    awake s = true ∧ s.tal.hold = false ∧ s.tokenWait = [] ∧ s.tasks = [] ∧ qpWants x = true ∧ s.tokensFree ≠ 0 ∧
    ({ s with hif := { s.hif with tokensOut := 65536 } } : State).tokensFree = 0 ∧ s.hif.exhausted = false ∧
    fetches 0 (s.setQp 0 { x with reserved := 1 }) = true := by decide

/-! MessagesFollowMasksAndRefusedRequestsAreRecorded -/

theorem witness_messages : let e : MsixEntry := { address := 0x1000, data := 7, masked := false }
    let s := (hostUp.setFn 0 { memEnable := true, msixEnable := true, msix := [(0, e), (1, { e with masked := true })], pba := 2 }).setQp 0 { ie := true, counted := 1 }
    (s.qp 0).ie = true ∧ (s.fn 0).msixEnable = true ∧ (mapGet {} (s.fn 0).msix 0).masked = false ∧ (s.fn 0).pba.getLsbD 1 = true ∧
    (mapGet {} (s.fn 0).msix 1).masked = true ∧ (mapGet {} (s.fn 0).msix 2).masked = true ∧ (s.fn 0).pba.getLsbD 2 = false ∧ reachable 0 s = true := by
  decide
theorem witness_refused : (hostUp.setFn 0 {}).fnExists 0 = true ∧ hostUp.pwr.released = true ∧ ((hostUp.setFn 0 {}).fn 0).memEnable = false ∧
    ((hostUp.setFn 0 {}).fn 0).busMaster = false ∧ (hostUp.setFn 0 {}).tasks = [] := by decide

/-! FunctionAndLinkEventsResetTheHostInterface -/

theorem witness_resets : hostUp.tasks = [] ∧ hostUp.fnExists 0 = true ∧ hostUp.pwr.released = true ∧ hostUp.sup.perstN = true ∧
    hostUp.hif.linkUp = true ∧ awake hostUp = true ∧ ballControl hostUp.side.ir = false ∧
    ({ hostUp with sup := { hostUp.sup with perstN := false } } : State).sup.perstN = false ∧
    (let y : Session := { live := true, msgs := [(0, { qp := some 7 })], cur := some 0 }
     let s := { hostUp with vault := { hostUp.vault with sessions := [(3, y)] }, hif := { hostUp.hif with qps := [(7, { assigned := true })] } }
     s.tasks = [] ∧ s.vault.sessions = [(3, y)] ∧ (s.qp 7).assigned = true ∧ (s.qp 7).owner = 0) ∧
    (∀ e ∈ hostUp.vault.sessions, e.2.msgs = []) := by decide

/-! ReadingCommandsReportWhatTheStateHolds -/

theorem witness_reading : accepted specSysIdentify (ask 0xFFFF []) fired = true ∧ accepted specSysGetCaps (ask 0xFFFF []) fired = true ∧
    accepted specPwrStatus (ask 0xFFFF []) fired = true ∧ accepted specSysGetHealth (ask 0xFFFF []) fired = true := by decide

/-! SystemSettingsAndUnitsChangeAsCommanded -/

theorem witness_settings : accepted specSysSetTime (ask 0xFFFF (leBytes 16 5)) fired = true ∧ fired.tal.isOpen = false ∧
    accepted specPwrSetFloor (ask 0xFFFF (leBytes 4 40)) fired = true ∧ awake (taken specPwrSetFloor (ask 0xFFFF (leBytes 4 40)) fired) = true := by
  decide
theorem witness_reset_function : let s : State := { fired with hif := { fired.hif with vfEnable := true } }
    accepted specSysResetFunction (ask 0xFFFF [1, 0, 0, 0]) s = true ∧ s.fnExists 1 = true ∧ s.tasks = [] := by decide
theorem witness_units : let n := taken specUnitRetire (ask 0xFFFF [0, 0, 15, 0]) fired;
    accepted specUnitRetire (ask 0xFFFF [0, 0, 15, 0]) fired = true ∧ n.role 15 = .spare ∧ n.tasks = [] ∧ n.cru = [] ∧
    activeAfter .lane 15 n ≠ 0 ∧ ((n.setRole 15 .retired).role 15 = .retired) ∧
    accepted specUnitRetire (ask 0xFFFF [0, 0, 15, 0]) (fired.setRole 15 .retired) = true ∧
    accepted specUnitRecalibrate (ask 0xFFFF [0, 0, 9, 0]) fired = true ∧ fired.pwr.unlocked = 0 ∧
    accepted specUnitRecalibrate (ask 0xFFFF [2, 0, 7, 0]) fired = true := by decide

/-! PatchImagesAndModulesChangeHands -/

theorem witness_updates : let stage := { ask 0xFFFF (leBytes 8 0 ++ leBytes 4 4 ++ leBytes 4 0 ++ leBytes 4 256 ++ leBytes 4 0) with data := [1, 2, 3, 4] }
    let s : State := { fired with upd := { bankA := { verified := true }, bankB := { verified := true }, running := some false, staged := 256 } }
    let n := taken specUpdStage stage s;
    accepted specUpdStage stage s = true ∧ n.tasks = [] ∧ stage.field 8 4 = 4 ∧ stage.field 16 4 = n.upd.staged ∧
    chunkRefused (chunkWork (bankBase n.otherBank) 256 [1, 2, 3, 4] n) n = none ∧
    accepted specUpdActivate (ask 0xFFFF []) s = true ∧ accepted specUpdRollback (ask 0xFFFF []) s = true ∧
    (s.bank s.otherBank).verified = true ∧ (s.bank s.otherBank).format = s.stateFormat := by decide
theorem witness_modules :
    let img := leBytes 2 1 ++ leBytes 2 2 ++ leBytes 2 0xFFFF ++ leBytes 2 1 ++ leBytes 8 0 ++ leBytes 4 4 ++ leBytes 4 0 ++
      leBytes 4 100 ++ leBytes 4 0 ++ leBytes 4 168 ++ leBytes 28 0 ++ leBytes 104 0
    let load := { ask 0xFFFF (leBytes 8 0 ++ leBytes 4 168 ++ leBytes 4 0) with data := img }
    let s : State := { fired with flash := { fired.flash with items := [(0x0A00, [4])] } }
    accepted specModLoad load s = true ∧ imageOk img 168 0xFFFF = true ∧ (taken specModLoad load s).item 0x0A00 ≠ [] ∧
    (taken specModLoad load s).vault.modules = [] ∧ load.field 12 4 = 0 := by decide
theorem witness_calls : let s : State := { fired with vault := { modules := [(0, { live := true, gates := 1, image := [0] })], saggars := [(1, { live := true })] } }
    let h := leBytes 8 (moduleHandle s 0).toNat;
    let call := ask 1 (h ++ leBytes 8 0);
    accepted specModUnload (ask 0xFFFF h) s = true ∧ findModule (Req64 (ask 0xFFFF h) 0) (taken specModUnload (ask 0xFFFF h) s) = some 0 ∧
    accepted specModCall call s = true ∧ findModule (Req64 call 0) (taken specModCall call s) = some 0 ∧ respFits call 8 = none ∧
    ((s.setTask 0 { opcode := 0x0F12, work := [.call] }).task 0).work = [.call] := by decide

/-! SaggarCommandsChangeTheSaggarTheyName -/

/-- The part with a live saggar 1 of function 0, a queue pair of that function, and an entropy source that has passed its test. -/
def vaultUp : State :=
  { fired with
    vault := { saggars := [(1, { live := true, unsaved := true, policy := 0xF })], log := [], keys := [], sessions := [] }
    bk := { fired.bk with lock := 0 }
    ent := { state := 1, tested := true, inst := 1 }
    hif := { fired.hif with qps := [(7, { assigned := true })] } }
theorem witness_sag_create : let rq := ask 0xFFFF (leBytes 2 0 ++ leBytes 2 1 ++ leBytes 4 64 ++ leBytes 8 0)
    accepted specSagCreate rq vaultUp = true ∧ saggarPolicyOk (Req64 rq 8) = true ∧ freeSaggar (taken specSagCreate rq vaultUp) = some 0 ∧
    quotasBut 4096 vaultUp + 64 ≤ 49152 ∧ drawStatus (taken specSagCreate rq vaultUp) = none := by decide
theorem witness_sag_settings : let rq := ask 1 (leBytes 8 0xF ++ leBytes 2 1000 ++ leBytes 2 0 ++ leBytes 4 49152);
    accepted specSagSetPolicy rq vaultUp = true ∧ saggarPolicyOk (Req64 rq 0) = true ∧ (let n := taken specSagSetPolicy rq vaultUp; (n.setSaggar 1 { n.saggar 1 with policy := Req64 rq 0 }).hotReserved ≤ 49152) ∧
    quotasBut 1 vaultUp + 49152 ≤ 49152 ∧ accepted specSagSetLatency (ask 1 (leBytes 4 0xFFFFF)) vaultUp = true ∧
    (vaultUp.saggar 1).tolerance.toNat ≤ 0xFFFFF ∧ accepted specSagQuery (ask 1 []) vaultUp = true := by decide
theorem witness_sag_binding : let rq := ask 1 (leBytes 2 7 ++ leBytes 2 0)
    accepted specSagBindQueue rq vaultUp = true ∧ ((taken specSagBindQueue rq vaultUp).qp 7).assigned = true ∧
    ((taken specSagBindQueue rq vaultUp).qp 7).bound = none ∧
    (let rq := ask 1 (leBytes 2 7 ++ [1, 0]); let s := vaultUp.setQp 7 { vaultUp.qp 7 with bound := some 1 }
     accepted specSagBindQueue rq s = true ∧ queueWork 7 (taken specSagBindQueue rq s) = []) ∧ accepted specSagDestroy (ask 1 []) vaultUp = true ∧ vaultUp.jobs = [] ∧
    (vaultUp.saggar 1).unsaved = true ∧ vaultUp.bk.lock = 0 ∧ drawStatus vaultUp = none ∧ (vaultUp.saggar 2).unsaved = false := by decide

/-! KeyCommandsActOnTheKeyTheyName -/

/-- The same part with an AES-256 key 0 that may be wrapped, a P-256 credential 1 and a KDF secret 2, all of saggar 1. -/
def keysUp : State :=
  { vaultUp with vault := { vaultUp.vault with keys :=
      [(0, { live := true, saggar := 1, alg := 2, bits := 256, material := List.replicate 32 1, policy := 0x10707 }),
       (1, { live := true, saggar := 1, alg := 0x101, bits := 256, material := List.replicate 32 2, policy := 0x20838 }),
       (2, { live := true, saggar := 1, alg := 0x201, bits := 256, material := List.replicate 32 3, policy := 0x10480 })] } }
def keyBytes (i : Nat) : List Byte := leBytes 8 (keyHandle keysUp i).toNat
theorem witness_key_generate : let rq := ask 1 (leBytes 2 1 ++ leBytes 2 0 ++ leBytes 4 0 ++ leBytes 8 0x10003 ++ leBytes 8 5 ++ leBytes 16 0)
    accepted specKeyGenerate rq vaultUp = true ∧ generateBits 1 0 = some 128 ∧ keyClass 1 128 = some (.aes 16) ∧
    policyOk (.aes 16) false (Req64 rq 8) = true ∧ policyBits (Req64 rq 8) = true ∧ respFits rq 16 = none ∧
    usageLimit (vaultUp.saggar 1) 1 128 (Req64 rq 16) = some 5 ∧ cacheRoom 1 1 0 (taken specKeyGenerate rq vaultUp) = true := by decide
theorem witness_key_created : ∃ i u, createKey { alg := 1, bits := 128, material := List.replicate 16 9 } vaultUp = some (i, u) := ⟨_, _, rfl⟩
theorem witness_key_rotate : let rq := ask 1 (keyBytes 1 ++ leBytes 8 1);
    accepted specKeyRotate rq keysUp = true ∧ findKey rq (Req64 rq 0) false (taken specKeyRotate rq keysUp) = some 1 ∧
    cacheRoom 1 1 0 (taken specKeyRotate rq keysUp) = true ∧ drawStatus keysUp = none := by decide
theorem witness_key_export : let rq := ask 1 (keyBytes 0 ++ leBytes 8 0);
    accepted specKeyExportWrapped rq keysUp = true ∧ findKey rq (Req64 rq 0) false (taken specKeyExportWrapped rq keysUp) = some 0 ∧
    respFits rq (72 + blobLen 2 256) = none ∧ (keysUp.key 0).policy.getLsbD 10 = true := by decide
theorem witness_key_import :
    let blob := leBytes 2 0x101 ++ leBytes 2 1 ++ leBytes 2 128 ++ leBytes 2 1 ++ leBytes 8 0x10003 ++ leBytes 8 5 ++ leBytes 8 2 ++
      leBytes 12 0 ++ leBytes 4 16 ++ leBytes 32 0
    let rq := ask 1 (leBytes 8 0 ++ leBytes 4 80 ++ leBytes 4 0 ++ blob);
    accepted specKeyImportWrapped rq vaultUp = true ∧ rq.field 8 4 = blob.length ∧ blobSizeOk 1 128 16 = true ∧
    usageLimit (vaultUp.saggar 1) 1 128 5 = some 5 ∧ (taken specKeyImportWrapped rq vaultUp).vault.keys = [] := by decide
theorem witness_key_derive : let rq := ask 1 (keyBytes 2 ++ leBytes 2 0x201 ++ leBytes 2 1 ++ leBytes 2 16 ++ leBytes 2 0 ++ leBytes 8 0x10003 ++
      leBytes 8 0 ++ leBytes 2 0 ++ leBytes 6 0);
    accepted specKeyDerive rq keysUp = true ∧ findKey rq (Req64 rq 0) false (taken specKeyDerive rq keysUp) = some 2 ∧
    deriveLenOk 1 16 = true ∧ policyOk (.aes 16) false (Req64 rq 16) = true ∧ cacheRoom 1 1 0 (taken specKeyDerive rq keysUp) = true := by decide
theorem witness_key_destroy : accepted specKeyDestroy (ask 1 (keyBytes 0)) keysUp = true ∧ keysUp.jobs = [] ∧
    accepted specKeyQuery (ask 1 (keyBytes 0)) keysUp = true ∧
    findKey (ask 1 (keyBytes 0)) (Req64 (ask 1 (keyBytes 0)) 0) true (taken specKeyQuery (ask 1 (keyBytes 0)) keysUp) = some 0 := by decide
theorem witness_key_chain : let rq := { ask 1 (keyBytes 1 ++ leBytes 8 0 ++ leBytes 4 5 ++ leBytes 4 0) with data := [0, 0, 0, 0, 0] }
    accepted specKeySetChain rq keysUp = true ∧ findKey rq (Req64 rq 0) false (taken specKeySetChain rq keysUp) = some 1 ∧
    (keysUp.key 1).policy.getLsbD 11 = true ∧ entriesFill 5 (padTo 5 rq.data) = true := by decide

/-! SessionCommandsActOnTheSessionTheyName -/

/-- The same part with an AES-256-GCM session 3 on key 0 and a SHA-256 session 4. -/
def sessionsUp : State :=
  { keysUp with vault := { keysUp.vault with sessions :=
      [(3, { live := true, saggar := 1, key := keyHandle keysUp 0, alg := 2, tagLen := 16 }), (4, { live := true, saggar := 1, alg := 8 })] } }
def sessionBytes (i : Nat) : List Byte := leBytes 8 (sessionHandle sessionsUp i).toNat
theorem witness_ses_open : let rq := ask 1 (keyBytes 0 ++ leBytes 2 2 ++ [0, 0, 16, 0, 0, 0] ++ leBytes 16 7);
    accepted specSesOpen rq keysUp = true ∧ findKey rq (Req64 rq 0) false (taken specSesOpen rq keysUp) = some 0 ∧
    keyServes 2 (keysUp.key 0) = true ∧ policyServes 2 false (keysUp.key 0) = true ∧ rq.field 28 4 = 0 ∧ rq.field 13 3 = 0 ∧
    accepted specSesOpen (ask 1 (leBytes 8 0 ++ leBytes 2 8 ++ [0, 0, 16, 0, 0, 0] ++ leBytes 16 0)) keysUp = true := by decide
theorem witness_ses_close : let rq := ask 1 (sessionBytes 3);
    accepted specSesClose rq sessionsUp = true ∧ findSession 1 (Req64 rq 0) (taken specSesClose rq sessionsUp) = some 3 ∧
    accepted specSesQueryUsage rq sessionsUp = true ∧ sessionKey (sessionsUp.session 3) (taken specSesQueryUsage rq sessionsUp) = some 0 ∧
    (sessionsUp.session 3).key ≠ 0 := by decide
theorem witness_ses_save : let clear := ask 1 (sessionBytes 3 ++ leBytes 8 0); let wrapped := ask 1 (sessionBytes 3 ++ leBytes 8 1);
    accepted specSesSaveContext clear sessionsUp = true ∧ usableSession clear (taken specSesSaveContext clear sessionsUp) = some 3 ∧
    accepted specSesSaveContext wrapped sessionsUp = true ∧ (sessionsUp.saggar 1).policy.getLsbD 0 = true ∧ respFits wrapped 112 = none := by decide
theorem witness_ses_restore : let c := leBytes 2 1 ++ leBytes 2 8 ++ [0, 0, 104, 0] ++ leBytes 8 0 ++ leBytes 104 0
    let rq := ask 1 (sessionBytes 4 ++ [0, 0, 0, 0] ++ leBytes 4 120 ++ c);
    accepted specSesRestoreContext rq sessionsUp = true ∧ usableSession rq (taken specSesRestoreContext rq sessionsUp) = some 4 ∧
    contextFits (sessionsUp.session 4) (rq.payload.drop 16) = true ∧ rq.field 12 4 = (rq.payload.drop 16).length := by decide

/-! PublicKeyCommandsStartTheirOperationOrRejectTheirInput -/

theorem witness_pk_sign : let rq := ask 1 (keyBytes 1 ++ [0, 0, 0, 0] ++ leBytes 4 32 ++ leBytes 32 5);
    accepted specPkSign rq keysUp = true ∧ findKey rq (Req64 rq 0) false (taken specPkSign rq keysUp) = some 1 ∧ canSign 0x101 = true ∧
    respFits rq (8 + signatureLen 0x101 256) = none ∧ (keysUp.key 1).policy.getLsbD 3 = true ∧ drawStatus keysUp = none := by decide
theorem witness_pk_verify : let rq := ask 1 (leBytes 8 0 ++ leBytes 2 0x101 ++ [1, 0] ++ leBytes 4 1 ++ leBytes 4 64 ++ leBytes 4 65 ++ leBytes 130 7);
    accepted specPkVerify rq keysUp = true ∧ rq.payload.length = 24 + 1 + 64 + 65 ∧ hashField rq 11 0x101 = 0 := by decide
theorem witness_pk_keypair : let rq := ask 1 (leBytes 2 0x104 ++ leBytes 6 0 ++ leBytes 8 0x20020)
    accepted specPkKeypair rq vaultUp = true ∧ generateBits 0x104 0 = some 255 ∧ keyClass 0x104 255 = some .x25519 ∧
    policyOk .x25519 false (Req64 rq 8) = true ∧ policyBits (Req64 rq 8) = true ∧ (taken specPkKeypair rq vaultUp).vault.keys = [] := by decide
theorem witness_pk_agree : let rq := ask 1 (keyBytes 1 ++ leBytes 4 65 ++ leBytes 4 0 ++ leBytes 8 0 ++ leBytes 65 4);
    accepted specPkAgree rq keysUp = true ∧ findKey rq (Req64 rq 0) false (taken specPkAgree rq keysUp) = some 1 ∧ canAgree 0x101 = true ∧
    (keysUp.key 1).policy.getLsbD 5 = true ∧ respFits rq 48 = none := by decide
theorem witness_pk_encaps : let rq := ask 1 (leBytes 2 0x120 ++ leBytes 6 0 ++ leBytes 8 0 ++ leBytes 4 800 ++ leBytes 4 0 ++ leBytes 800 1);
    accepted specPkEncaps rq keysUp = true ∧ rq.payload.length = 24 + rq.field 16 4 ∧ respFits rq (48 + ciphertextLen 0x120) = none := by decide
theorem witness_pk_decaps :
    let s := keysUp.setKey 5 { live := true, saggar := 1, alg := 0x120, bits := 512, material := List.replicate 64 4, policy := 0x20040 }
    let rq := ask 1 (keyBytes 5 ++ leBytes 8 0 ++ leBytes 8 0 ++ leBytes 4 768 ++ leBytes 4 0 ++ leBytes 768 1);
    accepted specPkDecaps rq s = true ∧ findKey rq (Req64 rq 0) false (taken specPkDecaps rq s) = some 5 ∧ rq.field 24 4 = ciphertextLen 0x120 := by
  decide
/-- A part whose clusters 0 and 1 form the raw group. -/
def rawUp : State := { vaultUp with arr := { raw := 3 } }
theorem witness_pk_lease : let rq := ask 1 ([2, 8, 0, 0] ++ leBytes 4 100);
    accepted specPkLeaseRaw rq rawUp = true ∧ 2 ≤ (poolList (taken specPkLeaseRaw rq rawUp)).length ∧ (rawUp.saggar 1).policy.getLsbD 3 = true ∧
    (taken specPkLeaseRaw rq rawUp).vault.leases = [] := by decide
theorem witness_pk_release : let s := rawUp.setLease 4 { live := true, saggar := 1, crucibles := [0], limit := 100 }
    let rq := ask 1 (leBytes 8 (leaseHandle s 4).toNat);
    accepted specPkReleaseRaw rq s = true ∧ findLease 1 (Req64 rq 0) (taken specPkReleaseRaw rq s) = some 4 := by decide

/-! LowWordsReadTheCounterAndLatchItsHighWord -/

theorem witness_latch : mayAccess (.control 0) 0 0x1900020 (coreAt (.control 0) {}) = true ∧
    mayAccess (.crucible 3) 0 0x2300008 (coreAt (.crucible 3) {}) = true ∧ mayAccess (.service 1) 0 (0x141000C + 0x100 * 159) (coreAt (.service 1) {}) = true ∧
    mayAccess (.control 1) 0 (0x1310008 + 0x1000 * 15) (coreAt (.control 1) {}) = true ∧
    executes0 (.control 0) (coreAt (.control 0) { armed := true }) = true ∧
    mpuGrant ((coreAt (.control 0) { armed := true }).core (.control 0)) 0 0 0x1900020 4 = false ∧
    (State.reset.core (.control 0)).running = false := by decide

/-! RegisterWritesOutsideTheirRangeLeaveTheRegister -/

theorem witness_reg_writes : mayAccess (.control 0) 1 0x1900014 (coreAt (.control 0) {}) = true ∧
    mayAccess (.crucible 3) 1 0x190001C (coreAt (.crucible 3) {}) = true ∧ mayAccess (.service 1) 1 0x1300120 (coreAt (.service 1) {}) = true ∧
    (∀ n, (CoreId.service 1) ≠ .crucible n) ∧ mayAccess (.control 1) 1 0x1A00044 (coreAt (.control 1) {}) = true ∧
    mayAccess (.control 1) 1 0x2100010 (coreAt (.control 1) {}) = true := by
  refine ⟨by decide, by decide, by decide, ?_, by decide, by decide⟩
  intro n h; cases h
theorem witness_reserve : let s : State := { coreAt (.control 0) {} with pwr := { clusters := 0, lanes := 0 } }
    s.pwr.clusters = 0 ∧ s.pwr.lanes = 0 ∧ eligible2 s = true := by decide
theorem witness_reg_more : let s : State := { coreAt (.control 0) {} with lcs := { state := 1 }, lanes := { loading := true, loadOf := 0x80011020 } }
    mayAccess (.control 0) 1 0x1C00030 s = true ∧ s.lcs.state = 1 ∧ s.tasks = [] ∧ s.ent.gen = [] ∧ s.ent.parked = [] ∧
    s.ent.mode.toNat ≠ 2 ∧ s.lanes.loading = true ∧ s.lanes.loadOf.toNat / 16 % 4 < 3 ∧
    mayAccess (.control 0) 1 0x1C00030 (coreAt (.control 0) {}) = true ∧ (coreAt (.control 0) {}).lcs.state ≠ 1 := by decide

/-! RawCommandsFlashCommandsAndRegisterWritesTakeEffect -/

theorem witness_raw_queue : mayAccess (.control 0) 1 (0x1410064 + 0x100 * 7) (coreAt (.control 0) {}) = true ∧
    mayAccess (.control 0) 1 0x2000004 (coreAt (.control 0) {}) = true ∧ (coreAt (.control 0) {}).flash.prog = none ∧
    (coreAt (.control 0) {}).flash.era = none ∧ mayAccess (.control 0) 0 (0x4000000 + 0x1FFFFFC) (coreAt (.control 0) {}) = true ∧
    (0x1FFFFFC : BitVec 25).toNat % 4 = 0 := by decide
theorem witness_flash_check : flashCheck { addr := 0x1000000, bytes := [], byReg := true } (coreAt (.control 0) {}) = none ∧
    flashCheck { erase := true, addr := 0x1000000, byReg := true } (coreAt (.control 0) {}) = none := by decide
theorem witness_register_write : mapTarget (.control 0) 0 State.reset.ddrTop 0x1410004 = .computeReg ∧
    mayAccess (.control 0) 1 0x1410004 (coreAt (.control 0) {}) = true ∧
    (coreRegWrite (.control 0) 0 0x1410004 5 (coreAt (.control 0) {})).isSome = true := by decide

/-! QueueRegistersAreWrittenOnlyWhileDisabled -/

theorem witness_queue_registers : reachable 0 hostUp = true ∧ selects 0 0 (hostUp.setQp 0 { assigned := true }) = true ∧
    ((hostUp.setQp 0 { assigned := true }).qp 0).state = 0 ∧ selects 0 0 (hostUp.setQp 0 { assigned := true, state := 3 }) = true ∧
    ((hostUp.setQp 0 { assigned := true, state := 3 }).qp 0).state ≠ 0 := by decide

/-! LaneChunksAreAcceptedStartedMovedAndCompleted -/

/-- A part with session 4 (a hash) of saggar 1, bound to queue pair 7 of function 0. -/
def lanesUp : State :=
  { sessionsUp with
    hif := { sessionsUp.hif with qps := [(7, { assigned := true, state := 1, bound := some 1, sqTail := 1 })] } }
/-- The first and last chunk of a hash of 16 bytes. -/
def hashChunk : DataDesc :=
  { flags := 0x300, tag := 9, length := 16, saggar := 1, reserved := 0, session := sessionHandle sessionsUp 4, srcAddr := 0, dstAddr := 0x1000
    aadLen := 0, capacity := 32, seq := 0, rsvd64 := 0, source := List.replicate 16 5 }
/-- The chunk has been fetched. -/
def chunkUp (d : DataDesc) : State := lanesUp.setQp 7 { lanesUp.qp 7 with fetched := [(0, .data d)] }
/-- Its job waits. -/
def chunkQueued : State := dataDescriptor 7 0 hashChunk lanesUp
/-- Its job runs on lane 0. -/
def chunkRuns : State := startLaneJob 0 0 chunkQueued
theorem witness_chunk : chunkFront 7 0 hashChunk 4 (chunkUp hashChunk) = true ∧
    dataChecks 7 ((chunkUp hashChunk).session 4) (chunkKey ((chunkUp hashChunk).session 4) (chunkUp hashChunk)) hashChunk = none := by decide
theorem witness_chunk_refused : let d := { hashChunk with capacity := 31 }
    chunkFront 7 0 d 4 (chunkUp d) = true ∧
    dataChecks 7 ((chunkUp d).session 4) (chunkKey ((chunkUp d).session 4) (chunkUp d)) d = some (0x11, false) := by decide
theorem witness_lane_start : laneStarts 0 chunkQueued = true ∧ chooseLane (chunkQueued.job 0) chunkQueued = some 0 ∧
    chunkQueued.bst.running = [] := by decide
theorem witness_lane_complete : laneRuns 0 0 0 chunkRuns = true ∧ settled chunkRuns = true ∧ (chunkRuns.task 0).note = [0, 0] ∧
    (chunkRuns.task 0).rq.route = .queue 7 0 ∧ (chunkRuns.task 0).desc = some hashChunk ∧ handleIndex hashChunk.session = 4 ∧
    (chunkRuns.task 0).phase = 0 ∧ isAead (chunkRuns.session 4).alg.toNat = false := by decide
theorem witness_context : let s := { chunkQueued with lanes := { chunkQueued.lanes with lane := [(3, { busy := true })] } }
    let s := s.setSession 4 { s.session 4 with msgs := [(0, { lane := some 3 })] };
    jobMessage (s.job 0) s = some (4, 0) ∧ (mapGet {} (s.session 4).msgs 0).lane = some 3 ∧ (s.lane 3).busy = true ∧
    s.lanes.queue.contains 0 = true ∧ firstBelow 16 (laneFree .active s) = some 0 := by decide
theorem witness_internal_job : let s : State := { hostUp with jobs := [(5, { unit := some 2, task := some 9, onLane := true, live := true })] }
    laneRuns 5 2 9 s = true ∧ settled s = true ∧ (s.task 9).desc = none ∧ s.tasks = [] := by decide

/-! PlaintextIsReleasedOnlyAfterTheTagMatches -/

/-- Lane 0 runs the only chunk of a GCM decryption of session 3, on its way to the release with `phase` 1. -/
def decryptRuns (phase : Nat) : State :=
  let d : DataDesc := { hashChunk with session := sessionHandle sessionsUp 3, capacity := 16, seq := 1 }
  let s := dataDescriptor 7 0 d (lanesUp.setSession 3 { lanesUp.session 3 with decrypt := true })
  let s := startLaneJob 0 0 (s.setJob 0 { s.job 0 with keyWait := false })
  let x := s.session 3
  (s.setSession 3 { x with msgs := mapMod {} x.msgs 0 fun g => { g with staged := [(0x1000, [1])] } }).setTask 0 { s.task 0 with phase }
theorem witness_staging : let s := decryptRuns 0
    let d := { hashChunk with session := sessionHandle sessionsUp 3, capacity := 16, seq := 1 }
    let x := s.session 3;
    laneRuns 0 0 0 s = true ∧ settled s = true ∧ (s.task 0).note = [0, 0] ∧ (s.task 0).desc = some d ∧ DataDescLast d = true ∧
    isAead x.alg.toNat = true ∧ x.decrypt = true ∧ (stagePlan 1 0 16 (mapGet {} x.msgs 0) s).isSome = true := by decide
theorem witness_release : let s := decryptRuns 1; laneRuns 0 0 0 s = true ∧ settled s = true ∧ (s.task 0).phase = 1 ∧
    (mapGet {} (s.session 3).msgs 0).staged = [(0x1000, [1])] := by decide
theorem witness_granules : ({ hostUp with lanes := { dieDirty := 1, spillDirty := 1 } } : State).lanes.dieDirty ≠ 0 ∧ jobsRun hostUp = true ∧
    hostUp.role 15 = .spare ∧ hostUp.role 13 = .active ∧ (hostUp.lane 13).job = none ∧ hostUp.bst.running = [] ∧ settled hostUp = true := by decide
theorem witness_key_load : let s : State := { keysUp with jobs := [(2, { live := true, keyWait := true, key := some 0 })] };
    (s.job 2).live = true ∧ (s.job 2).keyWait = true ∧ (s.key 0).hot = false ∧ s.hotBusy + (s.key 0).slots ≤ 65536 ∧ jobsRun s = true ∧
    makeHotRoom 1 1 4 s = s := by decide

/-! CrucibleJobsStartEndAndRerunAndAreWiped -/

/-- A part whose crucible 5 runs an operation of saggar 1, whose crucible 6 is leased, and whose job 2 waits. -/
def arrayUp : State :=
  let x : Crucible := { lease := some 4, rawQueue := [{ op := 4, wacc := false, selA := 0, selB := 0 }] }
  { vaultUp with
    jobs := [(1, { live := true, token := true, issued := true, unit := some 5, saggar := 1 }), (2, { live := true, token := true, saggar := 1 })]
    arr := { queue := [2] }
    cru := [(5, { busy := true, job := some 1 }), (6, x)]
    vault := { vaultUp.vault with leases := [(4, { live := true, saggar := 1, crucibles := [6] })] }
    hif := { vaultUp.hif with tokensOut := 3 } }
theorem witness_array : jobsRun arrayUp = true ∧ nextCrucibleJob arrayUp = some 2 ∧ sealedGone (arrayUp.job 2) arrayUp = false ∧
    chooseCrucible false arrayUp = some 0 ∧ arrayUp.bst.running = [] ∧ settled arrayUp = true ∧ (arrayUp.crucible 5).job = some 1 ∧
    (arrayUp.job 1).task = none ∧ (arrayUp.job 1).rerun = false ∧ (arrayUp.lease 4).live = true := by decide
theorem witness_array_faults : let s := { arrayUp with roles := [] }
    s.role 1005 = .active ∧ lowestSpare .crucible s = none ∧ settled s = true ∧ (s.crucible 6).lease = some 4 ∧ s.role 1006 = .active ∧
    firstBelow 160 (fun m => decide (m ≠ 6) && poolFree s m) = none := by decide
theorem witness_raw : let x := arrayUp.crucible 6;
    x.rawQueue = [{ op := 4, wacc := false, selA := 0, selB := 0 }] ∧ x.lease.isSome = true ∧
    rawBad x { op := 4, wacc := false, selA := 0, selB := 0 } = false ∧ rawBad x { op := 5, wacc := false, selA := 0, selB := 0 } = true := by decide

/-! HandshakesBeginContinueAndEnd -/

/-- A command fetched by queue pair 7 of function 0. -/
def askQueue (sag : BitVec 16) (flags : BitVec 16) (payload : List Byte) : Req :=
  { ask sag payload with route := .queue 7 0, flags, respAddr := 0x2000, respRoom := 0x10000 }
def fetchedUp (opcode : BitVec 16) (rq : Req) (s : State) : State :=
  { s with hif := { s.hif with qps := [(7, { assigned := true, state := 1, bound := some 1, fetched := [(0, .command opcode rq)] })] } }
/-- The part with a P-256 credential that has a chain, and two handshakes: 0 waits for a server, 1 is complete. -/
def shakesUp : State :=
  { keysUp with vault := { keysUp.vault with
      keys := [(1, { live := true, saggar := 1, alg := 0x101, bits := 256, material := List.replicate 32 2, policy := 0x20838, chain := [1] })]
      shakes := [(0, { live := true, saggar := 1, state := 3, groups := 8, group := 3 }), (1, { live := true, saggar := 1, server := true, state := 0x100 })] } }
/-- A ClientHello of TLS 1.3 with one suite, one scheme, the group X25519 and its share. -/
def helloBody : List Byte :=
  [3, 3] ++ List.replicate 32 0 ++ [0, 0, 2, 0x13, 1, 1, 0, 0, 65] ++ [0, 43, 0, 3, 2, 3, 4] ++ [0, 13, 0, 4, 0, 2, 4, 3] ++
    [0, 10, 0, 4, 0, 2, 0, 0x1D] ++ [0, 51, 0, 38, 0, 36, 0, 0x1D, 0, 32] ++ List.replicate 32 7
def helloInput : List Byte :=
  [22, 3, 1, 0, BitVec.ofNat 8 (helloBody.length + 4), 1, 0, 0, BitVec.ofNat 8 helloBody.length] ++ helloBody
def serverBegin (input : List Byte) : Req := askQueue 1 0 (keyBytes 1 ++ leBytes 2 1 ++ leBytes 2 8 ++ leBytes 4 input.length ++ input)
theorem witness_server_begin : let rq := serverBegin helloInput
    let s := fetchedUp 0x0600 rq shakesUp
    accepted specHsServerBegin rq s = true ∧ rq.payload.length = 16 + rq.field 12 4 ∧ findKey rq (Req64 rq 0) false (taken specHsServerBegin rq s) = some 1 ∧
    maskOk 3 (BitVec.ofNat 16 (rq.field 8 2)) = true ∧ maskOk 8 (BitVec.ofNat 16 (rq.field 10 2)) = true ∧
    credentialOk (shakesUp.key 1) true = true ∧ shakeRoom (rqSag rq) s = true ∧ drawStatus s = none := by decide
theorem witness_hello : ∃ h, readClientHello helloInput = .ok h ∧ ∃ sh, serverSelect 1 8 (shakesUp.key 1) h = .ok (0, 0x0403, 3, some sh) :=
  ⟨_, rfl, _, rfl⟩
theorem witness_bad_hello : readClientHello [22, 3, 1, 0, 4, 2, 0, 0, 0] = .error (reject 10) := by rfl
theorem witness_client_begin : let rq := askQueue 1 0 (leBytes 8 0 ++ leBytes 2 1 ++ leBytes 2 8 ++ leBytes 4 0);
    accepted specHsClientBegin rq (fetchedUp 0x0602 rq shakesUp) = true ∧ shakeRoom (rqSag rq) shakesUp = true ∧
    lowestBit (BitVec.ofNat 16 (rq.field 10 2)) (fun _ => true) = some 3 ∧ vaultUp.vault.shakes = [] ∧ vaultUp.vault.hsGens = [] := by decide
theorem witness_continue : let rq := askQueue 1 0 (leBytes 8 (shakeHandle shakesUp 0).toNat ++ leBytes 8 0)
    let s := fetchedUp 0x0601 rq shakesUp
    let up := askQueue 1 0 (leBytes 8 (shakeHandle shakesUp 1).toNat ++ leBytes 4 5 ++ leBytes 4 0 ++ [24, 0, 0, 1, 0]);
    accepted specHsServerContinue rq s = true ∧ findShake 1 (Req64 rq 0) (taken specHsServerContinue rq s) = some 0 ∧ (s.shake 0).state = 3 ∧
    (s.shake 0).flight = [] ∧ respFits rq 24 = none ∧ accepted specHsServerContinue up (fetchedUp 0x0601 up shakesUp) = true ∧
    findShake 1 (Req64 up 0) (taken specHsServerContinue up (fetchedUp 0x0601 up shakesUp)) = some 1 ∧ up.payload.length = 16 + up.field 8 4 ∧
    updateBlocked (shakesUp.shake 1) (shakesUp.shake 1).recvSes shakesUp = none := by decide
theorem witness_post : postMessages (shakesUp.shake 1) [24, 0, 0, 1, 0] = .ok (1, false) := by rfl
theorem witness_abort : let rq := askQueue 1 0 (leBytes 8 (shakeHandle shakesUp 1).toNat);
    accepted specHsAbort rq (fetchedUp 0x0605 rq shakesUp) = true ∧
    findShake 1 (Req64 rq 0) (taken specHsAbort rq (fetchedUp 0x0605 rq shakesUp)) = some 1 ∧ shakesUp.jobs = [] ∧
    (shakesUp.shake 0).live = true ∧ (shakesUp.shake 0).state ≠ 0x100 ∧ shakesUp.tasks = [] := by decide

/-! KeyUpdatesAndExportedSecretsFollowTheirConnection -/

/-- The part with a complete connection 1 whose send session 5 uses key 3. -/
def connUp (prepared : Option (List Byte × Nat)) (retired : Bool) : State :=
  { keysUp with vault := { keysUp.vault with
      keys := [(3, { live := true, saggar := 1, alg := 1, bits := 128, material := List.replicate 16 4, policy := 0x11001, conn := some 1, retired }),
        (4, { live := true, saggar := 1, alg := 1, bits := 128, material := List.replicate 16 5, policy := 0x11001, conn := some 1 })]
      sessions := [(5, { live := true, saggar := 1, alg := 1, key := keyHandle keysUp 3, conn := some 1 })]
      shakes := [(1, { live := true, saggar := 1, state := 0x100, sendSes := sessionHandle keysUp 5, prepared })] } }
theorem witness_key_update : let rq := askQueue 1 0 (leBytes 8 (sessionHandle keysUp 5).toNat ++ leBytes 8 0)
    let s (p : Option (List Byte × Nat)) := fetchedUp 0x0603 rq (connUp p false)
    let u := taken specHsKeyUpdate rq (s none);
    accepted specHsKeyUpdate rq (s (some ([1], 4))) = true ∧ accepted specHsKeyUpdate rq (s none) = true ∧
    findSession 1 (Req64 rq 0) u = some 5 ∧ (u.session 5).conn = some 1 ∧ handleIndex (u.shake 1).sendSes = 5 ∧ shakeStands 1 u = true ∧
    respFits rq 35 = none ∧ updateBlocked (u.shake 1) (u.shake 1).sendSes u = none ∧ preparing 1 u = [] ∧ u.jobs = [] := by decide
theorem witness_prepare : let s := connUp none true; shakeStands 1 s = true ∧ (s.shake 1).state = 0x100 ∧ (s.shake 1).prepared = none ∧
    (s.shake 1).oldKey = none ∧ (s.key (connKey (s.shake 1).sendSes s)).retired = true ∧ s.tasks = [] := by decide
theorem witness_exporter : let rq := askQueue 1 0 (leBytes 8 (sessionHandle keysUp 5).toNat ++ leBytes 2 3 ++ leBytes 2 0 ++ leBytes 2 64 ++ leBytes 2 0 ++ [97, 98, 99])
    let s := fetchedUp 0x0604 rq (connUp none false);
    accepted specHsExportSecret rq s = true ∧ exportConn rq (taken specHsExportSecret rq s) = some (some 1) ∧ respFits rq 64 = none ∧
    (s.saggar (rqSag rq)).policy.getLsbD 1 = true ∧ rq.payload.length = 16 + rq.field 8 2 + rq.field 10 2 := by decide

/-! TalliesCloseReportAndReleaseTheirRecords -/

/-- A part with an open span, one record returned but not acknowledged, and one that is not readable yet. -/
def talUp : State :=
  let r (seq : BitVec 64) : TallyRecord :=
    { kind := 3, flags := 0, saggar := 0xFFFF, span := 1, seq, first := 0, charge := {}, field132 := 0, field156 := 1, signed := true }
  { fired with tal := { timeSet := true, isOpen := true, records := [r 0, r 1], next := 2, returned := some 0, unreadable := 1, ackDue := true } }
theorem witness_span : talUp.tal.isOpen = true ∧ talUp.vault.leases = [] ∧ talUp.jobs = [] ∧ talUp.tal.unreadable ≠ 0 ∧ talUp.tal.ackDue = true := by
  decide
theorem witness_tal_read : let rq := ask 0xFFFF (leBytes 4 7);
    accepted specTalRead rq talUp = true ∧ rq.field 0 2 ≤ 7 ∧ ((readable (taken specTalRead rq talUp)).take 7).length = 1 ∧
    respFits rq (8 + 256 * 1) = none ∧ accepted specTalGetSeal (ask 0xFFFF []) talUp = true := by decide
theorem witness_tal_ack : let rq (n : Nat) := ask 0xFFFF (leBytes 8 n);
    accepted specTalAck (rq 0) talUp = true ∧ respFits (rq 0) 8 = none ∧ respFits (rq 1) 8 = none ∧ notAcked talUp.tal.acked 0 = true ∧ talUp.tal.returned = some 0 ∧
    accepted specTalAck (rq 1) talUp = true ∧ (0 : BitVec 64).toNat < 1 ∧
    notAcked ({ talUp with tal := { talUp.tal with acked := some 5 } } : State).tal.acked 5 = false := by decide

/-! EntropyIsTestedPooledDrawnAndWithheld -/

theorem witness_source : let s := fired; (s.ent.state = 0 ∨ s.ent.state = 2) ∧ s.ent.tested = false ∧ s.ent.parked = [] ∧ s.vault.seedDue = false ∧
    (let u := { s with ent := { s.ent with state := 1, inst := 64 } }
     u.ent.state = 1 ∧ u.fabric.linkUp = false ∧ u.ent.failed.getLsbD 7 = false ∧ u.tasks = [] ∧ u.ent.gen = [] ∧
     ({ u with fabric := { u.fabric with linkUp := true } } : State).fabric.linkUp = true) := by decide
theorem witness_draws : let d : DrawReq := { task := some 3, bytes := 8 }
    let s : State := { vaultUp with ent := { vaultUp.ent with parked := [d] } }
    idleInstance s = some 0 ∧ chooseDraw s = some (d, []) ∧ mapGet 0 s.ent.counter 0 < 2 ^ 20 ∧
    (let u : State := { vaultUp with ent := { vaultUp.ent with gen := [(0, d)] }, tasks := [(3, { opcode := 0x0800, work := [.draw 8] })] }
     u.ent.gen.find? (fun x => decide (x.1 = (0 : BitVec 6).toNat)) = some (0, d) ∧ u.hasTask 3 = true ∧ u.bk.lock = 0 ∧
     (u.task 3).opcode = 0x0800 ∧ (u.task 3).work = [.draw d.bytes] ∧ (u.task 3).rq.route = .mailbox 0 ∧ u.ent.parked = []) := by decide
theorem witness_ent_commands : let bytes := ask 1 (leBytes 4 65536);
    accepted specEntGetBytes (ask 1 (leBytes 4 16)) vaultUp = true ∧ respFits (ask 1 (leBytes 4 16)) 16 = none ∧ drawStatus vaultUp = none ∧
    bytes.field 0 4 ≤ 65536 ∧ accepted specEntReseed (ask 0xFFFF (leBytes 4 0)) vaultUp = true ∧ vaultUp.ent.state = 1 ∧ vaultUp.lcs.state ≠ 1 ∧
    accepted specEntStatus (ask 0xFFFF []) vaultUp = true := by decide

/-! ConfigurationItemsAndProtectionGroupsChangeAsCommanded -/

/-- A CFG_WRITE of an item with a value and a signature. -/
def cfgAsk (item : Nat) (v sig : List Byte) : Req := ask 0xFFFF (leBytes 4 item ++ leBytes 2 v.length ++ leBytes 2 sig.length ++ v ++ sig)
theorem witness_cfg_read : accepted specCfgRead (ask 0xFFFF (leBytes 4 0x2100)) fired = true ∧ itemListed 0x2100 = true ∧
    respFits (ask 0xFFFF (leBytes 4 0x2100)) 5 = none ∧ accepted specCfgRead (ask 0xFFFF (leBytes 4 0x1000EBFF)) fired = true ∧
    (0x1000EBFF % 2 ^ 20 = 60415) ∧ accepted specCfgRead (ask 0xFFFF (leBytes 4 0x20000000)) fired = true ∧ itemListed 0 = false := by decide
theorem witness_cfg_write : let rq := cfgAsk 0x0E20 [13] [];
    accepted specCfgWrite rq fired = true ∧ rq.payload.length = 8 + rq.field 4 2 + rq.field 6 2 ∧ itemSigned 0x0E20 fired = false ∧
    itemRange 0x0E20 (cfgValue rq) fired = true ∧ cfgSig rq = [] ∧ itemRange 0x0E20 [14] fired = false := by decide
theorem witness_cfg_signed : let s : State := { fired with flash := { fired.flash with items := [(0x0A00, [4])] } }
    let rq := cfgAsk 0x0A10 (List.replicate 97 4) (List.replicate 100 0);
    accepted specCfgWrite rq s = true ∧ itemWritable 0x0A10 (taken specCfgWrite rq s) = true ∧ itemSigned 0x0A10 s = true ∧
    itemRange 0x0A10 (cfgValue rq) s = true ∧ (cfgSig rq).length = 100 ∧ leField (cfgSig rq) 0 4 = s.flash.signSeq.toNat := by decide
theorem witness_cfg_page : let rq := cfgAsk 0x20000EBF [] []
    accepted specCfgWrite rq fired = true ∧ 0x20000EBF % 2 ^ 20 = 3775 ∧ cfgValue rq = [] ∧ fired.flash.prog = none ∧
    sectorWp 7935 fired = false ∧ groupLocked 7935 fired = false ∧
    flashCheck { addr := operatorBase, bytes := [] } fired = none := by decide
theorem witness_groups : let x : FlashGroup := { first := 0, count := 1, state := 2, fails := 7 }
    let s := withGroup 63 x fired
    let protect (act count : Nat) : Req := ask 0xFFFF ([63, BitVec.ofNat 8 act, 0, 0] ++ leBytes 2 0 ++ leBytes 2 count ++ List.replicate 16 1);
    accepted specFlsProtect (protect 1 3776) s = true ∧ rangeOk 63 0 3776 s = true ∧ rangeOk 63 0 3777 s = false ∧
    accepted specFlsProtect (protect 0 0) s = true ∧ (mapGet ({} : FlashGroup) s.flash.groups 63).state = 2 ∧
    accepted specFlsUnlockGroup (ask 0xFFFF ([63, 0, 0, 0] ++ List.replicate 16 1)) s = true := by decide

/-! FlashOperationsEndAndChannelsRetrain -/

theorem witness_flash_ends : let o : FlashOp := { addr := operatorBase, bytes := [1], byReg := true }
    let s : State := { fired with flash := { prog := some o, era := some { o with erase := true, bytes := [] } } }
    s.flash.prog = some o ∧ s.flash.queue = [] ∧ o.addr + 256 ≤ flashTop ∧ 0 < s.sparesFree ∧
    mapGet 0 s.flash.counts (physSector 4160 s) < 99999 ∧ s.flash.suspended = false ∧ fired.flash.prog = none := by decide
theorem witness_reerase : let s : State := { fired with flash := { erasePending := [8191] } }
    s.flash.erasePending.contains (0x1FFF : BitVec 13).toNat = true ∧ s.flash.era = none := by decide
theorem witness_channels : let s : State := { fired with msub := { trained := 0xFFFF, retrain := some { channel := 15 }, waiting := [3] } }
    s.msub.trained.getLsbD (15 : BitVec 4).toNat = true ∧ s.msub.failing.getLsbD 15 = false ∧ (0 : BitVec 4).toNat ∉ s.msub.waiting ∧
    mapGet 0 s.msub.retrains 15 < 255 ∧ s.vault.log = [] := by decide
theorem witness_reclaim : let r : LogRecord := { type := 2, saggar := 1, seq := 1, minute := 0, owner := 0, weight := 1, quota := 0, policy := 0, root := [], seed := 1 :: fired.bk.seed }
    let s : State := { fired with vault := { fired.vault with log := List.replicate 16 r } }
    s.vault.log.length = 16 ∧ ∀ x ∈ s.vault.log, x.seed ≠ s.bk.seed := by decide

/-! LifeCycleMovesDebugSessionsAndRestartsFollowTheirConditions -/

/-- A part whose crucible 3 runs the verification of a command of the physical function. -/
def verifyUp (opcode : Nat) (rq : Req) (note : List Nat) : State :=
  let x : Crucible := { busy := true, job := some 2 }
  let j : Job := { task := some 1, live := true, issued := true }
  let t : Task := { opcode := BitVec.ofNat 16 opcode, rq, work := [p384Work], note }
  { fired with cru := [(3, x)], jobs := [(2, j)], tasks := [(1, t)], bk := { fired.bk with lock := 0 } }
theorem witness_lc_transition : let rq := ask 0xFFFF ([3, 0, 0, 0] ++ leBytes 4 160 ++ leBytes 160 0);
    accepted specLcTransition rq fired = true ∧ rq.field 4 4 = 160 ∧ rq.payload.length = 168 ∧ moveOk fired.lcs.state.toNat 3 = true ∧
    moveOk fired.lcs.state.toNat 1 = false ∧ fired.pwr.holdAbsent = false ∧ fired.tasks = [] ∧ accepted specLcGetState (ask 0xFFFF []) fired = true := by
  decide
theorem witness_lc_finish : verifies (3 : BitVec 8).toNat 1 0x0A01 (ask 0xFFFF ([3, 0, 0, 0] ++ leBytes 4 160)) [0]
    (verifyUp 0x0A01 (ask 0xFFFF ([3, 0, 0, 0] ++ leBytes 4 160)) [0]) := ⟨2, by decide⟩
theorem witness_dbg_present : let s : State := { fired with lcs := { fired.lcs with isOpen := false } }
    let rq := ask 0xFFFF (leBytes 4 160 ++ leBytes 4 0 ++ leBytes 160 0);
    accepted specDbgPresentCert rq s = true ∧ rq.payload.length = 168 ∧ (taken specDbgPresentCert rq s).lcs.isOpen = false ∧ s.tasks = [] ∧
    accepted specDbgPresentCert rq fired = true ∧ fired.lcs.isOpen = true ∧ accepted specDbgClose (ask 0xFFFF []) fired = true ∧
    accepted specDbgClose (ask 0xFFFF []) s = true := by decide
theorem witness_dbg_finish : let rq := ask 0xFFFF (leBytes 4 160 ++ leBytes 4 0 ++ [1, 0, 0, 0] ++ leBytes 32 0 ++ leBytes 8 15 ++ leBytes 8 0 ++ leBytes 8 0);
    verifies (3 : BitVec 8).toNat 1 0x0A02 rq [] (verifyUp 0x0A02 rq []) ∧
    BitVec.ofNat 8 (leField (rq.bytes 8 160) 36 8) &&& BitVec.ofNat 8 (rightsPermitted fired.lcs.state) ≠ 0 ∧
    leField (rq.bytes 8 160) 44 4 ≤ fired.lcs.hours.toNat ∧ fired.lcs.hours.toNat ≤ leField (rq.bytes 8 160) 48 4 :=
  ⟨⟨2, by decide⟩, by decide, by decide, by decide⟩
theorem witness_hours : fired.pwr.released = true ∧ fired.lcs.isOpen = true ∧ fired.lcs.state ≠ 0 ∧ fired.lcs.hours.toNat ≤ fired.lcs.lastHour.toNat ∧
    (let l := { fired.lcs with hours := 1 }; l.lastHour.toNat < l.hours.toNat) ∧ State.reset.pwr.released = false := by decide
theorem witness_debug_halt : fired.lcs.isOpen = true ∧ fired.lcs.rights.getLsbD 2 = true ∧ fired.role 100 = .active ∧ fired.lcs.state = 2 ∧
    (fired.setRole 127 .spare).role (unitNumber .service (27 : BitVec 8).toNat) = .spare ∧
    ({ fired with lcs := { fired.lcs with state := 1 } } : State).lcs.state ≠ 2 := by decide
theorem witness_restart : let s (c : CoreId) := fired.setCore c { running := true, halted := true }
    (s (.control 0)).pwr.up = true ∧ restartCause (.control 0) true ((s (.control 0)).core (.control 0)) = true ∧ activePair fired = 0 ∧
    restartCause (.service 0) true ((s (.service 0)).core (.service 0)) = true ∧ fired.role (100 + 0) = .active ∧ (∀ e ∈ fired.roles, e.2 ≠ .leaving) ∧ fired.vault.keys = [] ∧
    fired.arr.joining = 0 ∧ fired.bst.running = [] ∧ restartCause (.crucible 0) false (fired.core (.crucible 0)) = false := by decide

/-! CustodianAndArchiveCardsFollowTheirPorts -/

def cardUp : State :=
  let p : CardPort := { present := true, isOn := true, quorum := true }
  { fired with cards := { ports := [(1, p)], isOpen := true, present := true, mounted := true, capacity := 65536 }, bk := { fired.bk with lock := 1 }
               flash := { fired.flash with items := [(0x1000, [1, 1, 0, 0] ++ List.replicate 65 4)] } }
theorem witness_ccp_activate : let rq := { ask 0xFFFF [1, 1, 0, 0] with flags := 0x100 }
    accepted specCcpActivate rq cardUp = true ∧ (taken specCcpActivate rq cardUp).tasks = [] ∧ ((taken specCcpActivate rq cardUp).port 1).present = true ∧
    (match parseAtr [0x3B, 0x00] with | some g => atrOffers g 0 && atrFits g 0 | none => false) = true ∧
    accepted specCcpActivate (ask 0xFFFF [0, 0, 1, 0]) cardUp = true ∧ (cardUp.port 0).present = false := by decide
theorem witness_ccp_apdu : let rq := { ask 0xFFFF ([1, 0, 0, 0] ++ leBytes 4 4 ++ leBytes 4 0) with flags := 0x900 }
    accepted specCcpApdu rq cardUp = true ∧ rq.payload.length = 8 + rq.field 4 4 ∧ (cardUp.port 1).isOn = true ∧ rq.flags.getLsbD 8 = true ∧
    (taken specCcpApdu rq cardUp).custodians.isSome = true ∧ cardUp.bk.lock ≠ 0 ∧ (cardUp.port 1).quorum = true ∧
    accepted specCcpApdu { rq with flags := 0 } cardUp = true ∧ accepted specCcpDeactivate { ask 0xFFFF [1, 0, 0, 0] with flags := 0x100 } cardUp = true := by
  decide
theorem witness_statement : let t : Task := { opcode := 0x0B01, rq := ask 0xFFFF [1], effected := true, work := [custodianWork], store := [1], note := [0] }
    let s : State := { verifyUp 0x0B01 (ask 0xFFFF [1]) [0] with cards := cardUp.cards, tasks := [(1, t)], flash := cardUp.flash }
    checksStatement (3 : BitVec 8).toNat 1 0 (ask 0xFFFF [1]) [1] s ∧ s.custodians = some (1, 1, List.replicate 65 4) :=
  ⟨⟨2, by decide⟩, by decide⟩
theorem witness_archive : let rq := ask 0xFFFF (leBytes 8 3 ++ leBytes 8 0)
    accepted specArcMount (ask 0xFFFF []) cardUp = true ∧ cardUp.cards.running = none ∧ accepted specArcExport rq cardUp = true ∧
    2056 + 8 * (0 + (exportSize 3 [] + 4031) / 4032 - 1) ≤ (taken specArcExport rq cardUp).cards.capacity ∧
    ({ cardUp.cards with capacity := 2056 } : Cards).capacity < 2056 + 8 * (0 + (exportSize 3 [] + 4031) / 4032 - 1) ∧
    accepted specArcImport (ask 0xFFFF (leBytes 8 2 ++ leBytes 8 0)) { cardUp with bk := { cardUp.bk with lock := 0 } } = true ∧
    accepted specArcUnmount (ask 0xFFFF []) cardUp = true ∧ cardUp.lcs.state ≠ 3 ∧ cardUp.cards.present = true := by decide
theorem witness_blocks : let e (n : Nat) : Export_ := { source := 1, id := 0, first := 0, next := n, last := 1, top := n, cid := 0, task := 1, from_ := 0 }
    (e 0).next < (e 0).last ∧ (e 1).last ≤ (e 1).next ∧
    ({ cardUp with cards := { cardUp.cards with running := some (e 0) } } : State).cards.running = some (e 0) ∧
    (cardUp.port (1 : BitVec 1).toNat).isOn = true ∧ (cardUp.port (0 : BitVec 1).toNat).isOn = false ∧ cardUp.cards.isOpen = true := by decide

/-! TagMemoryAndSupplyChangeAsWired -/

theorem witness_tag_commands : let rd := ask 0xFFFF [3, 0, 16, 0, 240, 0, 0, 0]
    let wr := ask 0xFFFF ([3, 0, 255, 0, 1, 0, 0, 0] ++ [0x12, 0x34])
    let bad := ask 0xFFFF ([3, 0, 15, 0, 1, 0, 0, 0] ++ [0x12, 0x34])
    let u := taken specTagWrite wr fired;
    accepted specTagRead rd fired = true ∧ wiredRange rd = true ∧ respFits rd 480 = none ∧ accepted specTagRead (ask 0xFFFF [0, 0, 0, 0, 1, 0, 0, 0]) fired = true ∧
    accepted specTagWrite wr fired = true ∧ wr.payload.length = 8 + 2 * wr.field 4 2 ∧ wiredRange wr = true ∧
    tagWritable u.tag 3 255 0x1234 = true ∧ (touchedRows 3 255 1).length ≤ u.tag.erased.length ∧
    accepted specTagWrite bad fired = true ∧ wiredRange bad = true ∧ tagWritable fired.tag 3 15 0x1234 = false ∧
    accepted specTagSetPassword (ask 0xFFFF [1, 2, 3, 4]) fired = true ∧ fired.tag.erased ≠ [] ∧
    ({ fired.tag with released := List.range 80 } : Tag).erased = [] := by decide
theorem witness_tag_supply : fired.tag.field = false ∧ (fired.withTag { fired.tag with field := true }).tag.field = true ∧
    (let s := fired.withTag { fired.tag with field := true }
     s.tag.field = true ∧ s.sup.vddVault = false ∧ s.sup.vddHold = false) ∧ tagPowered fired = false ∧
    tagPowered { fired with sup := { fired.sup with vddVault := true } } = true := by decide

/-! TagAnswersTheFieldByItsState -/

/-- The tag in the field in a state, with number 7 in force. -/
def tagUp (ph : TagState) : State := fired.withTag { fired.tag with field := true, phase := ph, rn := 7, slot := 1 }
theorem witness_tag_round : let s := tagUp .arbitrate
    s.tag.field = true ∧ singulated s.tag = false ∧ s.tag.flags.getLsbD 3 = false ∧ s.tag.session = 0 ∧ s.tag.q ≠ 15 ∧
    (1 : BitVec 15).toNat % 2 ^ (s.tag.q.toNat + 1) ≠ 0 ∧ s.tag.slot = 1 ∧ singulated (tagUp .acknowledged).tag = true ∧
    (tagUp .reply).tag.phase = .reply ∧ fired.tag.field = false ∧ (2 : BitVec 15).toNat % 2 ^ 1 = 0 := by decide
theorem witness_tag_access : holdsHandle 7 (tagUp .secured) = true ∧ holdsHandle 7 (tagUp .opened) = true ∧ (tagUp .secured).tag.timed = false ∧
    (0 : BitVec 32).toNat = (tagUp .opened).tag.password ∧ (1 : BitVec 32).toNat ≠ (tagUp .opened).tag.password ∧
    2 ≤ (tagUp .secured).tag.erased.length ∧ (255 + (1 : BitVec 8).toNat ≤ bankSize 3) ∧ (bankSize 2 < 15 + (2 : BitVec 8).toNat) := by decide

/-! SelfTestRequestsRunEndAndExpire -/

/-- A part with one request of the host waiting (id 1) and one qualification run on the spare lane 15 (id 2). -/
def bistUp (slice : BitVec 16) : State :=
  let a : BstRequest := { cls := 0, index := 0xFFFF, slice := 6 }
  let b : BstRequest := { cls := 0, index := 15, slice := 0xFFFF, state := 1, unit := 15, qualify := true, at_ := slice }
  { fired with
    bst := { fired.bst with requests := [(1, a), (2, b)], waiting := [1], running := [2], ids := 2, linkBusy := true }
    pwr := { fired.pwr with setpoint := 750, cone := 0 }
    roles := [(15, .spare)] }
theorem witness_bst_commands : let rq := ask 0xFFFF [0, 0, 0xFF, 0xFF, 6, 0, 0, 0]
    accepted specBstRunSlice rq fired = true ∧ rq.field 4 2 < sliceCount 0 ∧ fired.bst.waiting.length < 64 ∧
    accepted specBstRunSlice (ask 0xFFFF [1, 0, 160, 0, 0, 0, 0, 0]) fired = true ∧ accepted specBstStatus (ask 0xFFFF [2, 0, 0, 0]) (bistUp 0) = true ∧
    2 ∈ (bistUp 0).bst.waiting ++ (bistUp 0).bst.running ++ (bistUp 0).bst.done ∧ 3 ∉ (bistUp 0).bst.waiting ++ (bistUp 0).bst.running ∧
    accepted specBstRunSlice rq { fired with bst := { fired.bst with waiting := List.range 64 } } = true := by decide
theorem witness_slices : let s : State := { bistUp 0 with bst := { (bistUp 0).bst with running := [] } }
    startsHeld s = false ∧ s.bst.waiting = [1] ∧ sliceUnit (s.request 1) s = some (15, false) ∧ startsHeld State.reset = true ∧
    2 ∈ (bistUp 5).bst.running ∧ isMarch 0 5 = true ∧ ((bistUp 5).request 2).qualify = true ∧ isMarch 0 6 = false ∧
    (5 < lastSlice ((bistUp 5).request 2)) ∧ lastSlice ((bistUp 6).request 2) ≤ 6 ∧ 1 ∉ (bistUp 5).bst.running ∧ (bistUp 5).bst.linkBusy = true := by decide
theorem witness_rotation : let s : State := { bistUp 0 with bst := { (bistUp 0).bst with running := [] } }
    s.role 15 = .spare ∧ s.role 0 = .active ∧ s.bst.unqualLane.getLsbD 15 = false ∧ (s.lane 0).busy = false ∧ s.role 1 ≠ .spare := by decide

/-! TheRecorderHoldsWindowsHistogramsAndExtremes -/

/-- A part with one event of source 5 recorded and a window of the host on each kind of data. -/
def evrUp : State :=
  let r : EvrRecord := { seq := 0, slot := 0, gen := 0, repeats := 65535, source := 5, flags := 0, detail := 7, first := 0, last := 0, hours := 0, cycles := 0 }
  let w (k : BitVec 8) : EvrWindow := { isOpen := true, kind := k }
  { fired with evr := { log := [r], next := 1, wr := 1, windows := [(1, w 0), (2, w 1), (3, w 2)], windowIds := 3 } }
theorem witness_failed_entry : let s : State := { evrUp with hif := { evrUp.hif with qps := [(300, { assigned := true, owner := 3, state := 1 })] } }
    failedEntry 25 0x00002300012C0003 s = some 300 ∧ failedEntry 20 0 s = none := by decide
theorem witness_event_log : let s : State := { evrUp with evr := {} }
    s.gated = false ∧ s.evr.log = [] ∧ evrUp.gated = false ∧ (evrUp.evr.log.getLast?.map (·.source)) = some 5 ∧
    ({ s with pwr := { s.pwr with cone := 3 } } : State).gated = true ∧ (LineFault.check 15 true).wf 259 = true := by decide
theorem witness_samples : (evrUp.evr.channel 11).metric = 8 ∧ (evrUp.evr.channel 0).metric = 1 ∧ (evrUp.evr.pair 11).metric = 12 ∧
    (evrUp.evr.pair 11).empty = true ∧ (({ evrUp.evr with extremes := [(63, { metric := 3, empty := false })] } : Recorder).pair 63).metric = 3 := by decide
theorem witness_windows : let rd (id k : Nat) : Req := ask 0xFFFF (leBytes 4 id ++ leBytes 2 k ++ leBytes 2 0)
    accepted specEvrOpenWindow (ask 0xFFFF [0, 0, 1, 0]) evrUp = true ∧ accepted specEvrOpenWindow (ask 0xFFFF [2, 0, 63, 0]) evrUp = true ∧
    accepted specEvrOpenWindow (ask 0xFFFF [1, 0, 128, 0]) evrUp = true ∧ evrUp.openWindows = 3 ∧ accepted specEvrRead (rd 1 42) evrUp = true ∧
    accepted specEvrRead (rd 3 63) evrUp = true ∧ ((evrUp.evr.next - (mapGet {} evrUp.evr.windows 1).cursor).toNat ≤ evrUp.evr.log.length) ∧
    (mapGet {} evrUp.evr.windows 9).isOpen = false ∧ (mapGet {} evrUp.evr.windows 2).sideband = rqSideband (rd 2 14) := by decide
theorem witness_clears : accepted specEvrClear (ask 0xFFFF [0, 0, 0xFF, 0xFF]) evrUp = true ∧ accepted specEvrClear (ask 0xFFFF [1, 0, 127, 0]) evrUp = true ∧
    accepted specEvrClear (ask 0xFFFF [2, 0, 63, 0]) evrUp = true ∧ (taken specEvrClear (ask 0xFFFF [0, 0, 0xFF, 0xFF]) evrUp).gated = false := by decide

/-! AlarmsLockAndTheUnlockReleases -/

/-- A part whose vault die is powered, unlocked, with a valid backup domain. -/
def tamperUp : State := { fired with sup := { fired.sup with vddVault := true }, bk := { fired.bk with valid := true, lock := 0 } }
theorem witness_alarms : detectorRuns 0 tamperUp = true ∧ detectorRuns 13 tamperUp = true ∧ tamperUp.bk.disarmed = false ∧ computeOn tamperUp = true ∧
    detectorRuns 0 fired = false ∧ (List.range 14).map tamperUp.bk.cls = [1, 1, 1, 1, 0, 1, 2, 2, 2, 2, 2, 2, 1, 0] ∧ fired.sup.vddHold = false ∧
    ({ tamperUp.bk with disarmed := true } : Backup).disarmed = true := by decide
theorem witness_tmp_commands : let set := ask 0xFFFF [13, 2, 0, 0]
    accepted specTmpStatus (ask 0xFFFF []) tamperUp = true ∧ reqFn (ask 0xFFFF []) tamperUp = some 0 ∧ accepted specTmpSetResponse set tamperUp = true ∧
    tamperUp.bk.cls 13 ≤ 2 ∧ accepted specTmpSetResponse (ask 0xFFFF [0, 0, 0, 0]) tamperUp = true ∧ tamperUp.lcs.state = 2 ∧ 0 < tamperUp.bk.cls 0 ∧
    accepted specTmpSetResponse (ask 0xFFFF [14, 0, 0, 0]) tamperUp = true := by decide
theorem witness_unlock : let s : State := { tamperUp with bk := { tamperUp.bk with lock := 1 } }
    let rq := ask 0xFFFF (leBytes 4 4 ++ leBytes 8 0)
    let v : State := { s with flash := { s.flash with items := [(0x1000, [1, 1, 0, 0] ++ List.replicate 65 4)] } }
    let signed := ask 0xFFFF (leBytes 4 72 ++ leBytes 4 0 ++ [1, 0, 0, 0] ++ leBytes 68 0);
    accepted specTmpUnlock rq s = true ∧ rq.payload.length = 8 + rq.field 0 4 ∧ rq.field 0 4 = 4 + 68 * rq.field 8 1 ∧
    (taken specTmpUnlock rq s).tmpActive = 0 ∧ s.custodians = none ∧ s.cards.isOpen = false ∧ accepted specTmpUnlock signed v = true ∧
    v.custodians = some (1, 1, List.replicate 65 4) ∧ evidenceIndex signed 0 < 1 ∧ signed.field 0 4 = 4 + 68 * signed.field 8 1 ∧
    accepted specTmpUnlock rq tamperUp = true := by decide
theorem witness_unlock_finish : let rq := ask 0xFFFF (leBytes 4 72 ++ leBytes 4 0 ++ [1, 0, 0, 0] ++ leBytes 68 0)
    let t : Task := { opcode := 0x1001, rq, work := [custodianWork] }
    let s : State := { verifyUp 0x1001 rq [] with tasks := [(1, t)], bk := { fired.bk with lock := 1 }, flash := cardUp.flash }
    checksUnlock (3 : BitVec 8).toNat 1 rq s ∧ s.custodians = some (1, 1, List.replicate 65 4) := ⟨⟨2, by decide⟩, by decide⟩
theorem witness_backup : let e : TamperEntry := { mask := 0x4000 }
    let s (n : Nat) : State := { tamperUp with bk := { tamperUp.bk with due := [e], log := List.replicate n {}, copyDue := true } }
    (s 0).bk.due = [e] ∧ (s 0).bk.log = [] ∧ (s 16).bk.log.length = 16 ∧ 2 ^ 14 ≤ e.mask.toNat ∧ fired.bk.valid = false ∧ tamperUp.bk.valid = true ∧
    (s 0).bk.copyDue = true ∧ tamperUp.bk.copyDue = false ∧ tamperUp.bk.due = [] := by decide

/-! SupplyEventsCommitResetAndBootThePart -/

theorem witness_commit : let s (k : Option (BitVec 8)) (hold : Bool) : State :=
      { fired with pwr := { fired.pwr with commit := k }, sup := { fired.sup with vddHold := hold, vbat := true, porN := true }
                   tal := { fired.tal with isOpen := true } }
    (s none true).pwr.released = true ∧ (s none true).pwr.commit = none ∧ (s none true).sup.pwrfailN = true ∧ (s (some 1) true).pwr.commit = some 1 ∧
    (s (some 1) false).sup.vddHold = false ∧ (s (some 1) true).pwr.tripped = false ∧ fired.sup.porN = false ∧ fired.sup.vbat = false := by decide
theorem witness_off : let s : State := { fired with lcs := { fired.lcs with resetDue := true } }
    s.lcs.resetDue = true ∧ fired.lcs.resetDue = false ∧ State.reset.pwr.up = false ∧ State.reset.pwr.tripped = false ∧ State.reset.pwr.commit = none ∧
    fired.pwr.up = true ∧ releasable State.reset = false ∧ State.reset.bk.valid = false ∧
    releasable { State.reset with sup := { porN := true, vddVault := true, railsUp := true } } = true := by decide

/-! TemperatureVoltageAndClocksFollowTheirLimits -/

theorem witness_thermal : fired.pwr.released = true ∧ fired.pwr.tripped = false ∧ fired.pwr.commit = none ∧ fired.pwr.avsFault = false ∧
    ({ fired with pwr := { fired.pwr with avsFault := true } } : State).pwr.released = true ∧
    ({ fired with pwr := { fired.pwr with tripped := true } } : State).pwr.tripped = true := by decide
theorem witness_voltage : let s : State := { fired with pwr := { fired.pwr with avsOn := true, setpoint := 750, goodWindows := 15 } }
    roomToMove (730 : BitVec 10).toNat s = true ∧ 15 ≤ s.pwr.goodWindows ∧ avsRuns fired = false ∧
    railConfigured 0 s = true ∧ ([0x8000] : List (BitVec 16)).getD 0 0 ≠ 0 ∧ roomToMove 730 { s with pwr := { s.pwr with goodWindows := 14 } } = true := by decide
theorem witness_clocks : fired.pwr.up = true ∧ fired.pwr.unlocked.getLsbD (8 : BitVec 4).toNat = false ∧ fired.pwr.unlocked.getLsbD 9 = false ∧
    fired.pwr.onTwin.getLsbD 4 = false ∧ fired.pwr.scaled = false ∧ fired.pwr.crystalOk = false ∧
    (let s : State := { fired with pwr := { fired.pwr with unlocked := 1, scaled := true, crystalOk := true } }
     s.pwr.unlocked.getLsbD (0 : BitVec 4).toNat = true ∧ s.pwr.unlocked.getLsbD 1 = false ∧ s.pwr.scaled = true) ∧
    ({ fired with pwr := { fired.pwr with crystalOk := true } } : State).pwr.crystalOk = true := by decide

/-! ConesAreEnteredLeftAndWokenAndLinksRetrain -/

/-- The part in a cone, with a tolerance that permits it, moving as given. -/
def coneUp (cone target : BitVec 3) (moving leaving : Bool) : State :=
  { fired with pwr := { fired.pwr with cone, target, moving, leaving, floor := 0xFFFFF, saved := decide (cone = 3) }
               hif := { fired.hif with l12 := true, ltrEnable := true, ltrSnoop := 0x103F, ltrNoSnoop := 0x103F }, lcs := { fired.lcs with isOpen := false, rights := 0 } }
theorem witness_cone_entry : chooseCone (coneUp 0 0 false false) = 3 ∧ (coneUp 0 0 false false).pwr.up = true ∧ chooseCone fired = 1 ∧
    (coneUp 0 3 true false).pwr.target.toNat ≤ chooseCone (coneUp 0 3 true false) ∧ (coneUp 0 2 true false).pwr.target.toNat ≤ 3 ∧
    chooseCone (coneUp 0 4 true false) < 4 := by decide
theorem witness_cone_exit : quiet (coneUp 3 3 true true) = true ∧ (coneUp 3 3 true true).pwr.saved = true ∧ (coneUp 3 3 true true).pwr.target = (coneUp 3 3 true true).pwr.cone ∧
    (coneUp 1 1 true true).tasks = [] ∧ 3 ≤ (coneUp 3 3 false false).pwr.cone.toNat ∧ (coneUp 2 0 false false).pwr.cone = 2 ∧
    ({ (coneUp 3 3 true true).pwr with saved := false } : PowerMgr).saved = false ∧ fired.pwr.cone = 0 := by decide
theorem witness_drains : let t (w : Work) : Task := { opcode := 0x0E00, rq := ask 0xFFFF [], work := [w], effected := true }
    let s (w : Work) : State := { fired with tasks := [(4, t w)], bk := { fired.bk with lock := 0 }, roles := [], cru := [(0, { busy := true })] }
    (s .cone).hasTask 4 = true ∧ (s .cone).task 4 = t .cone ∧ (s .cone).bk.lock = 0 ∧ coneAllowed (s .cone) = true ∧
    drained (t (.drain [4])) [4] (s (.drain [4])) = false ∧ busyNumber 1000 (s (.idle [1000])) = true ∧
    coneAllowed { (s .cone) with pwr := { fired.pwr with moving := true } } = false := by decide
theorem witness_links : let s : State := { fired with fabric := { linkUp := true, replays := 4, retries := [(linkKey 1 2, 8)], broken := [(3, 4)] } }
    s.pwr.up = true ∧ s.fabric.broken.contains (linkOf 2 1) = false ∧ 8 ≤ mapGet 0 s.fabric.retries (linkKey 2 1) ∧
    mapGet 0 s.fabric.retries (linkKey 1 3) < 8 ∧ s.fabric.broken.contains (linkOf 4 3) = true ∧ s.fabric.linkUp = true ∧ 4 ≤ s.fabric.replays ∧
    fired.fabric.replays < 4 ∧ fired.pwr.released = true ∧ State.reset.pwr.released = false := by decide

/-! TwoWirePortMctpAndDoeAnswerAsConfigured -/

theorem witness_port : fired.side.i3c = false ∧ ({ fired.side with i3c := true } : Sideband).i3c = true ∧ bindingUp true fired = true ∧
    bindingUp false fired = true ∧ fired.hif.l2 = false ∧ ({ fired.hif with l2 := true } : HostIf).l2 = true ∧ leField [1] 0 1 = 1 := by decide
theorem witness_packets : let p : MctpPacket := { version := 1, dest := 0, source := 9, som := false, eom := true, seq := 2, owner := true, tag := 3
                                                  msgType := 0x7E, check := false, body := [1], pecGood := true }
    let a : Assembly := { next := 2, msgType := 0x7E, check := false, bytes := [0] }
    let s : State := { fired with side := { fired.side with wire := [(75, a)] } }
    (assemblies false s).find? (fun x => x.1 == 8 * p.source.toNat + p.tag.toNat) = some (75, a) ∧ a.next = p.seq ∧ (a.bytes ++ p.body).length < 4160 ∧
    p.dest = 0 ∧ ({ p with dest := 8 }).dest ≠ bindingEid false s ∧ ({ p with seq := 1 }).seq ≠ a.next := by decide
theorem witness_unsupported : leField [0x80, 6] 0 1 = 128 ∧ leField [0x80, 6] 1 1 = 6 ∧ leField [0x12, 0x84] 1 1 = 132 ∧
    spdmCodes.contains 132 = true ∧ leField [0x12, 0xE4] 1 1 = 228 ∧ spdmCodes.contains 228 = false ∧ (fired.conn .doe).serving = none := by decide

/-! SpdmAnswersByConnectionAndTheTapByItsRights -/

theorem witness_spdm : let s (c : SpdmConn) : State := fired.setConn .vdm c
    open_ .vdm (s { phase := .versioned }) = true ∧ ((s { phase := .versioned }).conn .vdm).phase = .versioned ∧ open_ .wire fired = true ∧
    (fired.conn .wire).phase ≠ .capable ∧ ((s { phase := .capable }).conn .vdm).phase = .capable ∧ ((s { phase := .negotiated }).conn .vdm).phase = .negotiated ∧
    fired.pwr.cone.toNat < 3 ∧ 3 ≤ (coneUp 3 3 false false).pwr.cone.toNat ∧ open_ .doe (coneUp 3 3 false false) = true ∧
    ((s { phase := .negotiated, deferred := some (5, .measurements 1 false [] []) }).conn .vdm).deferred = some (5, .measurements 1 false [] []) ∧
    ((s { serving := some (.digests []) }).conn .vdm).serving.isSome = true ∧ transportUp .vdm (s {}) = true ∧ fired.chain = [] := by decide
theorem witness_tap : let s : State := { tamperUp with hif := { fired.hif with linkUp := false } }
    s.sup.vddVault = true ∧ s.hif.linkUp = false ∧ s.lcs.isOpen = true ∧ s.lcs.rights.getLsbD 0 = true ∧ s.lcs.rights.getLsbD 1 = true ∧
    ({ s.lcs with isOpen := false } : LifeCycle).isOpen = false := by decide

/-! StepRunsTheFrontCommandOrLetsTheTimebaseTick -/

theorem witness_step : State.reset.pending = [] ∧
    ({ State.reset with pending := [.fence (.control 0)] } : State).pending = [.fence (.control 0)] := by decide

/-! EveryStepKeepsTheMemoryInCanonicalForm -/

theorem witness_invariant : Memory.wf State.reset.mem ∧ (∃ t, step State.reset = .next t) ∧
    Memory.wf (returnCore false).mem ∧ (returnCore false).mem ≠ [] := ⟨by decide, ⟨_, rfl⟩, by decide, by decide⟩

end Sys2Proof.Tests
end

