-- ==== Sys2Proof/Proofs/CanonicalMemory.lean ====
section
/-! PROOFS. Every step keeps the internal memory in canonical form (log entry 7).

Each function of the model that returns a state has one lemma, in the order of the model's files: `f_mem` when it leaves
the internal memory as it was, `f_canonical` when it may write there and keeps the canonical form. Where a function may
answer no state, its lemma speaks of the state it answers. `exec_canonical` reads the result off for each command, and the
step follows.

`-implicitDefEqProofs` makes `simp` record a proof for the rewrites that hold by definition: the hypothesis of a
`f_canonical` lemma is about the record update in front of it, and the proof found there is not accepted without one.
`maxDischargeDepth` is raised where more than two such functions run one after the other. -/

namespace Sys2Proof.Machine

/-- The canonical form of the internal memory (log entry 7), folded so that `simp` carries it as one fact. -/
def Canonical (m : FMap Byte) : Prop := Memory.wf m

/-- A command that goes on leaves the memory in canonical form. -/
def NextCanonical (o : Answer) : Prop := ∀ t, o = .next t → Canonical t.mem

@[simp] theorem nextCanonical_next (t : State) : NextCanonical (.next t) ↔ Canonical t.mem := by
  simp [NextCanonical]

theorem nextCanonical_of_state {t : State} (h : Canonical t.mem) : NextCanonical (.next t) := (nextCanonical_next t).2 h

/-- The state a command's body leaves, whether the command completes or stays in progress. -/
def CmdRes.state : CmdRes → State
  | .done _ _ _ t => t
  | .wait _ t => t

@[simp] theorem CmdRes.state_done (status detail payload t) : (CmdRes.done status detail payload t).state = t := rfl
@[simp] theorem CmdRes.state_wait (k t) : (CmdRes.wait k t).state = t := rfl

/-- The state the operation of a word leaves: most operations change the core alone. -/
def OpRes.stateOr (s : State) : OpRes → State
  | .state t => t
  | _ => s

section
variable (s : State)

@[simp] theorem OpRes.stateOr_core (k) : (OpRes.core k).stateOr s = s := rfl
@[simp] theorem OpRes.stateOr_state (t) : (OpRes.state t).stateOr s = t := rfl
@[simp] theorem OpRes.stateOr_transfer (k d) : (OpRes.transfer k d).stateOr s = s := rfl
@[simp] theorem OpRes.stateOr_goto (k a) : (OpRes.goto_ k a).stateOr s = s := rfl
@[simp] theorem OpRes.stateOr_arith (k cause) : (OpRes.arith k cause).stateOr s = s := rfl
@[simp] theorem OpRes.stateOr_trap (cause info a) : (OpRes.trap cause info a).stateOr s = s := rfl
@[simp] theorem OpRes.stateOr_wait : OpRes.wait.stateOr s = s := rfl
@[simp] theorem OpRes.stateOr_gateDouble (info ring) : (OpRes.gateDouble info ring).stateOr s = s := rfl

end

/-! A branch is seen through: what both branches leave, the choice leaves. -/

section
variable (p : Prop) [Decidable p]

@[simp] theorem ite_mem (a b : State) : (if p then a else b).mem = if p then a.mem else b.mem := apply_ite State.mem p a b

@[simp] theorem ite_state (a b : CmdRes) : (if p then a else b).state = if p then a.state else b.state :=
  apply_ite CmdRes.state p a b

@[simp] theorem ite_stateOr (s : State) (a b : OpRes) :
    (if p then a else b).stateOr s = if p then a.stateOr s else b.stateOr s :=
  apply_ite (OpRes.stateOr s) p a b

end

@[simp] theorem canonical_ite {p : Prop} [Decidable p] {m n : FMap Byte} (hm : Canonical m) (hn : Canonical n) :
    Canonical (if p then m else n) := by
  split <;> assumption

theorem ite_state_mem {p : Prop} [Decidable p] {a b : CmdRes} {m : FMap Byte} (ha : a.state.mem = m)
    (hb : b.state.mem = m) : (if p then a else b).state.mem = m := by
  split <;> assumption

/-! A fold is seen through: what one step leaves, the fold over a list leaves. -/

section
variable {β γ : Type}

@[simp] theorem foldl_mem (f : State → β → State) (hf : ∀ s b, (f s b).mem = s.mem) (l : List β) (s : State) :
    (l.foldl f s).mem = s.mem := by
  induction l generalizing s with
  | nil => rfl
  | cons b l ih => rw [List.foldl_cons, ih, hf]

theorem foldl_snd_mem (f : γ × State → β → γ × State) (hf : ∀ r b, (f r b).2.mem = r.2.mem) (l : List β)
    (r : γ × State) : (l.foldl f r).2.mem = r.2.mem := by
  induction l generalizing r with
  | nil => rfl
  | cons b l ih => rw [List.foldl_cons, ih, hf]

theorem foldl_canonical {f : State → β → State} (hf : ∀ s b, Canonical s.mem → Canonical (f s b).mem) (l : List β)
    (s : State) (h : Canonical s.mem) : Canonical (l.foldl f s).mem := by
  induction l generalizing s with
  | nil => exact h
  | cons b l ih => exact ih _ (hf _ _ h)

end

/-! ## What each function of the model does to the memory -/

variable {s : State}

/-! ### The shared operations of a Thrower core -/

@[simp] theorem haltCore_mem (c) : (haltCore c s).mem = s.mem := rfl

@[simp] theorem doubleFault_mem (c info orig r ret) : (doubleFault c info orig r ret s).mem = s.mem := by
  simp [doubleFault]

/-- The two words an exception or a gate saves on a stack (R152). -/
@[simp] theorem pushWords_canonical {a w0 w1} (h : Canonical s.mem) : Canonical (pushWords a w0 w1 s).mem :=
  memWrite_wf 0 _ _ _ h

/-- Taking an exception halts the core or saves two words on its stack (R152, R156). -/
@[simp] theorem takeException_canonical {c e} (h : Canonical s.mem) : Canonical (takeException c e s).mem := by
  simp only [takeException]
  repeat' split
  all_goals simp [h]

@[simp] theorem raise_canonical {c cause info addr} (h : Canonical s.mem) :
    Canonical (raise c cause info addr s).mem := by
  simp [raise, h]

@[simp] theorem takeImprecise_canonical {c} (h : Canonical s.mem) : Canonical (takeImprecise c s).mem := by
  simp only [takeImprecise]
  split <;> simp -implicitDefEqProofs [h]

@[simp] theorem boundary_canonical {c} (h : Canonical s.mem) : Canonical (boundary c s).mem := by
  simp only [boundary]
  repeat' split
  all_goals simp -implicitDefEqProofs [h]

@[simp] theorem finishTransfer_canonical {c p} (h : Canonical s.mem) : Canonical (finishTransfer c p s).mem := by
  unfold finishTransfer
  split <;> simp [h]

@[simp] theorem completeWord_canonical {c} (h : Canonical s.mem) : Canonical (completeWord c s).mem := by
  simp only [completeWord]
  repeat' split
  all_goals simp (maxDischargeDepth := 8) -implicitDefEqProofs [h]

/-- A word keeps the canonical form when its operation does: otherwise it takes an exception or moves the core. -/
theorem issue_canonical {c w body} (h : Canonical s.mem) (hb : Canonical ((body (s.core c) s).stateOr s).mem) :
    Canonical (issue c w body s).mem := by
  unfold issue
  extract_lets k
  split
  · exact h
  split
  · exact takeImprecise_canonical h
  split
  · exact raise_canonical h
  split
  · exact raise_canonical h
  split
  · exact raise_canonical h
  cases hr : body k s with
  | core k' => exact completeWord_canonical h
  | state t => exact completeWord_canonical (by simpa [k, hr] using hb)
  | transfer k' kind => exact h
  | goto_ k' next => exact boundary_canonical h
  | arith k' cause => exact completeWord_canonical h
  | trap cause info addr => exact raise_canonical h
  | wait => exact completeWord_canonical h
  | gateDouble info tring => simpa using h

theorem nextCanonical_issue {c w body} (h : Canonical s.mem) (hb : Canonical ((body (s.core c) s).stateOr s).mem) :
    NextCanonical (.next (issue c w body s)) :=
  nextCanonical_of_state (issue_canonical h hb)

@[simp] theorem coreReset_mem (c) : (coreReset c s).mem = s.mem := rfl

/-! ### The event recorder -/

@[simp] theorem raiseEvent_mem (source detail) : (raiseEvent source detail s).mem = s.mem := by simp [raiseEvent]

@[simp] theorem joinStaged_mem : (joinStaged s).mem = s.mem := by simp [joinStaged]

@[simp] theorem raisePlain_mem (source) : (raisePlain source s).mem = s.mem := by simp [raisePlain]

@[simp] theorem sampleMetric_mem (metric value) : (sampleMetric metric value s).mem = s.mem := rfl

/-! ### The host interface -/

@[simp] theorem State.setBox_mem (f m) : (State.setBox s f m).mem = s.mem := rfl

@[simp] theorem tokensAgain_mem : (tokensAgain s).mem = s.mem := by simp [tokensAgain]

@[simp] theorem startExit_mem (own) : (startExit own s).mem = s.mem := by simp [startExit]

@[simp] theorem sendMsix_mem (f v) : (sendMsix f v s).mem = s.mem := by simp [sendMsix]

@[simp] theorem notifyGlobal_mem : (notifyGlobal s).mem = s.mem := by simp [notifyGlobal]

@[simp] theorem noteHealth_mem (before) : (noteHealth before s).mem = s.mem := by simp [noteHealth]

@[simp] theorem queueEvent_mem (q) : (queueEvent q s).mem = s.mem := by simp [queueEvent]

@[simp] theorem queueError_mem (q cause) : (queueError q cause s).mem = s.mem := by simp [queueError]

@[simp] theorem writeCompletion_mem (q header) : (writeCompletion q header s).mem = s.mem := by simp [writeCompletion]

@[simp] theorem queueComplete_mem (q header) : (queueComplete q header s).mem = s.mem := by simp [queueComplete]

@[simp] theorem reserveToken_mem : (reserveToken s).mem = s.mem := rfl

@[simp] theorem releaseReservation_mem : (releaseReservation s).mem = s.mem := by simp [releaseReservation]

@[simp] theorem issueReserved_mem : (issueReserved s).mem = s.mem := rfl

@[simp] theorem returnToken_mem : (returnToken s).mem = s.mem := by simp [returnToken]

/-! ### The tally block -/

@[simp] theorem chargeSaggar_mem (sag c) : (chargeSaggar sag c s).mem = s.mem := rfl

@[simp] theorem chargeOverhead_mem (c) : (chargeOverhead c s).mem = s.mem := rfl

@[simp] theorem countEngine_mem (c) : (countEngine c s).mem = s.mem := rfl

@[simp] theorem countInflight_mem (c) : (countInflight c s).mem = s.mem := rfl

@[simp] theorem drawOverhead_mem (n) : (drawOverhead n s).mem = s.mem := rfl

@[simp] theorem chargeTo_mem (sag c) : (chargeTo sag c s).mem = s.mem := by
  unfold chargeTo
  split <;> simp

@[simp] theorem issueRecord_mem (kind flags saggar span first c f132 f156) :
    (issueRecord kind flags saggar span first c f132 f156 s).mem = s.mem :=
  rfl

@[simp] theorem issueCarried_mem (k kind flags saggar span c f132 f156) :
    (issueCarried k kind flags saggar span c f132 f156 s).mem = s.mem :=
  rfl

@[simp] theorem issuePair_mem (flags span first lo hi lost) :
    (issuePair flags span first lo hi lost s).mem = s.mem := by
  simp [issuePair]

@[simp] theorem backlogHold_mem : (backlogHold s).mem = s.mem := by simp [backlogHold]

@[simp] theorem backlogTarget_mem : (backlogTarget s).mem = s.mem := by simp [backlogTarget]

@[simp] theorem openSpan_mem (first) : (openSpan first s).mem = s.mem := rfl

@[simp] theorem saggarRecords_mem (flags span) : (saggarRecords flags span s).mem = s.mem := by
  simp -implicitDefEqProofs [saggarRecords]

@[simp] theorem addSignJobs_mem (n) : (addSignJobs n s).mem = s.mem := by simp [addSignJobs]

@[simp] theorem loseRecord_mem (seq) : (loseRecord seq s).mem = s.mem := by
  simp only [loseRecord]
  split <;> simp

@[simp] theorem lostPair_mem : (lostPair s).mem = s.mem := by
  unfold lostPair
  split <;> simp

@[simp] theorem closeSpan_mem (span) : (closeSpan span s).mem = s.mem := by simp [closeSpan]

@[simp] theorem idleAndOpen_mem : (idleAndOpen s).mem = s.mem := by
  unfold idleAndOpen
  split <;> simp

@[simp] theorem startPair_mem (wasOpen) : (startPair wasOpen s).mem = s.mem := by
  simp only [startPair]
  repeat' split
  all_goals simp_all

/-! ### The key vault -/

@[simp] theorem refuseRoom_mem (sag) : (refuseRoom sag s).mem = s.mem := by simp [refuseRoom]

@[simp] theorem makeHotRoom_mem (sag n fuel) (s : State) : (makeHotRoom sag n fuel s).mem = s.mem := by
  induction fuel generalizing s with
  | zero => rfl
  | succ fuel ih =>
    simp only [makeHotRoom]
    repeat' split
    all_goals simp [ih]

@[simp] theorem loadHot_mem (i) : (loadHot i s).1.mem = s.mem := by
  simp only [loadHot]
  repeat' split
  all_goals simp

theorem createKey_mem {k i t} (hr : createKey k s = some (i, t)) : t.mem = s.mem := by
  simp only [createKey] at hr
  split at hr
  · cases hr
  · cases hr; simp

@[simp] theorem clearLaneKey_mem (i) : (clearLaneKey i s).mem = s.mem := rfl

@[simp] theorem keepCounts_mem (i) : (keepCounts i s).mem = s.mem := rfl

@[simp] theorem destroyKey_mem (i) : (destroyKey i s).mem = s.mem := rfl

@[simp] theorem invokeKey_mem (i) : (invokeKey i s).1.mem = s.mem := rfl

/-! ### The flash controller -/

@[simp] theorem flashRefused_mem (r) : (flashRefused r s).mem = s.mem := by simp [flashRefused]

@[simp] theorem flashNext_mem (erase) : (flashNext erase s).mem = s.mem := by
  unfold flashNext
  split <;> simp

@[simp] theorem flashPump_mem : (flashPump s).mem = s.mem := by simp [flashPump]

@[simp] theorem flashBegin_mem (o) : (flashBegin o s).mem = s.mem := by simp [flashBegin]

@[simp] theorem retireSector_mem (sec) : (retireSector sec s).mem = s.mem := by simp [retireSector]

@[simp] theorem eraseSector_mem (sec) : (eraseSector sec s).mem = s.mem := rfl

@[simp] theorem endProgram_mem (o verifies) : (endProgram o verifies s).1.mem = s.mem := by
  simp only [endProgram]
  repeat' split
  all_goals simp

@[simp] theorem endErase_mem (o pulses verifies) : (endErase o pulses verifies s).1.mem = s.mem := by
  simp only [endErase]
  repeat' split
  all_goals simp

@[simp] theorem logOp_mem (task) : (logOp task s).2.mem = s.mem := rfl

@[simp] theorem appendLog_mem (mk) : (appendLog mk s).mem = s.mem := by simp [appendLog]

@[simp] theorem writeLog_mem (mk) : (writeLog mk s).mem = s.mem := by simp [writeLog]

/-! ### Draws of randomness, jobs and tokens -/

@[simp] theorem startDraw_mem : (startDraw s).mem = s.mem := by
  unfold startDraw
  split <;> simp

@[simp] theorem requestDraw_mem (r) : (requestDraw r s).mem = s.mem := by simp [requestDraw]

@[simp] theorem queueJob_mem (id) : (queueJob id s).mem = s.mem := by simp [queueJob]

@[simp] theorem seekToken_mem (id) : (seekToken id s).mem = s.mem := by simp [seekToken]

@[simp] theorem createJob_mem (j tid) : (createJob j tid s).mem = s.mem := by
  unfold createJob
  split <;> simp

@[simp] theorem settleCurrent_mem : (settleCurrent s).mem = s.mem := rfl

@[simp] theorem startWork_mem (id) : (startWork id s).mem = s.mem := by
  simp only [startWork]
  repeat' split
  all_goals simp

/-! ### The Depepa command interface -/

@[simp] theorem sideDrop_mem : (sideDrop s).mem = s.mem := by simp [sideDrop]

@[simp] theorem takeUp_mem (opcode rq) : (takeUp opcode rq s).1.mem = s.mem := by
  simp only [takeUp]
  repeat' split
  all_goals simp

@[simp] theorem mailboxComplete_mem (f status bytes) : (mailboxComplete f status bytes s).mem = s.mem := by
  simp [mailboxComplete]

@[simp] theorem respond_mem (opcode rq status det payload) :
    (respond opcode rq status det payload s).mem = s.mem := by
  unfold respond
  split <;> simp

@[simp] theorem dropReservation_mem (rq) : (dropReservation rq s).mem = s.mem := by
  unfold dropReservation
  split <;> simp

@[simp] theorem rejectUnknown_mem (f) : (rejectUnknown f s).mem = s.mem := by simp [rejectUnknown]

@[simp] theorem waitOr_mem (finish t) (hf : (finish t s).state.mem = s.mem) :
    (waitOr finish t s).state.mem = s.mem := by
  unfold waitOr
  split <;> simp [hf]

@[simp] theorem waitOr_canonical {finish t} (hf : Canonical (finish t s).state.mem) (h : Canonical s.mem) :
    Canonical (waitOr finish t s).state.mem := by
  unfold waitOr
  split <;> simp [hf, h]

@[simp] theorem failWith_mem (status) : (failWith status s).state.mem = s.mem := rfl

@[simp] theorem addTask_mem (t) : (addTask t s).mem = s.mem := by
  unfold addTask
  split <;> simp

/-- A command keeps the canonical form when its body does, from the state in which the request was taken up. -/
theorem runCommand_canonical {c rq} {body : State → CmdRes} (h : Canonical s.mem)
    (hb : ∀ s, Canonical s.mem → Canonical (body s).state.mem) : Canonical (runCommand c rq body s).mem := by
  have ht : (takeUp c.opcode rq s).1.mem = s.mem := takeUp_mem _ _
  unfold runCommand
  generalize takeUp c.opcode rq s = u at ht
  obtain ⟨n, taken⟩ := u
  have hn : Canonical n.mem := (congrArg Canonical ht).mpr h
  cases taken
  · exact hn
  dsimp only
  split
  · simp [hn]
  have hr := hb n hn
  generalize body n = r at hr
  cases r with
  | done status detail payload t => simpa using hr
  | wait k t => simpa using hr

theorem nextCanonical_runCommand {c rq} {body : State → CmdRes} (h : Canonical s.mem)
    (hb : ∀ s, Canonical s.mem → Canonical (body s).state.mem) : NextCanonical (.next (runCommand c rq body s)) :=
  nextCanonical_of_state (runCommand_canonical h hb)

@[simp] theorem finishTask_mem (id status det payload) : (finishTask id status det payload s).mem = s.mem := by
  simp [finishTask]

/-! ### The glaze lanes -/

@[simp] theorem takeGranules_mem (sag die spill) : (takeGranules sag die spill s).mem = s.mem := rfl

@[simp] theorem dropGranules_mem (sag die spill) : (dropGranules sag die spill s).mem = s.mem := rfl

@[simp] theorem endMessage_mem (ses m) : (endMessage ses m s).mem = s.mem := by
  simp only [endMessage]
  split <;> simp

@[simp] theorem discardSession_mem (ses) : (discardSession ses s).mem = s.mem := by simp [discardSession]

@[simp] theorem dataComplete_mem (rq status det written) : (dataComplete rq status det written s).mem = s.mem := by
  unfold dataComplete
  split <;> simp

@[simp] theorem dataRefuse_mem (rq status) : (dataRefuse rq status s).mem = s.mem := by simp [dataRefuse]

@[simp] theorem acceptChunk_mem (q ses rq d) : (acceptChunk q ses rq d s).mem = s.mem := by simp [acceptChunk]

@[simp] theorem dataDescriptor_mem (q slot d) : (dataDescriptor q slot d s).mem = s.mem := by
  simp only [dataDescriptor]
  repeat' split
  all_goals simp

@[simp] theorem loadSlot_mem (sag key n) : (loadSlot sag key n s).mem = s.mem := by
  unfold loadSlot
  split <;> simp

@[simp] theorem laneInvoke_mem (n key) : (laneInvoke n key s).mem = s.mem := by
  unfold laneInvoke
  split <;> simp

@[simp] theorem issueJob_mem (id) : (issueJob id s).mem = s.mem := by simp [issueJob]

@[simp] theorem startLaneJob_mem (id n) : (startLaneJob id n s).mem = s.mem := by
  simp only [startLaneJob]
  split <;> simp

@[simp] theorem freeLane_mem (n cls bytes) : (freeLane n cls bytes s).mem = s.mem := rfl

@[simp] theorem endJob_mem (id) : (endJob id s).mem = s.mem := by simp [endJob]

/-! ### Operand-memory slots -/

@[simp] theorem markSealRead_mem (n right) : (markSealRead n right s).mem = s.mem := by simp [markSealRead]

/-- A word put into an operand slot. -/
@[simp] theorem storeSlotWord_canonical {n sel i v} (h : Canonical s.mem) :
    Canonical (storeSlotWord s n sel i v).mem := by
  simp only [storeSlotWord]
  split
  · exact h
  · exact memWrite_wf 0 _ _ _ h

@[simp] theorem storeWide_canonical {n sel i v} (h : Canonical s.mem) : Canonical (storeWide s n sel i v).mem := by
  simp [storeWide, h]

/-! ### The crucible array -/

/-- The wipe of a crucible drops entries of the map, and the entries that stay keep their order. -/
@[simp] theorem wipe_canonical {n keep} (h : Canonical s.mem) : Canonical (wipe n keep s).mem :=
  mapFilter_wf 0 none _ _ h

@[simp] theorem startCrucible_mem (id n) : (startCrucible id n s).mem = s.mem := by
  simp only [startCrucible]
  split <;> simp -implicitDefEqProofs

@[simp] theorem freeCrucible_canonical {n cycles} (h : Canonical s.mem) :
    Canonical (freeCrucible n cycles s).mem := by
  simp [freeCrucible, h]

@[simp] theorem rawIssue_canonical {n o} (h : Canonical s.mem) : Canonical (rawIssue n o s).mem := by
  unfold rawIssue
  repeat' split
  all_goals simp [h]

@[simp] theorem chargeLease_mem (i cycles) : (chargeLease i cycles s).mem = s.mem := by
  simp -implicitDefEqProofs [chargeLease]

@[simp] theorem dropLeased_canonical {expired n} (h : Canonical s.mem) : Canonical (dropLeased expired n s).mem := by
  simp -implicitDefEqProofs [dropLeased, h]

@[simp] theorem endLease_canonical {i expired} (h : Canonical s.mem) : Canonical (endLease i expired s).mem := by
  simp (maxDischargeDepth := 8) +contextual -implicitDefEqProofs [endLease, foldl_canonical, h]

/-! ### The key commands -/

@[simp] theorem dropJob_mem (id) : (dropJob id s).mem = s.mem := by simp [dropJob]

@[simp] theorem failTask_mem (tid status det) : (failTask tid status det s).mem = s.mem := by
  simp only [failTask]
  repeat' split
  all_goals simp

@[simp] theorem refuseWaiting_mem (p status) : (refuseWaiting p status s).mem = s.mem := by
  refine foldl_mem _ (fun s e => ?_) _ _
  split <;> simp

@[simp] theorem makeStart_mem (rq alg bits note) : (makeStart rq alg bits note s).state.mem = s.mem := by
  unfold makeStart
  repeat' split
  all_goals simp

@[simp] theorem dmaResult_mem (rq opcode addr bytes payload) :
    (dmaResult rq opcode addr bytes payload s).state.mem = s.mem := by
  simp [dmaResult]

@[simp] theorem bodyKeyGenerate_mem (rq) : (bodyKeyGenerate rq s).state.mem = s.mem := by
  simp only [bodyKeyGenerate]
  repeat' split
  all_goals simp

@[simp] theorem finishKeyGenerate_mem (t) : (finishKeyGenerate t s).state.mem = s.mem := by
  simp only [finishKeyGenerate]
  split
  · split
    · simp
    · next hr => simp [createKey_mem hr]
  · simp

@[simp] theorem bodyKeyRotate_mem (rq) : (bodyKeyRotate rq s).state.mem = s.mem := by
  unfold bodyKeyRotate
  repeat' split
  all_goals simp

@[simp] theorem finishKeyRotate_mem (t) : (finishKeyRotate t s).state.mem = s.mem := by
  simp only [finishKeyRotate]
  split
  · split
    · simp
    · next hr => simp [createKey_mem hr]
  · simp

@[simp] theorem bodyKeyExportWrapped_mem (rq) : (bodyKeyExportWrapped rq s).state.mem = s.mem := by
  simp only [bodyKeyExportWrapped]
  repeat' split
  all_goals simp

@[simp] theorem finishKeyExportWrapped_mem (t) : (finishKeyExportWrapped t s).state.mem = s.mem := by
  unfold finishKeyExportWrapped
  split <;> simp

@[simp] theorem bodyKeyImportWrapped_mem (rq) : (bodyKeyImportWrapped rq s).state.mem = s.mem := by
  simp only [bodyKeyImportWrapped]
  refine ite_state_mem (by simp) ?_
  split
  · simp
  refine ite_state_mem (by simp) <| ite_state_mem (by simp) <| ite_state_mem (by simp) <| ite_state_mem (by simp) ?_
  split
  · refine ite_state_mem (by simp) <| ite_state_mem (by simp) ?_
    split
    · simp
    · next hr => simp [createKey_mem hr]
  · simp

@[simp] theorem bodyKeyDerive_mem (rq) : (bodyKeyDerive rq s).state.mem = s.mem := by
  simp only [bodyKeyDerive]
  repeat' split
  all_goals simp

@[simp] theorem finishKeyDerive_mem (t) : (finishKeyDerive t s).state.mem = s.mem := by
  simp only [finishKeyDerive]
  split
  · split
    · simp
    · next hr => simp [createKey_mem hr]
  · simp

@[simp] theorem scrubKey_mem (i) : (scrubKey i s).mem = s.mem := by simp [scrubKey]

@[simp] theorem bodyKeyDestroy_mem (rq) : (bodyKeyDestroy rq s).state.mem = s.mem := by
  unfold bodyKeyDestroy
  split <;> simp

@[simp] theorem finishKeyDestroy_mem (t) : (finishKeyDestroy t s).state.mem = s.mem := by
  unfold finishKeyDestroy
  split <;> simp

@[simp] theorem bodyKeyQuery_mem (rq) : (bodyKeyQuery rq s).state.mem = s.mem := by
  unfold bodyKeyQuery
  repeat' split
  all_goals simp

@[simp] theorem bodyKeySetChain_mem (rq) : (bodyKeySetChain rq s).state.mem = s.mem := by
  unfold bodyKeySetChain
  split <;> simp

/-! ### The saggar commands -/

@[simp] theorem bodySagCreate_mem (rq) : (bodySagCreate rq s).state.mem = s.mem := by
  unfold bodySagCreate
  repeat' split
  all_goals simp

@[simp] theorem finishSagCreate_mem (t) : (finishSagCreate t s).state.mem = s.mem := by
  unfold finishSagCreate
  split <;> simp

@[simp] theorem bodySagSetPolicy_mem (rq) : (bodySagSetPolicy rq s).state.mem = s.mem := by simp [bodySagSetPolicy]

@[simp] theorem reevaluateCone_mem : (reevaluateCone s).mem = s.mem := by simp [reevaluateCone]

@[simp] theorem afterTerm_mem (rq lowers) : (afterTerm rq lowers s).state.mem = s.mem := by simp [afterTerm]

@[simp] theorem bodySagSetLatency_mem (rq) : (bodySagSetLatency rq s).state.mem = s.mem := by simp [bodySagSetLatency]

@[simp] theorem bodySagQuery_mem (rq) : (bodySagQuery rq s).state.mem = s.mem := rfl

@[simp] theorem bodySagBindQueue_mem (rq) : (bodySagBindQueue rq s).state.mem = s.mem := by simp [bodySagBindQueue]

@[simp] theorem bodySagDestroy_mem (rq) : (bodySagDestroy rq s).state.mem = s.mem := rfl

@[simp] theorem retireTraffic_mem (k) : (retireTraffic k s).mem = s.mem := by simp [retireTraffic]

@[simp] theorem dropShake_mem (i) : (dropShake i s).mem = s.mem := by simp [dropShake]

@[simp] theorem reapTraffic_mem : (reapTraffic s).mem = s.mem := by simp [reapTraffic]

@[simp] theorem dropSession_mem (i) : (dropSession i s).mem = s.mem := by simp [dropSession]

@[simp] theorem dropModule_mem (i) : (dropModule i s).mem = s.mem := rfl

@[simp] theorem scrubSaggar_canonical {n} (h : Canonical s.mem) : Canonical (scrubSaggar n s).mem := by
  simp +contextual -implicitDefEqProofs [scrubSaggar, foldl_canonical, h]

@[simp] theorem finishSagDestroy_canonical {t} (h : Canonical s.mem) :
    Canonical (finishSagDestroy t s).state.mem := by
  simp (maxDischargeDepth := 8) -implicitDefEqProofs [finishSagDestroy, h]

theorem execLogReclaim_canonical (h : Canonical s.mem) : NextCanonical (execLogReclaim s) := by
  simp only [execLogReclaim]
  split <;> simp [h]

/-! ### The session commands -/

theorem createSession_mem {x i t} (hr : createSession x s = some (i, t)) : t.mem = s.mem := by
  simp only [createSession] at hr
  split at hr
  · cases hr
  · cases hr; simp

@[simp] theorem bodySesOpen_mem (rq) : (bodySesOpen rq s).state.mem = s.mem := by
  simp only [bodySesOpen]
  split
  · simp
  refine ite_state_mem (by simp) <| ite_state_mem (by simp) <| ite_state_mem (by simp) <| ite_state_mem (by simp) <|
    ite_state_mem (by simp) ?_
  split
  · next hr => simp [createSession_mem hr]
  · simp

@[simp] theorem closeSession_mem (i) : (closeSession i s).mem = s.mem := by
  simp only [closeSession]
  split <;> simp

@[simp] theorem finishSesClose_mem (t) : (finishSesClose t s).state.mem = s.mem := by
  unfold finishSesClose
  split <;> simp

@[simp] theorem bodySesClose_mem (rq) : (bodySesClose rq s).state.mem = s.mem := by
  unfold bodySesClose
  split <;> simp

@[simp] theorem bodySesSaveContext_mem (rq) : (bodySesSaveContext rq s).state.mem = s.mem := by
  simp only [bodySesSaveContext]
  repeat' split
  all_goals simp

@[simp] theorem finishSesSaveContext_mem (t) : (finishSesSaveContext t s).state.mem = s.mem := by
  unfold finishSesSaveContext
  split <;> simp

@[simp] theorem bodySesRestoreContext_mem (rq) : (bodySesRestoreContext rq s).state.mem = s.mem := by
  unfold bodySesRestoreContext
  split <;> simp

@[simp] theorem bodySesQueryUsage_mem (rq) : (bodySesQueryUsage rq s).state.mem = s.mem := by
  unfold bodySesQueryUsage
  split <;> simp

/-! ### The public-key commands and the raw leases -/

@[simp] theorem bodyPkSign_mem (rq) : (bodyPkSign rq s).state.mem = s.mem := by
  simp only [bodyPkSign]
  repeat' split
  all_goals simp

@[simp] theorem finishPkSign_mem (t) : (finishPkSign t s).state.mem = s.mem := by
  unfold finishPkSign
  split <;> simp

@[simp] theorem bodyPkVerify_mem (rq) : (bodyPkVerify rq s).state.mem = s.mem := by
  simp only [bodyPkVerify]
  repeat' split
  all_goals simp

@[simp] theorem finishPkVerify_mem (t) : (finishPkVerify t s).state.mem = s.mem := by simp [finishPkVerify]

@[simp] theorem bodyPkKeypair_mem (rq) : (bodyPkKeypair rq s).state.mem = s.mem := by
  simp only [bodyPkKeypair]
  repeat' split
  all_goals simp

@[simp] theorem finishPkKeypair_mem (t) : (finishPkKeypair t s).state.mem = s.mem := by
  simp only [finishPkKeypair]
  split
  · split
    · simp
    · next hr => simp [createKey_mem hr]
  · simp

theorem installSecret_mem {rq policy secret i t} (hr : installSecret rq policy secret s = some (i, t)) :
    t.mem = s.mem :=
  (createKey_mem hr :)

theorem secretCheck_mem {rq install policy len i t} (hr : secretCheck rq install policy len s = some (i, t)) :
    t.mem = s.mem := by
  simp only [secretCheck] at hr
  repeat' split at hr
  all_goals cases hr
  all_goals simp

@[simp] theorem spendEphemeral_mem (i) : (spendEphemeral i s).mem = s.mem := by simp [spendEphemeral]

@[simp] theorem bodyPkAgree_mem (rq) : (bodyPkAgree rq s).state.mem = s.mem := by
  simp only [bodyPkAgree]
  split
  · simp
  split
  · simp
  split
  · simp
  split
  · simp
  split
  · simp
  split
  · next hr => simp [secretCheck_mem hr]
  · simp

@[simp] theorem secretDone_mem (rq install policy secret mid hasCt) :
    (secretDone rq install policy secret mid hasCt s).state.mem = s.mem := by
  unfold secretDone
  split
  · split
    · simp
    split
    · simp
    · next hr => simp [installSecret_mem hr]
  · split
    · simp
    split
    · simp
    · next hr => simp [installSecret_mem hr]

@[simp] theorem finishPkAgree_mem (t) : (finishPkAgree t s).state.mem = s.mem := by
  unfold finishPkAgree
  split <;> simp

@[simp] theorem bodyPkEncaps_mem (rq) : (bodyPkEncaps rq s).state.mem = s.mem := by
  simp only [bodyPkEncaps]
  split
  · simp
  split
  · simp
  split
  · simp
  split
  · next hr => simp [secretCheck_mem hr]
  split <;> simp

@[simp] theorem finishPkEncaps_mem (t) : (finishPkEncaps t s).state.mem = s.mem := by simp [finishPkEncaps]

@[simp] theorem bodyPkDecaps_mem (rq) : (bodyPkDecaps rq s).state.mem = s.mem := by
  simp only [bodyPkDecaps]
  split
  · simp
  split
  · simp
  split
  · simp
  split
  · simp
  split
  · simp
  split
  · simp
  split
  · next hr => simp [secretCheck_mem hr]
  · simp

@[simp] theorem finishPkDecaps_mem (t) : (finishPkDecaps t s).state.mem = s.mem := by
  unfold finishPkDecaps
  split <;> simp

@[simp] theorem grantLease_canonical {rq} (h : Canonical s.mem) : Canonical (grantLease rq s).state.mem := by
  simp only [grantLease]
  repeat' split
  all_goals simp (maxDischargeDepth := 8) +contextual -implicitDefEqProofs [foldl_canonical, h]

@[simp] theorem bodyPkLeaseRaw_canonical {rq} (h : Canonical s.mem) : Canonical (bodyPkLeaseRaw rq s).state.mem := by
  simp (maxDischargeDepth := 8) -implicitDefEqProofs [bodyPkLeaseRaw, h]

@[simp] theorem finishPkLeaseRaw_canonical {t} (h : Canonical s.mem) :
    Canonical (finishPkLeaseRaw t s).state.mem := by
  simp [finishPkLeaseRaw, h]

@[simp] theorem bodyPkReleaseRaw_canonical {rq} (h : Canonical s.mem) :
    Canonical (bodyPkReleaseRaw rq s).state.mem := by
  unfold bodyPkReleaseRaw
  split <;> simp [h]

/-! ### The handshake commands -/

theorem createShake_mem {x i t} (hr : createShake x s = some (i, t)) : t.mem = s.mem := by
  simp only [createShake] at hr
  split at hr
  · cases hr
  · cases hr; simp

@[simp] theorem bodyHsServerBegin_mem (rq) : (bodyHsServerBegin rq s).state.mem = s.mem := by
  simp only [bodyHsServerBegin]
  repeat' split
  all_goals simp

@[simp] theorem finishHsServerBegin_mem (t) : (finishHsServerBegin t s).state.mem = s.mem := by
  simp only [finishHsServerBegin]
  split
  · split
    · simp
    split
    · split
      · simp
      split
      · simp
      split
      · simp
      · next hr => simp [createShake_mem hr]
    · split
      · simp
      split
      · simp
      split
      · simp
      · next hr => simp [createShake_mem hr]
  · simp

@[simp] theorem bodyHsClientBegin_mem (rq) : (bodyHsClientBegin rq s).state.mem = s.mem := by
  simp only [bodyHsClientBegin]
  repeat' split
  all_goals simp

@[simp] theorem finishHsClientBegin_mem (t) : (finishHsClientBegin t s).state.mem = s.mem := by
  simp only [finishHsClientBegin]
  split
  · simp
  split
  · simp
  · next hr => simp [createShake_mem hr]

@[simp] theorem tlsEnd_mem (i e) : (tlsEnd i e s).state.mem = s.mem := by simp [tlsEnd]

theorem installKey_mem {i send secret k t} (hr : installKey i send secret s = some (k, t)) : t.mem = s.mem :=
  createKey_mem hr

theorem installSide_mem {i send secret k t} (hr : installSide i send secret s = some (k, t)) : t.mem = s.mem := by
  simp only [installSide] at hr
  split at hr
  · cases hr
  · next hk => rw [createSession_mem hr, installKey_mem hk]

@[simp] theorem completeShake_mem (i x out) : (completeShake i x out s).state.mem = s.mem := by
  simp only [completeShake]
  split
  · simp
  next ha =>
  split
  · simp
  · next hb => simpa [installSide_mem hb] using installSide_mem ha

@[simp] theorem switchSide_mem (i send newKey) : (switchSide i send newKey s).mem = s.mem := by simp [switchSide]

theorem nextKey_mem {i send k t} (hr : nextKey i send s = some (k, t)) : t.mem = s.mem :=
  installKey_mem hr

theorem advanceRecv_mem {i n} {s t : State} (hr : advanceRecv i n s = some t) : t.mem = s.mem := by
  induction n generalizing s with
  | zero => cases hr; rfl
  | succ n ih =>
    simp only [advanceRecv] at hr
    split at hr
    · cases hr
    · next hk => rw [ih hr]; simp [nextKey_mem hk]

@[simp] theorem finishPost_mem (i n own) : (finishPost i n own s).state.mem = s.mem := by
  simp only [finishPost]
  split
  · simp
  next hr =>
  have hs := advanceRecv_mem hr
  split
  · exact hs
  split
  · simp
  · next hk => simp [nextKey_mem hk, hs]

@[simp] theorem finishHsServerContinue_mem (t) : (finishHsServerContinue t s).state.mem = s.mem := by
  simp only [finishHsServerContinue]
  repeat' split
  all_goals simp

@[simp] theorem bodyHsServerContinue_mem (rq) : (bodyHsServerContinue rq s).state.mem = s.mem := by
  simp only [bodyHsServerContinue]
  repeat' split
  all_goals simp

@[simp] theorem finishHsKeyUpdate_mem (t) : (finishHsKeyUpdate t s).state.mem = s.mem := by
  simp only [finishHsKeyUpdate]
  split
  · split
    · simp
    split
    · simp
    split
    · simp
    split
    · simp
    · next hr => simp [nextKey_mem hr]
  · simp

@[simp] theorem bodyHsKeyUpdate_mem (rq) : (bodyHsKeyUpdate rq s).state.mem = s.mem := by
  simp only [bodyHsKeyUpdate]
  repeat' split
  all_goals simp

@[simp] theorem finishPrepare_mem (t) : (finishPrepare t s).state.mem = s.mem := by
  unfold finishPrepare
  split
  · split
    · simp
    split
    · simp
    split
    · simp
    · next hr => simp [nextKey_mem hr]
  · simp

@[simp] theorem bodyHsExportSecret_mem (rq) : (bodyHsExportSecret rq s).state.mem = s.mem := by
  simp only [bodyHsExportSecret]
  repeat' split
  all_goals simp

@[simp] theorem finishHsExportSecret_mem (t) : (finishHsExportSecret t s).state.mem = s.mem := by
  unfold finishHsExportSecret
  split <;> simp

@[simp] theorem scrubShake_mem (i) : (scrubShake i s).mem = s.mem := by simp [scrubShake]

@[simp] theorem bodyHsAbort_mem (rq) : (bodyHsAbort rq s).state.mem = s.mem := by
  unfold bodyHsAbort
  split <;> simp -implicitDefEqProofs

@[simp] theorem finishHsAbort_mem (t) : (finishHsAbort t s).state.mem = s.mem := by
  unfold finishHsAbort
  split <;> simp

/-! ### The tally commands -/

@[simp] theorem chargeLeases_mem : (chargeLeases s).mem = s.mem := by simp [chargeLeases]

@[simp] theorem closeNow_mem (span) : (closeNow span s).mem = s.mem := by simp [closeNow]

@[simp] theorem bodyTalRead_mem (rq) : (bodyTalRead rq s).state.mem = s.mem := by
  simp only [bodyTalRead]
  repeat' split
  all_goals simp

@[simp] theorem bodyTalAck_mem (rq) : (bodyTalAck rq s).state.mem = s.mem := by
  unfold bodyTalAck
  split <;> simp

@[simp] theorem bodyTalGetSeal_mem (x) : (bodyTalGetSeal x s).state.mem = s.mem := rfl

@[simp] theorem bodySysSetTime_mem (rq) : (bodySysSetTime rq s).state.mem = s.mem := by simp [bodySysSetTime]

/-! ### The entropy subsystem -/

@[simp] theorem setEntState_mem (v) : (setEntState v s).mem = s.mem := by simp [setEntState]

@[simp] theorem endReseed_mem (id) : (endReseed id s).mem = s.mem := by simp [endReseed]

@[simp] theorem enterBlock_mem : (enterBlock s).mem = s.mem := by
  unfold enterBlock
  split <;> simp

@[simp] theorem startDraws_mem : (startDraws s).mem = s.mem := by simp [startDraws]

@[simp] theorem enterBlocks_mem (n) : (enterBlocks n s).mem = s.mem := by simp [enterBlocks]

@[simp] theorem deliverBuffered_mem : (deliverBuffered s).mem = s.mem := by simp [deliverBuffered]

@[simp] theorem withholdParked_mem : (withholdParked s).mem = s.mem := by
  refine foldl_mem _ (fun s r => ?_) _ _
  split
  · rfl
  · split <;> simp

@[simp] theorem stopDraws_mem : (stopDraws s).mem = s.mem := by
  simp only [stopDraws]
  split <;> simp -implicitDefEqProofs

@[simp] theorem stopSearches_mem : (stopSearches s).mem = s.mem := rfl

@[simp] theorem entropyScrub_mem : (entropyScrub s).mem = s.mem := by simp [entropyScrub]

@[simp] theorem entropyGate_mem : (entropyGate s).mem = s.mem := rfl

@[simp] theorem entropyWake_mem : (entropyWake s).mem = s.mem := by simp [entropyWake]

@[simp] theorem writeTestctl_mem (v) : (writeTestctl v s).mem = s.mem := by simp [writeTestctl]

@[simp] theorem bodyEntGetBytes_mem (rq) : (bodyEntGetBytes rq s).state.mem = s.mem := by
  simp only [bodyEntGetBytes]
  repeat' split
  all_goals simp

@[simp] theorem finishEntGetBytes_mem (t) : (finishEntGetBytes t s).state.mem = s.mem := rfl

@[simp] theorem bodyEntReseed_mem (rq) : (bodyEntReseed rq s).state.mem = s.mem := by
  unfold bodyEntReseed
  split <;> simp

@[simp] theorem bodyEntStatus_mem (x) : (bodyEntStatus x s).state.mem = s.mem := rfl

/-! ### Abandoned jobs and the reset of a host function -/

@[simp] theorem abandonRunning_canonical {power id n} (h : Canonical s.mem) :
    Canonical (abandonRunning power id n s).mem := by
  simp -implicitDefEqProofs [abandonRunning, h]

@[simp] theorem abandonJob_canonical {power id} (h : Canonical s.mem) : Canonical (abandonJob power id s).mem := by
  unfold abandonJob
  split <;> simp [h]

@[simp] theorem detachDraws_mem (tid) : (detachDraws tid s).mem = s.mem := rfl

@[simp] theorem detachFlash_mem (tid) : (detachFlash tid s).mem = s.mem := rfl

@[simp] theorem discardOf_mem (t) : (discardOf t s).mem = s.mem := by
  unfold discardOf
  split <;> simp

@[simp] theorem killTask_canonical {power tid} (h : Canonical s.mem) : Canonical (killTask power tid s).mem := by
  simp only [killTask]
  repeat' split
  all_goals simp [h]

@[simp] theorem cancelTask_canonical {power tid} (h : Canonical s.mem) : Canonical (cancelTask power tid s).mem := by
  simp [cancelTask, h]

@[simp] theorem releaseMany_mem (n) : (releaseMany n s).mem = s.mem := by simp [releaseMany]

@[simp] theorem closeWindows_mem : (closeWindows s).mem = s.mem := rfl

@[simp] theorem closeQuorum_mem : (closeQuorum s).mem = s.mem := by simp [closeQuorum]

@[simp] theorem discardFnMessages_mem (f) : (discardFnMessages f s).mem = s.mem := by simp [discardFnMessages]

@[simp] theorem resetFn_canonical {f} (h : Canonical s.mem) : Canonical (resetFn f s).mem := by
  simp (maxDischargeDepth := 8) +contextual -implicitDefEqProofs [resetFn, foldl_canonical, h]

@[simp] theorem resetHost_canonical (h : Canonical s.mem) : Canonical (resetHost s).mem := by
  simp (maxDischargeDepth := 8) +contextual -implicitDefEqProofs [resetHost, foldl_canonical, h]

@[simp] theorem bodySysResetFunction_canonical {rq} (h : Canonical s.mem) :
    Canonical (bodySysResetFunction rq s).state.mem := by
  simp [bodySysResetFunction, h]

theorem execSysResetFunction_canonical {rq} (h : Canonical s.mem) : NextCanonical (execSysResetFunction rq s) := by
  have hr : Canonical (runCommand specSysResetFunction rq (bodySysResetFunction rq) s).mem :=
    runCommand_canonical h fun s hs => bodySysResetFunction_canonical hs
  simp only [execSysResetFunction, nextCanonical_next]
  split
  · next n g hu _ =>
    have hn : Canonical n.mem := by
      have ht : (takeUp 0x0103 rq s).1.mem = s.mem := takeUp_mem _ _
      rw [hu] at ht
      exact (congrArg Canonical ht).mpr h
    have hb : Canonical (bodySysResetFunction rq n).state.mem := bodySysResetFunction_canonical hn
    split
    · split <;> simpa [*] using hb
    · exact hr
  · exact hr

/-! ### Tamper alarms and their responses -/

@[simp] theorem endTask_canonical {tid status} (h : Canonical s.mem) : Canonical (endTask tid status s).mem := by
  simp only [endTask]
  repeat' split
  all_goals simp -implicitDefEqProofs [h]

/-- The scrub of a unit: a service core loses its memory, a crucible its operand memory (R23). -/
@[simp] theorem scrubUnit_canonical {u} (h : Canonical s.mem) : Canonical (scrubUnit u s).mem := by
  simp only [scrubUnit]
  split
  · exact h
  · split
    · exact memClear_wf 0 _ _ _ h
    · simp [h]

@[simp] theorem displace_canonical {id} (h : Canonical s.mem) : Canonical (displace id s).mem := by simp [displace, h]

@[simp] theorem displaceSlices_canonical (h : Canonical s.mem) : Canonical (displaceSlices s).mem := by
  simp (maxDischargeDepth := 8) +contextual -implicitDefEqProofs [displaceSlices, foldl_canonical, h]

@[simp] theorem undoChunk_mem (t) : (undoChunk t s).mem = s.mem := by
  unfold undoChunk
  split <;> simp

@[simp] theorem lockTask_canonical {tid} (h : Canonical s.mem) : Canonical (lockTask tid s).mem := by
  simp only [lockTask]
  repeat' split
  all_goals simp (maxDischargeDepth := 8) -implicitDefEqProofs [h]

@[simp] theorem lockEffects_canonical (h : Canonical s.mem) : Canonical (lockEffects s).mem := by
  simp +contextual -implicitDefEqProofs [lockEffects, foldl_canonical, h, -List.foldl_reverse]

@[simp] theorem thaw_mem : (thaw s).mem = s.mem := rfl

/-- The lock-and-scrub response goes through the jobs, the commands, the lanes and the saggars (R457). -/
@[simp] theorem scrubEffects_canonical (h : Canonical s.mem) : Canonical (scrubEffects s).mem := by
  simp only [scrubEffects, entropyScrub_mem]
  apply displaceSlices_canonical
  dsimp only
  apply foldl_canonical
  · intro s n hs
    exact scrubSaggar_canonical hs
  apply foldl_canonical
  · intro s l hs
    simp -implicitDefEqProofs [hs]
  apply foldl_canonical
  · intro s t hs
    simp [hs]
  refine foldl_canonical (fun s j hs => ?_) _ _ h
  split
  · exact hs
  · simp [hs]

@[simp] theorem applyLock_canonical (h : Canonical s.mem) : Canonical (applyLock s).mem := by
  simp (maxDischargeDepth := 8) -implicitDefEqProofs [applyLock, h]

@[simp] theorem drivePin_mem : (drivePin s).mem = s.mem := rfl

@[simp] theorem gather_mem (d cls designs) : (gather d cls designs s).mem = s.mem := rfl

@[simp] theorem releaseDebug_canonical (h : Canonical s.mem) : Canonical (releaseDebug s).mem := by
  simp (maxDischargeDepth := 8) +contextual -implicitDefEqProofs [releaseDebug, foldl_canonical, h]

@[simp] theorem closeDebug_canonical (h : Canonical s.mem) : Canonical (closeDebug s).mem := by simp [closeDebug, h]

@[simp] theorem takeClass_canonical {cls} (h : Canonical s.mem) : Canonical (takeClass cls s).mem := by
  simp (maxDischargeDepth := 8) -implicitDefEqProofs [takeClass, h]

@[simp] theorem stopUnlock_canonical (h : Canonical s.mem) : Canonical (stopUnlock s).mem := by
  simp (maxDischargeDepth := 8) +contextual -implicitDefEqProofs [stopUnlock, foldl_canonical, h]

@[simp] theorem alarm_canonical {d designs} (h : Canonical s.mem) : Canonical (alarm d designs s).mem := by
  simp (maxDischargeDepth := 8) -implicitDefEqProofs [alarm, h]

@[simp] theorem startBackup_mem : (startBackup s).mem = s.mem := by simp [startBackup]

@[simp] theorem makeSeed_mem : (makeSeed s).mem = s.mem := by simp [makeSeed]

theorem withVault_mem (s : State) (v) : { s with vault := v }.mem = s.mem := rfl

@[simp] theorem readLog_mem : (readLog s).mem = s.mem := by
  unfold readLog
  refine (withVault_mem _ _).trans ((foldl_mem _ (fun s n => ?_) _ _).trans ?_)
  · split <;> simp
  · split <;> simp

@[simp] theorem unlock_mem : (unlock s).mem = s.mem := by simp [unlock]

/-! ### The flash commands -/

@[simp] theorem flashCommand_mem (op) : (flashCommand op s).mem = s.mem := by
  simp only [flashCommand]
  repeat' split
  all_goals simp

@[simp] theorem suspendErase_mem (off) : (suspendErase off s).mem = s.mem := by
  unfold suspendErase
  split <;> simp

@[simp] theorem windowRead_mem (off n) : (windowRead off n s).2.mem = s.mem := by
  unfold windowRead
  split <;> simp

@[simp] theorem bodyFlsProtect_mem (rq) : (bodyFlsProtect rq s).state.mem = s.mem := by simp [bodyFlsProtect]

@[simp] theorem bodyFlsUnlockGroup_mem (rq) : (bodyFlsUnlockGroup rq s).state.mem = s.mem := by
  simp [bodyFlsUnlockGroup]

@[simp] theorem relockGroups_mem : (relockGroups s).mem = s.mem := rfl

@[simp] theorem startRetrain_mem (c task) : (startRetrain c task s).mem = s.mem := by simp [startRetrain]

theorem execRetrainStep_canonical {passes last} (h : Canonical s.mem) :
    NextCanonical (execRetrainStep passes last s) := by
  simp only [execRetrainStep]
  repeat' split
  all_goals simp [h]

/-! ### The tamper commands -/

@[simp] theorem bodyTmpStatus_mem (rq) : (bodyTmpStatus rq s).state.mem = s.mem := by simp [bodyTmpStatus]

@[simp] theorem setClasses_mem (w) : (setClasses w s).mem = s.mem := rfl

@[simp] theorem bodyTmpSetResponse_mem (rq) : (bodyTmpSetResponse rq s).state.mem = s.mem := by
  simp [bodyTmpSetResponse]

@[simp] theorem writeClass_mem (v) : (writeClass v s).mem = s.mem := rfl

@[simp] theorem finishTmpUnlock_mem (t) : (finishTmpUnlock t s).state.mem = s.mem := by simp [finishTmpUnlock]

@[simp] theorem bodyTmpUnlock_mem (rq) : (bodyTmpUnlock rq s).state.mem = s.mem := by
  unfold bodyTmpUnlock
  repeat' split
  all_goals simp

/-! ### The custodian ports and the archive port -/

@[simp] theorem portFails_mem (n) : (portFails n s).mem = s.mem := by simp [portFails]

@[simp] theorem joinQuorum_mem (n) : (joinQuorum n s).mem = s.mem := by simp [joinQuorum]

@[simp] theorem bodyCcpActivate_mem (rq card) : (bodyCcpActivate rq card s).state.mem = s.mem := by
  unfold bodyCcpActivate
  repeat' split
  all_goals simp

@[simp] theorem bodyCcpApdu_mem (rq card) : (bodyCcpApdu rq card s).state.mem = s.mem := by
  unfold bodyCcpApdu
  split <;> simp

@[simp] theorem finishCcpApdu_mem (t) : (finishCcpApdu t s).state.mem = s.mem := by
  unfold finishCcpApdu
  split <;> simp

@[simp] theorem bodyCcpDeactivate_mem (rq) : (bodyCcpDeactivate rq s).state.mem = s.mem := by simp [bodyCcpDeactivate]

@[simp] theorem bodyArcMount_mem (x card) : (bodyArcMount x card s).state.mem = s.mem := by
  unfold bodyArcMount
  repeat' split
  all_goals simp

@[simp] theorem kilnBlock_mem (e seq) : (kilnBlock e seq s).2.mem = s.mem := by
  unfold kilnBlock
  split <;> simp

@[simp] theorem bodyArcExport_mem (rq) : (bodyArcExport rq s).state.mem = s.mem := by
  simp only [bodyArcExport]
  repeat' split
  all_goals simp

@[simp] theorem archiveRemoved_mem : (archiveRemoved s).mem = s.mem := by
  simp only [archiveRemoved]
  split <;> simp

@[simp] theorem archiveCrc_mem : (archiveCrc s).mem = s.mem := by simp [archiveCrc]

@[simp] theorem blockWritten_mem (e) : (blockWritten e s).mem = s.mem := by simp [blockWritten]

theorem execKilnBlockWritten_canonical {write} (h : Canonical s.mem) :
    NextCanonical (execKilnBlockWritten write s) := by
  unfold execKilnBlockWritten
  repeat' split
  all_goals simp [h]

@[simp] theorem bodyArcUnmount_mem (x) : (bodyArcUnmount x s).state.mem = s.mem := by simp [bodyArcUnmount]

@[simp] theorem importRecord_mem (existing r) : (importRecord existing r s).mem = s.mem := by simp [importRecord]

@[simp] theorem importBlocks_mem (first existing bs prev) (s : State) :
    (importBlocks first existing bs prev s).2.2.2.mem = s.mem := by
  induction bs generalizing prev s with
  | nil => rfl
  | cons b bs ih =>
    simp only [importBlocks]
    repeat' split
    all_goals simp [ih]

@[simp] theorem bodyArcImport_mem (rq blocks removed) : (bodyArcImport rq blocks removed s).state.mem = s.mem := by
  simp [bodyArcImport]

/-! ### Life cycle and debug authorisation -/

@[simp] theorem readFuses_mem : (readFuses s).mem = s.mem := by simp [readFuses]

@[simp] theorem freshNonce_mem : (freshNonce s).mem = s.mem := rfl

@[simp] theorem checkHours_canonical (h : Canonical s.mem) : Canonical (checkHours s).mem := by simp [checkHours, h]

@[simp] theorem bodyLcGetState_mem (x) : (bodyLcGetState x s).state.mem = s.mem := rfl

@[simp] theorem burnGroup_mem (g note) : (burnGroup g note s).mem = s.mem := by
  unfold burnGroup
  split <;> simp

@[simp] theorem transition_canonical {target note} (h : Canonical s.mem) :
    Canonical (transition target note s).state.mem := by
  simp [transition, h]

@[simp] theorem bodyLcTransition_mem (rq fuses) : (bodyLcTransition rq fuses s).state.mem = s.mem := by
  simp [bodyLcTransition]

@[simp] theorem finishLcTransition_canonical {t} (h : Canonical s.mem) :
    Canonical (finishLcTransition t s).state.mem := by
  simp [finishLcTransition, h]

@[simp] theorem certFails_mem (status) : (certFails status s).state.mem = s.mem := by simp [certFails]

@[simp] theorem bodyDbgPresentCert_mem (rq) : (bodyDbgPresentCert rq s).state.mem = s.mem := by
  simp [bodyDbgPresentCert]

@[simp] theorem finishDbgPresentCert_mem (t) : (finishDbgPresentCert t s).state.mem = s.mem := by
  simp [finishDbgPresentCert]

@[simp] theorem bodyDbgClose_canonical {x} (h : Canonical s.mem) : Canonical (bodyDbgClose x s).state.mem := by
  simp [bodyDbgClose, h]

/-! ### The rack tag -/

@[simp] theorem tagEvent_mem (n) : (tagEvent n s).mem = s.mem := by simp [tagEvent]

@[simp] theorem tagChange_mem (bank ptr words worn) : (tagChange bank ptr words worn s).2.mem = s.mem := by
  simp only [tagChange]
  repeat' split
  all_goals simp

@[simp] theorem bodyTagRead_mem (rq) : (bodyTagRead rq s).state.mem = s.mem := by
  simp only [bodyTagRead]
  repeat' split
  all_goals simp

@[simp] theorem wiredChange_mem (bank ptr words worn) : (wiredChange bank ptr words worn s).state.mem = s.mem := by
  have ht := tagChange_mem (s := s) bank ptr words worn
  unfold wiredChange
  split
  · next hr => simpa [hr] using ht
  · next hr => simpa [hr] using ht

@[simp] theorem bodyTagWrite_mem (rq worn) : (bodyTagWrite rq worn s).state.mem = s.mem := by simp [bodyTagWrite]

@[simp] theorem bodyTagSetPassword_mem (rq worn) : (bodyTagSetPassword rq worn s).state.mem = s.mem := by
  simp [bodyTagSetPassword]

@[simp] theorem newRn_mem (ph) : (newRn ph s).mem = s.mem := rfl

@[simp] theorem enterRound_mem (slot) : (enterRound slot s).mem = s.mem := by simp [enterRound]

theorem execReqRn_canonical {rn} (h : Canonical s.mem) : NextCanonical (execReqRn rn s) := by
  simp only [execReqRn]
  repeat' split
  all_goals simp [h]

@[simp] theorem accessElsewhere_mem : (accessElsewhere s).mem = s.mem := by
  unfold accessElsewhere
  split <;> simp

@[simp] theorem withHandle_mem (handle) (body : State → State) (hb : ∀ s, (body s).mem = s.mem) :
    (withHandle handle body s).mem = s.mem := by
  simp [withHandle, hb]

@[simp] theorem fieldWrite_mem (bank ptr data weak worn) : (fieldWrite bank ptr data weak worn s).mem = s.mem := by
  have ht := tagChange_mem (s := s) bank.toNat ptr data worn
  simp only [fieldWrite]
  split
  · simp
  split
  · simp
  split
  · simp
  split
  · next hr => simpa [hr] using ht
  · next hr => simpa [hr] using ht

theorem execInvalidCommand_canonical (h : Canonical s.mem) : NextCanonical (execInvalidCommand s) := by
  unfold execInvalidCommand
  repeat' split
  all_goals simp [h]

/-! ### The roles of lanes, crucibles and service cores -/

@[simp] theorem setUnqualified_mem (cls i v) : (setUnqualified cls i v s).mem = s.mem := by
  unfold setUnqualified
  split <;> simp

@[simp] theorem claimUnit_canonical {cls i} (h : Canonical s.mem) : Canonical (claimUnit cls i s).mem := by
  unfold claimUnit
  split <;> simp [h]

@[simp] theorem enqueue_mem (r) : (enqueue r s).2.mem = s.mem := rfl

@[simp] theorem enterSpare_canonical {cls i} (h : Canonical s.mem) : Canonical (enterSpare cls i s).mem := by
  simp [enterSpare, h]

@[simp] theorem leaveActive_canonical {cls i} (h : Canonical s.mem) : Canonical (leaveActive cls i s).mem := by
  simp [leaveActive, h]

@[simp] theorem settleRoles_canonical (h : Canonical s.mem) : Canonical (settleRoles s).mem := by
  simp (maxDischargeDepth := 8) +contextual -implicitDefEqProofs [settleRoles, foldl_canonical, h]

@[simp] theorem rotate_canonical {cls incoming outgoing} (h : Canonical s.mem) :
    Canonical (rotate cls incoming outgoing s).mem := by
  simp (maxDischargeDepth := 8) -implicitDefEqProofs [rotate, h]

@[simp] theorem faultUnit_canonical {cls i} (h : Canonical s.mem) : Canonical (faultUnit cls i s).mem := by
  simp only [faultUnit, enqueue_mem]
  repeat' split
  all_goals simp (maxDischargeDepth := 8) -implicitDefEqProofs [h]

@[simp] theorem retireUnit_canonical {cls i} (h : Canonical s.mem) : Canonical (retireUnit cls i s).mem := by
  simp -implicitDefEqProofs [retireUnit, h]

@[simp] theorem afterJob_canonical (h : Canonical s.mem) : Canonical (afterJob s).mem := by simp [afterJob, h]

/-! ### The self-test controller and the event recorder's commands -/

theorem execSliceStart_canonical (h : Canonical s.mem) : NextCanonical (execSliceStart s) := by
  unfold execSliceStart
  repeat' split
  all_goals simp [h]

@[simp] theorem endRequest_canonical {id state signature} (h : Canonical s.mem) :
    Canonical (endRequest id state signature s).mem := by
  simp [endRequest, h]

@[simp] theorem countSlice_mem (r) : (countSlice r s).mem = s.mem := by
  simp only [countSlice]
  repeat' split
  all_goals simp

theorem execSliceComplete_canonical {run result} (h : Canonical s.mem) :
    NextCanonical (execSliceComplete run result s) := by
  simp only [execSliceComplete]
  repeat' split
  all_goals simp [h]

@[simp] theorem dropRequests_mem : (dropRequests s).mem = s.mem := rfl

@[simp] theorem bodyBstRunSlice_mem (rq) : (bodyBstRunSlice rq s).state.mem = s.mem := by simp [bodyBstRunSlice]

@[simp] theorem bodyBstStatus_mem (rq) : (bodyBstStatus rq s).state.mem = s.mem := by
  simp only [bodyBstStatus]
  split <;> simp

@[simp] theorem writeLinkctl_mem (v) : (writeLinkctl v s).mem = s.mem := by simp [writeLinkctl]

@[simp] theorem bodyEvrOpenWindow_mem (rq) : (bodyEvrOpenWindow rq s).state.mem = s.mem := by simp [bodyEvrOpenWindow]

@[simp] theorem bodyEvrRead_mem (rq) : (bodyEvrRead rq s).state.mem = s.mem := by simp [bodyEvrRead]

@[simp] theorem bodyEvrClear_mem (rq) : (bodyEvrClear rq s).state.mem = s.mem := by simp [bodyEvrClear]

/-! ### The configuration commands -/

@[simp] theorem handSpares_canonical {l : List Nat} {s : State} (h : Canonical s.mem) :
    Canonical (handSpares l s).1.mem := by
  induction l generalizing s with
  | nil => exact h
  | cons n l ih =>
    simp only [handSpares]
    repeat' split
    all_goals simp [ih, h]

@[simp] theorem setGroups_canonical {m} (h : Canonical s.mem) : Canonical (setGroups m s).1.mem := by
  simp [setGroups, h]

@[simp] theorem applyItem_canonical {n v} (h : Canonical s.mem) : Canonical (applyItem n v s).mem := by
  unfold applyItem
  repeat' split
  all_goals simp [h]

@[simp] theorem bodyCfgRead_mem (rq) : (bodyCfgRead rq s).state.mem = s.mem := by
  simp only [bodyCfgRead]
  repeat' split
  all_goals simp

@[simp] theorem writeItem_canonical {rq} (h : Canonical s.mem) : Canonical (writeItem rq s).state.mem := by
  simp (maxDischargeDepth := 8) -implicitDefEqProofs [writeItem, h]

@[simp] theorem operatorWrite_mem (rq o w) : (operatorWrite rq o w s).state.mem = s.mem := by
  unfold operatorWrite
  split <;> simp

@[simp] theorem bodyCfgWrite_canonical {rq} (h : Canonical s.mem) : Canonical (bodyCfgWrite rq s).state.mem := by
  simp (maxDischargeDepth := 8) -implicitDefEqProofs [bodyCfgWrite, h]

@[simp] theorem finishCfgWrite_canonical {t} (h : Canonical s.mem) : Canonical (finishCfgWrite t s).state.mem := by
  simp (maxDischargeDepth := 8) -implicitDefEqProofs [finishCfgWrite, h]

/-! ### The system, power, update, unit and module commands -/

@[simp] theorem bodySysIdentify_mem (x) : (bodySysIdentify x s).state.mem = s.mem := rfl

@[simp] theorem bodySysGetCaps_mem (x) : (bodySysGetCaps x s).state.mem = s.mem := rfl

@[simp] theorem bodySysGetHealth_mem (rq) : (bodySysGetHealth rq s).state.mem = s.mem := by simp [bodySysGetHealth]

@[simp] theorem setFloor_mem (v) : (setFloor v s).mem = s.mem := by simp [setFloor]

@[simp] theorem bodyPwrSetFloor_mem (rq) : (bodyPwrSetFloor rq s).state.mem = s.mem := by simp [bodyPwrSetFloor]

@[simp] theorem bodyPwrStatus_mem (x power) : (bodyPwrStatus x power s).state.mem = s.mem := rfl

@[simp] theorem emptyBank_mem : (emptyBank s).mem = s.mem := rfl

@[simp] theorem finishUpdStage_mem (t) : (finishUpdStage t s).state.mem = s.mem := by simp [finishUpdStage]

@[simp] theorem bodyUpdStage_mem (rq) : (bodyUpdStage rq s).state.mem = s.mem := by
  simp only [bodyUpdStage]
  refine ite_state_mem (by simp) <| ite_state_mem (by simp) <| ite_state_mem (by simp) <| ite_state_mem (by simp) <|
    ite_state_mem (by simp) <| ite_state_mem (by simp) ?_
  split
  · simp
  split
  · rw [waitOr_mem] <;> simp
  · simp

@[simp] theorem activate_mem (rq) : (activate rq s).state.mem = s.mem := by simp [activate]

@[simp] theorem finishActivate_mem (x) : (finishActivate x s).state.mem = s.mem := rfl

@[simp] theorem bodyUpdActivate_mem (rq) : (bodyUpdActivate rq s).state.mem = s.mem := by simp [bodyUpdActivate]

@[simp] theorem bodyUpdRollback_mem (rq) : (bodyUpdRollback rq s).state.mem = s.mem := by simp [bodyUpdRollback]

@[simp] theorem bodyUnitRetire_canonical {rq} (h : Canonical s.mem) : Canonical (bodyUnitRetire rq s).state.mem := by
  simp only [bodyUnitRetire]
  repeat' split
  all_goals simp (maxDischargeDepth := 8) -implicitDefEqProofs [h]

@[simp] theorem finishUnitRetire_canonical {t} (h : Canonical s.mem) :
    Canonical (finishUnitRetire t s).state.mem := by
  simp [finishUnitRetire, h]

@[simp] theorem retrainLink_mem : (retrainLink s).mem = s.mem := by simp [retrainLink]

@[simp] theorem recalPair_mem (i passes) : (recalPair i passes s).mem = s.mem := by simp [recalPair]

@[simp] theorem bodyUnitRecalibrate_mem (rq passes) : (bodyUnitRecalibrate rq passes s).state.mem = s.mem := by
  simp [bodyUnitRecalibrate]

@[simp] theorem bodyModLoad_mem (rq) : (bodyModLoad rq s).state.mem = s.mem := by
  simp only [bodyModLoad]
  repeat' split
  all_goals simp

@[simp] theorem bodyModUnload_mem (rq) : (bodyModUnload rq s).state.mem = s.mem := by
  unfold bodyModUnload
  split <;> simp

@[simp] theorem callReturns_mem (rq status length output) :
    (callReturns rq status length output s).state.mem = s.mem := by
  unfold callReturns
  repeat' split
  all_goals simp

@[simp] theorem bodyModCall_mem (rq outcome) : (bodyModCall rq outcome s).state.mem = s.mem := by
  unfold bodyModCall
  repeat' split
  all_goals simp

/-! ### The sideband -/

@[simp] theorem takeAddress_mem (addr) : (takeAddress addr s).mem = s.mem := by simp [takeAddress]

@[simp] theorem i3cReply_mem (bytes) : (i3cReply bytes s).mem = s.mem := by simp [i3cReply]

@[simp] theorem controlReply_mem (vdm code fields) : (controlReply vdm code fields s).mem = s.mem := by
  simp [controlReply]

@[simp] theorem setAssemblies_mem (vdm m) : (setAssemblies vdm m s).mem = s.mem := rfl

@[simp] theorem spdmReply_mem (t r) : (spdmReply t r s).mem = s.mem := by simp [spdmReply]

@[simp] theorem spdmError_mem (t e) : (spdmError t e s).mem = s.mem := by simp [spdmError]

@[simp] theorem spdmGuard_mem (t) {k : State} (hk : k.mem = s.mem) : (spdmGuard t s k).mem = s.mem := by
  simp [spdmGuard, hk]

@[simp] theorem signedReply_mem (t ask) : (signedReply t ask s).mem = s.mem := by
  unfold signedReply
  split <;> simp

@[simp] theorem startSigned_mem (t ask) : (startSigned t ask s).mem = s.mem := by simp [startSigned]

@[simp] theorem answerAsk_mem (t ask) : (answerAsk t ask s).mem = s.mem := by
  unfold answerAsk
  split <;> simp

@[simp] theorem askSpdm_mem (t ask) : (askSpdm t ask s).mem = s.mem := by simp [askSpdm]

theorem execRespondIfReady_canonical {t token} (h : Canonical s.mem) :
    NextCanonical (execRespondIfReady t token s) := by
  simp only [execRespondIfReady]
  split <;> simp [h]

@[simp] theorem finishSpdm_mem (t) : (finishSpdm t s).state.mem = s.mem := by
  simp only [finishSpdm]
  repeat' split
  all_goals simp

@[simp] theorem unknownControl_mem (vdm bytes) : (unknownControl vdm bytes s).mem = s.mem := by
  unfold unknownControl
  split <;> simp

@[simp] theorem unknownSpdm_mem (t message) : (unknownSpdm t message s).mem = s.mem := by
  unfold unknownSpdm
  split <;> simp

@[simp] theorem wholeMessage_mem (vdm a) : (wholeMessage vdm a s).mem = s.mem := by simp [wholeMessage]

theorem execMctpPacket_canonical {vdm p} (h : Canonical s.mem) : NextCanonical (execMctpPacket vdm p s) := by
  simp only [execMctpPacket]
  repeat' split
  all_goals simp [h]

@[simp] theorem resetConn_mem (i) : (resetConn i s).mem = s.mem := rfl

@[simp] theorem loadIr_mem (ir) : (loadIr ir s).mem = s.mem := by simp [loadIr]

@[simp] theorem loadGated_mem (ir right) : (loadGated ir right s).mem = s.mem := by simp [loadGated]

/-! ### Resets of the whole part, the boot and the power-fail commit -/

@[simp] theorem cutFlash_mem : (cutFlash s).mem = s.mem := by
  simp only [cutFlash]
  repeat' split
  all_goals simp

/-- A part held in a reset that keeps only the backup domain has an empty memory (R92). -/
@[simp] theorem offState_canonical : Canonical (offState s).mem := rfl

@[simp] theorem resetWhole_canonical {cause} : Canonical (resetWhole cause s).mem := by
  simp [resetWhole]

@[simp] theorem losePowerTag_mem : (losePowerTag s).mem = s.mem := by simp [losePowerTag]

@[simp] theorem losePower_mem : (losePower s).mem = s.mem := by simp [losePower]

@[simp] theorem abandonAll_canonical (h : Canonical s.mem) : Canonical (abandonAll s).mem := by
  simp (maxDischargeDepth := 8) +contextual -implicitDefEqProofs [abandonAll, foldl_canonical, h]

@[simp] theorem stopCores_mem : (stopCores s).mem = s.mem := rfl

@[simp] theorem triggerCommit_canonical {kind} (h : Canonical s.mem) : Canonical (triggerCommit kind s).mem := by
  simp (maxDischargeDepth := 8) -implicitDefEqProofs [triggerCommit, h]

@[simp] theorem afterCommit_canonical : Canonical (afterCommit s).mem := by
  simp [afterCommit]

@[simp] theorem stopCommit_canonical (h : Canonical s.mem) : Canonical (stopCommit s).mem := by
  unfold stopCommit
  split <;> simp [h]

theorem execCommitComplete_canonical (h : Canonical s.mem) : NextCanonical (execCommitComplete s) := by
  unfold execCommitComplete
  split <;> simp [h]

@[simp] theorem porLow_mem : (porLow s).mem = s.mem := rfl

@[simp] theorem releaseDie_mem : (releaseDie s).mem = s.mem := by simp [releaseDie]

@[simp] theorem loadRecorder_mem : (loadRecorder s).mem = s.mem := by simp [loadRecorder]

@[simp] theorem choosePatch_mem (env) : (choosePatch env s).mem = s.mem := rfl

@[simp] theorem bootRoles_mem : (bootRoles s).mem = s.mem := by
  simp only [bootRoles]
  rw [foldl_snd_mem, foldl_snd_mem, foldl_snd_mem]
  all_goals
    intro r i
    repeat' split
    all_goals rfl

@[simp] theorem startLink_mem (pairs) : (startLink pairs s).mem = s.mem := rfl

@[simp] theorem bootAvs_mem (env) : (bootAvs env s).mem = s.mem := by simp [bootAvs]

@[simp] theorem bootCopies_mem : (bootCopies s).mem = s.mem := rfl

@[simp] theorem bootVault_canonical (h : Canonical s.mem) : Canonical (bootVault s).mem := by
  simp (maxDischargeDepth := 8) -implicitDefEqProofs [bootVault, h]

@[simp] theorem bootFlash_mem : (bootFlash s).mem = s.mem := by simp [bootFlash]

@[simp] theorem bootTally_mem : (bootTally s).mem = s.mem := by
  simp only [bootTally]
  split <;> simp

@[simp] theorem bootMemory_mem (env) : (bootMemory env s).mem = s.mem := by simp [bootMemory]

@[simp] theorem bootBist_mem (env) : (bootBist env s).mem = s.mem := by simp [bootBist]

@[simp] theorem bootFuses_mem : (bootFuses s).mem = s.mem := by simp [bootFuses]

@[simp] theorem bootSupplies_mem (env) : (bootSupplies env s).mem = s.mem := rfl

@[simp] theorem bootStopped_mem : (bootStopped s).mem = s.mem := by
  unfold bootStopped
  split <;> simp

@[simp] theorem bootCause_mem : (bootCause s).mem = s.mem := rfl

@[simp] theorem bootChain_mem : (bootChain s).mem = s.mem := by simp [bootChain]

@[simp] theorem boot_canonical {env} (h : Canonical s.mem) : Canonical (boot env s).mem := by simp [boot, h]

/-! ### The cones -/

@[simp] theorem voutCommand_mem (v) : (voutCommand v s).mem = s.mem := rfl

@[simp] theorem rampTo_mem (want n) (s : State) : (rampTo want n s).mem = s.mem := by
  induction n generalizing s with
  | zero => rfl
  | succ n ih => simp [rampTo, ih]

@[simp] theorem gateLane_mem (n) : (gateLane n s).mem = s.mem := rfl

@[simp] theorem gateUnits_canonical (h : Canonical s.mem) : Canonical (gateUnits s).mem := by
  simp (maxDischargeDepth := 8) +contextual -implicitDefEqProofs [gateUnits, foldl_canonical, h]

@[simp] theorem coolKeys_mem : (coolKeys s).mem = s.mem := by simp -implicitDefEqProofs [coolKeys]

@[simp] theorem sleep_canonical (h : Canonical s.mem) : Canonical (sleep s).mem := by
  simp (maxDischargeDepth := 8) +contextual -implicitDefEqProofs [sleep, foldl_canonical, h]

theorem execWake_canonical {source} (h : Canonical s.mem) : NextCanonical (execWake source s) := by
  unfold execWake
  repeat' split
  all_goals simp [h]

@[simp] theorem runSideband_canonical {e} (h : Canonical s.mem) : Canonical (runSideband e s).mem := by
  unfold runSideband
  split
  all_goals simp -implicitDefEqProofs [runCommand_canonical, h]

@[simp] theorem releaseCone_mem : (releaseCone s).mem = s.mem := by simp [releaseCone]

@[simp] theorem resume_canonical (h : Canonical s.mem) : Canonical (resume s).mem := by
  simp only [resume]
  refine foldl_canonical (fun s e hs => runSideband_canonical hs) _ _ ?_
  simp [h]

/-! ### How a command in progress goes on -/

@[simp] theorem finishOf_canonical {t} (h : Canonical s.mem) : Canonical (finishOf t s).state.mem := by
  unfold finishOf
  split <;> simp [h]

/-- The state that the end of a command leaves, by what that end answered. -/
theorem finishOf_result {t : Task} {r : CmdRes} (hr : finishOf t s = r) (h : Canonical s.mem) : Canonical r.state.mem :=
  hr ▸ finishOf_canonical h

@[simp] theorem advance_canonical {id} (h : Canonical s.mem) : Canonical (advance id s).mem := by
  simp only [advance]
  split
  · exact h
  split
  · simp [h]
  split
  · simp [h]
  split
  · simp [h]
  split
  · next hr => simpa using finishOf_result hr h
  · next hr => simpa using finishOf_result hr h

@[simp] theorem failInternal_mem (id det) : (failInternal id det s).mem = s.mem := by simp [failInternal]

theorem execDrbgGenerateComplete_canonical {inst} (h : Canonical s.mem) :
    NextCanonical (execDrbgGenerateComplete inst s) := by
  unfold execDrbgGenerateComplete
  repeat' split
  all_goals simp (maxDischargeDepth := 8) -implicitDefEqProofs [h]

@[simp] theorem flashEnds_canonical {task result} (h : Canonical s.mem) :
    Canonical (flashEnds task result s).mem := by
  unfold flashEnds
  split <;> simp (maxDischargeDepth := 8) -implicitDefEqProofs [h]

theorem execProgramComplete_canonical {verifies} (h : Canonical s.mem) :
    NextCanonical (execProgramComplete verifies s) := by
  unfold execProgramComplete
  split <;> simp [h]

theorem execEraseComplete_canonical {pulses verifies} (h : Canonical s.mem) :
    NextCanonical (execEraseComplete pulses verifies s) := by
  unfold execEraseComplete
  split <;> simp [h]

theorem execDrainComplete_canonical {id} (h : Canonical s.mem) : NextCanonical (execDrainComplete id s) := by
  simp only [execDrainComplete]
  repeat' split
  all_goals simp (maxDischargeDepth := 8) -implicitDefEqProofs [h]

@[simp] theorem grantLeaseToken_canonical {id} (h : Canonical s.mem) : Canonical (grantLeaseToken id s).mem := by
  simp only [grantLeaseToken]
  split <;> simp (maxDischargeDepth := 8) -implicitDefEqProofs [h]

@[simp] theorem giveToken_canonical {sag} (h : Canonical s.mem) : Canonical (giveToken sag s).mem := by
  unfold giveToken
  repeat' split
  all_goals simp [h]

theorem execTokenGrant_canonical (h : Canonical s.mem) : NextCanonical (execTokenGrant s) := by
  simp only [execTokenGrant]
  repeat' split
  all_goals simp [h]

/-! ### The events of the lanes -/

@[simp] theorem outgrowReserve_mem : (outgrowReserve s).mem = s.mem := by simp [outgrowReserve]

@[simp] theorem noteRerun_mem (j) : (noteRerun j s).mem = s.mem := by
  unfold noteRerun
  repeat' split
  all_goals simp

theorem execLaneJobStart_canonical {job} (h : Canonical s.mem) : NextCanonical (execLaneJobStart job s) := by
  simp only [execLaneJobStart]
  repeat' split
  all_goals simp [h]

theorem execContextMove_canonical {job} (h : Canonical s.mem) : NextCanonical (execContextMove job s) := by
  simp only [execContextMove]
  repeat' split
  all_goals simp [h]

@[simp] theorem chargeChunk_mem (nominal j) : (chargeChunk nominal j s).mem = s.mem := by simp [chargeChunk]

@[simp] theorem endChunk_canonical {tid id n status det written} (h : Canonical s.mem) :
    Canonical (endChunk tid id n status det written s).mem := by
  simp [endChunk, h]

@[simp] theorem countChunk_mem (ses bytes last) : (countChunk ses bytes last s).mem = s.mem := rfl

@[simp] theorem afterChunk_mem (ses m last chain) : (afterChunk ses m last chain s).mem = s.mem := by
  simp [afterChunk]

@[simp] theorem endStaged_canonical {tid id n ses m d c} (h : Canonical s.mem) :
    Canonical (endStaged tid id n ses m d c s).mem := by
  simp only [endStaged]
  split <;> simp (maxDischargeDepth := 8) -implicitDefEqProofs [h]

@[simp] theorem endDataJob_canonical {tid id n dmaFails} (h : Canonical s.mem) :
    Canonical (endDataJob tid id n dmaFails s).mem := by
  simp only [endDataJob]
  repeat' split
  all_goals simp [h]

@[simp] theorem endHashJob_canonical {id n} (h : Canonical s.mem) : Canonical (endHashJob id n s).mem := by
  simp only [endHashJob]
  split <;> simp [h]

theorem execLaneJobComplete_canonical {job dmaFails} (h : Canonical s.mem) :
    NextCanonical (execLaneJobComplete job dmaFails s) := by
  simp only [execLaneJobComplete]
  split <;> simp (maxDischargeDepth := 8) -implicitDefEqProofs [h]

theorem execReleaseComplete_canonical {job spillFailures} (h : Canonical s.mem) :
    NextCanonical (execReleaseComplete job spillFailures s) := by
  simp only [execReleaseComplete]
  repeat' split
  all_goals simp (maxDischargeDepth := 8) -implicitDefEqProofs [h]

@[simp] theorem unstage_mem (tid) : (unstage tid s).mem = s.mem := by
  simp only [unstage]
  split <;> simp

@[simp] theorem dropContext_mem (j n) : (dropContext j n s).mem = s.mem := by
  unfold dropContext
  split <;> simp

@[simp] theorem queueRerun_mem (id added) : (queueRerun id added s).mem = s.mem := by simp [queueRerun]

@[simp] theorem stopLaneJob_mem (id n added) : (stopLaneJob id n added s).mem = s.mem := by
  simp only [stopLaneJob]
  repeat' split
  all_goals simp

theorem execLaneFaultDetected_canonical {lane detector addedMicros} (h : Canonical s.mem) :
    NextCanonical (execLaneFaultDetected lane detector addedMicros s) := by
  simp only [execLaneFaultDetected]
  repeat' split
  all_goals simp (maxDischargeDepth := 8) -implicitDefEqProofs [h]

@[simp] theorem writeKeyload_mem (value) : (writeKeyload value s).mem = s.mem := by simp [writeKeyload]

/-! ### The events of the crucibles -/

theorem execCrucibleJobStart_canonical (h : Canonical s.mem) : NextCanonical (execCrucibleJobStart s) := by
  unfold execCrucibleJobStart
  repeat' split
  all_goals simp [h]

@[simp] theorem jobDraw_mem (j n) : (jobDraw j n s).mem = s.mem := by simp [jobDraw]

theorem execCrucibleJobComplete_canonical {crucible attempts} (h : Canonical s.mem) :
    NextCanonical (execCrucibleJobComplete crucible attempts s) := by
  simp only [execCrucibleJobComplete]
  repeat' split
  all_goals simp (maxDischargeDepth := 8) -implicitDefEqProofs [h]

@[simp] theorem stopCrucible_canonical {id n ran added} (h : Canonical s.mem) :
    Canonical (stopCrucible id n ran added s).mem := by
  simp only [stopCrucible]
  repeat' split
  all_goals simp [h]

theorem execCrucibleFaultDetected_canonical {crucible detector ranCycles addedMicros} (h : Canonical s.mem) :
    NextCanonical (execCrucibleFaultDetected crucible detector ranCycles addedMicros s) := by
  simp only [execCrucibleFaultDetected]
  repeat' split
  all_goals simp (maxDischargeDepth := 8) -implicitDefEqProofs [h]

theorem execRawOperation_canonical {crucible} (h : Canonical s.mem) :
    NextCanonical (execRawOperation crucible s) := by
  simp only [execRawOperation]
  split <;> simp (maxDischargeDepth := 8) -implicitDefEqProofs [h]

@[simp] theorem swapLeased_canonical {i n other} (h : Canonical s.mem) : Canonical (swapLeased i n other s).mem := by
  unfold swapLeased
  split <;> simp -implicitDefEqProofs [h]

theorem execRawFault_canonical {crucible} (h : Canonical s.mem) : NextCanonical (execRawFault crucible s) := by
  simp only [execRawFault]
  split <;> simp (maxDischargeDepth := 8) -implicitDefEqProofs [h]

@[simp] theorem keyArrived_mem (k) : (keyArrived k s).mem = s.mem := rfl

@[simp] theorem repairLine_mem : (repairLine s).mem = s.mem := by simp [repairLine]

@[simp] theorem loseKey_mem (k) : (loseKey k s).mem = s.mem := by simp [loseKey]

theorem execKeyLoadComplete_canonical {job line} (h : Canonical s.mem) :
    NextCanonical (execKeyLoadComplete job line s) := by
  simp only [execKeyLoadComplete]
  split <;> simp [h]

/-! ### Temperature, voltage, clocks, links and presence -/

@[simp] theorem raiseThermal_mem : (raiseThermal s).mem = s.mem := by simp [raiseThermal]

@[simp] theorem setThermal_mem (junction alert throttle) : (setThermal junction alert throttle s).mem = s.mem := by
  simp [setThermal]

@[simp] theorem raiseAvs_mem : (raiseAvs s).mem = s.mem := by simp [raiseAvs]

@[simp] theorem writeSetpoint_mem (v acknowledged) : (writeSetpoint v acknowledged s).mem = s.mem := by
  simp [writeSetpoint]

@[simp] theorem stepSetpoint_mem (want minMillivolt acknowledged) :
    (stepSetpoint want minMillivolt acknowledged s).mem = s.mem := by
  simp [stepSetpoint]

theorem execPmAlert_canonical {status collapsed} (h : Canonical s.mem) :
    NextCanonical (execPmAlert status collapsed s) := by
  simp only [execPmAlert]
  split
  · exact nextCanonical_of_state h
  · split
    · apply nextCanonical_of_state
      apply triggerCommit_canonical
      rw [foldl_mem, foldl_mem]
      · exact h
      · intro s r
        split <;> simp
      · simp
    · apply nextCanonical_of_state
      rw [foldl_mem, foldl_mem]
      · exact h
      · intro s r
        split <;> simp
      · simp

@[simp] theorem raisePll_mem (pll) : (raisePll pll s).mem = s.mem := by simp [raisePll]

@[simp] theorem rerunClass_canonical {cls} (h : Canonical s.mem) : Canonical (rerunClass cls s).mem := by
  simp only [rerunClass]
  split
  · refine foldl_canonical (fun s n hs => ?_) _ _ h
    split <;> simp -implicitDefEqProofs [hs]
  split
  · refine foldl_canonical (fun s n hs => ?_) _ _ h
    split
    · simp -implicitDefEqProofs [hs]
    · simp [hs]
  · exact h

@[simp] theorem setTimeSource_mem (crystalOk scaled) : (setTimeSource crystalOk scaled s).mem = s.mem := by
  simp [setTimeSource]

@[simp] theorem vaultWake_mem : (vaultWake s).mem = s.mem := by simp [vaultWake]

@[simp] theorem takeover_mem : (takeover s).mem = s.mem := by simp [takeover]

@[simp] theorem restartControl_mem (i) : (restartControl i s).mem = s.mem := by simp [restartControl]

@[simp] theorem leaveLease_canonical {n} (h : Canonical s.mem) : Canonical (leaveLease n s).mem := by
  unfold leaveLease
  split <;> simp [h]

@[simp] theorem spareUnit_canonical {cls i} (h : Canonical s.mem) : Canonical (spareUnit cls i s).mem := by
  simp only [spareUnit]
  repeat' split
  all_goals simp (maxDischargeDepth := 8) -implicitDefEqProofs [h]

@[simp] theorem restartUnit_canonical {cls i c} (h : Canonical s.mem) : Canonical (restartUnit cls i c s).mem := by
  unfold restartUnit
  repeat' split
  all_goals simp (maxDischargeDepth := 8) -implicitDefEqProofs [h]

@[simp] theorem restartCore_canonical {c} (h : Canonical s.mem) : Canonical (restartCore c s).mem := by
  unfold restartCore
  split <;> simp [h]

/-! ### What the host does to the host interface -/

@[simp] theorem barWake_mem (doorbell) : (barWake doorbell s).mem = s.mem := by simp [barWake]

@[simp] theorem writeRequest_mem (f offset bytes) : (writeRequest f offset bytes s).mem = s.mem := by
  simp [writeRequest]

@[simp] theorem writeDmbCtrl_mem (f value) : (writeDmbCtrl f value s).mem = s.mem := by simp [writeDmbCtrl]

@[simp] theorem writeDoorbell_mem (f value) : (writeDoorbell f value s).mem = s.mem := by simp [writeDoorbell]

@[simp] theorem writeQpOwner_mem (q value) : (writeQpOwner q value s).mem = s.mem := by simp [writeQpOwner]

@[simp] theorem enableQueue_mem (q) : (enableQueue q s).mem = s.mem := by simp [enableQueue]

@[simp] theorem disableQueue_mem (q) : (disableQueue q s).mem = s.mem := by simp [disableQueue]

theorem execQueueEnable_canonical {fn} (h : Canonical s.mem) : NextCanonical (execQueueEnable fn s) := by
  unfold execQueueEnable
  repeat' split
  all_goals simp [h]

theorem execQueueDisable_canonical {fn} (h : Canonical s.mem) : NextCanonical (execQueueDisable fn s) := by
  unfold execQueueDisable
  repeat' split
  all_goals simp [h]

@[simp] theorem writeSqTail_mem (q value) : (writeSqTail q value s).mem = s.mem := by simp [writeSqTail]

@[simp] theorem flushHeld_mem (fuel q) (s : State) : (flushHeld fuel q s).mem = s.mem := by
  induction fuel generalizing s with
  | zero => rfl
  | succ fuel ih =>
    simp only [flushHeld]
    repeat' split
    all_goals simp [ih]

@[simp] theorem writeCqHead_mem (q value) : (writeCqHead q value s).mem = s.mem := by simp [writeCqHead]

@[simp] theorem fetchedOrRefused_mem (q slot e) : (fetchedOrRefused q slot e s).mem = s.mem := by
  unfold fetchedOrRefused
  split <;> simp

theorem execDataDescriptor_canonical {qp d} (h : Canonical s.mem) : NextCanonical (execDataDescriptor qp d s) := by
  simp only [execDataDescriptor]
  split <;> simp [h]

@[simp] theorem unmask_mem (f v) : (unmask f v s).mem = s.mem := by simp [unmask]

@[simp] theorem setLtr_mem (sag) : (setLtr sag s).mem = s.mem := by simp [setLtr]

@[simp] theorem writeConfig_canonical {f field value} (h : Canonical s.mem) :
    Canonical (writeConfig f field value s).mem := by
  simp only [writeConfig]
  repeat' split
  all_goals simp +contextual -implicitDefEqProofs [foldl_canonical, h]

@[simp] theorem hostReset_canonical (h : Canonical s.mem) : Canonical (hostReset s).mem := by simp [hostReset, h]

@[simp] theorem loseLink_canonical (h : Canonical s.mem) : Canonical (loseLink s).mem := by simp [loseLink, h]

@[simp] theorem takeBalls_canonical {ir} (h : Canonical s.mem) : Canonical (takeBalls ir s).mem := by
  simp [takeBalls, h]

@[simp] theorem tap_canonical {f : State → State} (hf : Canonical (f s).mem) (h : Canonical s.mem) :
    Canonical (tap f s).mem := by
  unfold tap
  split <;> assumption

/-! ### Loss of a memory line -/

@[simp] theorem countCheck_mem (c rewritten) : (countCheck c rewritten s).mem = s.mem := rfl

@[simp] theorem loseSession_mem (i) : (loseSession i s).mem = s.mem := by simp [loseSession]

@[simp] theorem loseShake_mem (i) : (loseShake i s).mem = s.mem := by simp [loseShake]

@[simp] theorem losePool_mem (c info call) : (losePool c info call s).mem = s.mem := by
  unfold losePool
  split <;> simp

@[simp] theorem lineFault_mem (source f) : (lineFault source f s).mem = s.mem := by
  unfold lineFault
  repeat' split
  all_goals simp

theorem execEventRecord_canonical {source detail fault} (h : Canonical s.mem) :
    NextCanonical (execEventRecord source detail fault s) := by
  simp only [execEventRecord]
  split <;> simp [h]

/-! ### Block registers as a core reaches them -/

@[simp] theorem coneRead_mem (o) : (coneRead o s).2.mem = s.mem := by
  unfold coneRead
  split <;> simp

@[simp] theorem coneWrite_mem (o v) : (coneWrite o v s).mem = s.mem := by
  unfold coneWrite
  split <;> simp

@[simp] theorem hifWrite_mem (o v) : (hifWrite o v s).mem = s.mem := by simp [hifWrite]

@[simp] theorem laneRead_mem (n r) : (laneRead n r s).2.mem = s.mem := by
  unfold laneRead
  split <;> simp

@[simp] theorem clRead_mem (o) : (clRead o s).2.mem = s.mem := by
  unfold clRead
  repeat' split
  all_goals simp

@[simp] theorem clWrite_mem (o v) : (clWrite o v s).mem = s.mem := by simp [clWrite]

@[simp] theorem queueRaw_mem (n v) : (queueRaw n v s).mem = s.mem := by simp [queueRaw]

@[simp] theorem crucibleRead_mem (n r) : (crucibleRead n r s).2.mem = s.mem := by
  unfold crucibleRead
  repeat' split
  all_goals simp

@[simp] theorem crucibleWrite_mem (n r v) : (crucibleWrite n r v s).mem = s.mem := by
  unfold crucibleWrite
  split <;> simp

@[simp] theorem cruRead_mem (o) : (cruRead o s).2.mem = s.mem := by
  unfold cruRead
  repeat' split
  all_goals simp

@[simp] theorem cruWrite_mem (o v) : (cruWrite o v s).mem = s.mem := by
  unfold cruWrite
  split <;> simp

@[simp] theorem sagWrite_mem (o v) : (sagWrite o v s).mem = s.mem := by simp [sagWrite]

@[simp] theorem talRead_mem (o) : (talRead o s).2.mem = s.mem := by
  unfold talRead
  split <;> simp

@[simp] theorem talWrite_mem (o v) : (talWrite o v s).mem = s.mem := by simp [talWrite]

@[simp] theorem entRead_mem (o) : (entRead o s).2.mem = s.mem := by
  unfold entRead
  split <;> simp

@[simp] theorem entWrite_mem (o v) : (entWrite o v s).mem = s.mem := by simp [entWrite]

@[simp] theorem bstRead_mem (o) : (bstRead o s).2.mem = s.mem := by
  unfold bstRead
  repeat' split
  all_goals simp

@[simp] theorem bstWrite_mem (o v) : (bstWrite o v s).mem = s.mem := by simp [bstWrite]

@[simp] theorem writeGroup_mem (f) : (writeGroup f s).mem = s.mem := by simp [writeGroup]

@[simp] theorem flcWrite_mem (o v) : (flcWrite o v s).mem = s.mem := by
  unfold flcWrite
  split <;> simp

@[simp] theorem tmpWrite_mem (o v) : (tmpWrite o v s).mem = s.mem := by
  unfold tmpWrite
  split <;> simp

@[simp] theorem sbiRead_mem (o) : (sbiRead o s).2.mem = s.mem := by
  unfold sbiRead
  split <;> simp

@[simp] theorem ccpWrite_mem (o v) : (ccpWrite o v s).mem = s.mem := by simp [ccpWrite]

@[simp] theorem arcRead_mem (o) : (arcRead o s).2.mem = s.mem := by
  unfold arcRead
  split <;> simp

@[simp] theorem arcWrite_mem (o v) : (arcWrite o v s).mem = s.mem := by simp [arcWrite]

@[simp] theorem tagRegWrite_mem (o v) : (tagRegWrite o v s).mem = s.mem := by simp [tagRegWrite]

@[simp] theorem blockRead_mem (b o) : (blockRead b o s).2.mem = s.mem := by
  unfold blockRead
  split <;> simp

@[simp] theorem blockWrite_mem (b o v) : (blockWrite b o v s).mem = s.mem := by
  unfold blockWrite
  split <;> simp

theorem coreRegRead_mem {c ring a v t} (hr : coreRegRead c ring a s = some (v, t)) : t.mem = s.mem := by
  simp only [coreRegRead, Option.ite_none_right_eq_some, Option.some.injEq] at hr
  simpa [hr.2] using blockRead_mem (s := s) (a / 0x100000) (a % 0x100000)

theorem coreRegWrite_mem {c ring a v t} (hr : coreRegWrite c ring a v s = some t) : t.mem = s.mem := by
  simp only [coreRegWrite] at hr
  split at hr
  · cases hr; simp
  · cases hr

theorem flashWindowBytes_mem {off n r} (hr : flashWindowBytes off n s = some r) : r.2.mem = s.mem := by
  rw [← Option.some.inj hr]
  exact windowRead_mem off n

/-! ### Loads and stores by address -/

/-- A load changes no internal memory, whatever side its read has on a block's register or the flash. -/
theorem loadBytes_mem {c ring a n r} (hr : loadBytes c ring a n s = .ok r) : r.2.mem = s.mem := by
  simp only [loadBytes] at hr
  split at hr
  · cases hr
  split at hr
  · cases hr
  split at hr
  · cases hr; rfl
  · cases hr; rfl
  · split at hr
    · next hf => cases hr; exact flashWindowBytes_mem hf
    · cases hr
  · split at hr
    · cases hr
    · cases hr; simp
  · split at hr
    · next hg => cases hr; exact coreRegRead_mem hg
    · cases hr

theorem operandStore_canonical {x n off bs} {m : FMap Byte} (h : Canonical m) :
    Canonical (operandStore x n off bs m) := by
  induction bs generalizing off m with
  | nil => exact h
  | cons b bs ih =>
    simp only [operandStore]
    split
    · exact ih h
    · exact ih (mapSet_wf 0 _ _ _ h)

/-- A store that is granted writes its bytes into the memory, or changes a register. -/
theorem storeBytes_canonical {c ring a bs t} (h : Canonical s.mem) (hr : storeBytes c ring a bs s = .ok t) :
    Canonical t.mem := by
  simp only [storeBytes] at hr
  split at hr
  · cases hr
  split at hr
  · cases hr
  split at hr
  · cases hr; exact memWrite_wf 0 _ _ _ h
  · split at hr
    · cases hr
    · cases hr; exact memWrite_wf 0 _ _ _ h
    · split at hr
      · cases hr
      · cases hr; exact memWrite_wf 0 _ _ _ h
    · cases hr
      simp [operandStore_canonical, h]
  · split at hr
    · split at hr
      · next hw => cases hr; simp [coreRegWrite_mem hw, h]
      · cases hr
    · split at hr
      · next hg =>
        split at hr
        · next hw => cases hr; simp [coreRegWrite_mem hw, coreRegRead_mem hg, h]
        · cases hr
      · cases hr

/-! ### Register accesses by a core and by the host -/

theorem coreAccess_canonical {c a} {access : State → Except (BitVec 4) State} (h : Canonical s.mem)
    (ha : ∀ t, access s = .ok t → Canonical t.mem) : Canonical (coreAccess c a access s).mem := by
  simp only [coreAccess]
  split
  · exact h
  split
  · next hr => exact ha _ hr
  · exact raise_canonical h

@[simp] theorem coreStore_canonical {c a v} (h : Canonical s.mem) : Canonical (coreStore c a v s).mem :=
  coreAccess_canonical h fun _ hr => storeBytes_canonical h hr

@[simp] theorem coreLoad_canonical {c a} (h : Canonical s.mem) : Canonical (coreLoad c a s).mem := by
  refine coreAccess_canonical h fun t hr => ?_
  match hl : loadBytes c (s.core c).ring a 4 s with
  | .ok (bs, u) =>
    rw [hl] at hr
    cases hr
    exact (congrArg Canonical (loadBytes_mem hl)).mpr h
  | .error i => simp [hl, Except.map] at hr

@[simp] theorem rawCommand_canonical {op c crucible wacc} (h : Canonical s.mem) :
    Canonical (rawCommand op c crucible wacc s).mem := by
  simp [rawCommand, h]

@[simp] theorem onSelected_mem (f) {g : Nat → State → State} (hg : ∀ q s, (g q s).mem = s.mem) :
    (onSelected f g s).mem = s.mem := by
  unfold onSelected
  split <;> simp [hg]

@[simp] theorem whenDisabled_mem (g q) : (whenDisabled g q s).mem = s.mem := by simp [whenDisabled]

@[simp] theorem queueRegWrite_mem (f w v) : (queueRegWrite f w v s).mem = s.mem := by
  unfold queueRegWrite
  repeat' split
  all_goals simp -implicitDefEqProofs

@[simp] theorem msixWrite_mem (f i r v) : (msixWrite f i r v s).mem = s.mem := by
  unfold msixWrite
  split <;> simp

@[simp] theorem windowWrite_mem (f w v) : (windowWrite f w v s).mem = s.mem := by simp [windowWrite]

@[simp] theorem bar0Write_mem (f o v) : (bar0Write f o v s).mem = s.mem := by simp [bar0Write]

@[simp] theorem bar2Write_mem (f o v) : (bar2Write f o v s).mem = s.mem := by simp [bar2Write]

theorem execRegisterWrite_canonical {target value} (h : Canonical s.mem) :
    NextCanonical (execRegisterWrite target value s) := by
  unfold execRegisterWrite
  split <;> simp (maxDischargeDepth := 8) -implicitDefEqProofs [h]

/-! ### The branch operation -/

@[simp] theorem checkedResult_stateOr (rd v k) : (checkedResult rd v k).stateOr s = s := by
  simp only [checkedResult]
  repeat' split
  all_goals rfl

@[simp] theorem divideResult_stateOr (rd d z q k) : (divideResult rd d z q k).stateOr s = s := by
  simp [divideResult]

/-! ### Arithmetic, pointers and accumulators -/

@[simp] theorem aluOp_stateOr (rd rs1 rs2 f k) (u s : State) : (aluOp rd rs1 rs2 f k u).stateOr s = s := rfl

@[simp] theorem aluImm_stateOr (rd rs1 f k) (u s : State) : (aluImm rd rs1 f k u).stateOr s = s := rfl

@[simp] theorem shiftImm_stateOr (rd rs1 imm f k) (u s : State) : (shiftImm rd rs1 imm f k u).stateOr s = s := by
  simp [shiftImm]

theorem withPointer_stateOr (f) {g : BitVec 3 → OpRes} (hg : ∀ p, (g p).stateOr s = s) :
    (withPointer f g).stateOr s = s := by
  unfold withPointer
  split
  · exact hg _
  · rfl

@[simp] theorem macdOp_mem (c a px py ux uy signed neg k) :
    ((macdOp c a px py ux uy signed neg k s).stateOr s).mem = s.mem := by
  unfold macdOp
  split
  · rfl
  split
  · rfl
  split
  · rfl
  · next hx =>
    split
    · rfl
    · next hy => exact (loadBytes_mem hy).trans (loadBytes_mem hx)

theorem execMacd_canonical {c a px py mx my sgn neg zero} (h : Canonical s.mem) :
    NextCanonical (execMacd c a px py mx my sgn neg zero s) :=
  nextCanonical_issue h (by split <;> simp [h])

/-! ### Branches, jumps, gates and loops -/

@[simp] theorem goAfterSlot_stateOr (k next) : (goAfterSlot k next).stateOr s = s := rfl

@[simp] theorem branchOp_stateOr (taken off k) : (branchOp taken off k).stateOr s = s := rfl

theorem execCallg_canonical {c rd rs1 imm} (h : Canonical s.mem) : NextCanonical (execCallg c rd rs1 imm s) := by
  apply nextCanonical_issue h
  split
  · exact h
  repeat' split
  all_goals exact h

@[simp] theorem returnOp_stateOr (c gate info ok k) (u s : State) : (returnOp c gate info ok k u).stateOr s = s := by
  simp only [returnOp]
  split <;> simp

@[simp] theorem loopOp_stateOr (level count off k) : (loopOp level count off k).stateOr s = s := by
  simp [loopOp]

/-! ### Load and store words -/

@[simp] theorem loadOp_mem (c rd p mode disp size ext k) :
    ((loadOp c rd p mode disp size ext k s).stateOr s).mem = s.mem := by
  unfold loadOp
  split
  · rfl
  split
  · rfl
  split
  · rfl
  · next hr => exact (loadBytes_mem hr :)

@[simp] theorem storeOp_canonical {c rd p mode disp size k} (h : Canonical s.mem) :
    Canonical ((storeOp c rd p mode disp size k s).stateOr s).mem := by
  unfold storeOp
  split
  · exact h
  split
  · exact h
  split
  · exact h
  · next hr => exact (storeBytes_canonical h hr :)

@[simp] theorem loadWordAt_mem (c rd a k) :
    ((loadWordAt c rd a k s).stateOr s).mem = s.mem := by
  unfold loadWordAt
  split
  · rfl
  split
  · rfl
  · next hr => exact (loadBytes_mem hr :)

@[simp] theorem storeWordAt_canonical {c rd a k} (h : Canonical s.mem) :
    Canonical ((storeWordAt c rd a k s).stateOr s).mem := by
  unfold storeWordAt
  split
  · exact h
  split
  · exact h
  · next hr => exact storeBytes_canonical h hr

/-! ### The W extension -/

@[simp] theorem wideOp_canonical {c f k} (h : Canonical s.mem) (hf : ∀ n, Canonical ((f n k s).stateOr s).mem) :
    Canonical ((wideOp c f k s).stateOr s).mem := by
  cases c with
  | crucible n => exact hf n.val
  | _ => exact h

@[simp] theorem sealMarked_mem (read n right) : (sealMarked read n right s).mem = s.mem := by simp [sealMarked]

theorem wideRead_mem {c n sel i k r} (hr : wideRead c n sel i k s = .ok r) : r.2.mem = s.mem := by
  simp only [wideRead] at hr
  split at hr
  · cases hr
  split at hr
  · cases hr
  · cases hr; simp

@[simp] theorem wmulaccOp_mem (c a selA selB n k) :
    ((wmulaccOp c a selA selB n k s).stateOr s).mem = s.mem := by
  unfold wmulaccOp
  split
  · rfl
  · next hx =>
    split
    · rfl
    · next hy => exact (wideRead_mem hy).trans (wideRead_mem hx)

@[simp] theorem wsqraccOp_mem (c a selA selB n k) :
    ((wsqraccOp c a selA selB n k s).stateOr s).mem = s.mem := by
  unfold wsqraccOp
  split
  · rfl
  split
  · rfl
  · next hx =>
    split
    · rfl
    · next hy => exact (wideRead_mem hy).trans (wideRead_mem hx)

@[simp] theorem wloadOp_mem (c a sel n k) :
    ((wloadOp c a sel n k s).stateOr s).mem = s.mem := by
  unfold wloadOp
  split
  · rfl
  · next hx => exact wideRead_mem hx

@[simp] theorem wstoreOp_canonical {c a sel n k} (h : Canonical s.mem) :
    Canonical ((wstoreOp c a sel n k s).stateOr s).mem := by
  simp only [wstoreOp]
  repeat' split
  all_goals simp [h]

@[simp] theorem wmacdOp_mem (c a px py ux uy k) :
    ((wmacdOp c a px py ux uy k s).stateOr s).mem = s.mem := by
  unfold wmacdOp
  split
  · rfl
  split
  · rfl
  split
  · rfl
  · next hx =>
    split
    · rfl
    · next hy => exact (loadBytes_mem hy).trans (loadBytes_mem hx)

theorem execWmacd_canonical {c a px py mx my sgn neg zero} (h : Canonical s.mem) :
    NextCanonical (execWmacd c a px py mx my sgn neg zero s) :=
  nextCanonical_issue h (wideOp_canonical h fun _ => by split <;> simp [h])

theorem execWslot_canonical {c rs1 rs2} (h : Canonical s.mem) :
    NextCanonical (execWslot c rs1 rs2 s) :=
  nextCanonical_issue h (wideOp_canonical h fun _ => by
    rw [withPointer_stateOr _ fun _ => by split <;> rfl]; exact h)

/-! ### Paired words -/

theorem shortRun_canonical {c op k} (h : Canonical s.mem) : Canonical ((shortRun c op k s).stateOr s).mem := by
  cases op with
  | ldw rd p upd => simp [shortRun, h]
  | stw rd p upd => exact storeOp_canonical h
  | macd a px py dx dy signed => simp [shortRun, h]
  | wmacd a px py dx dy => simp [shortRun, h]
  | _ => exact h

/-- A pair keeps the canonical form: each of its two operations does, from the state the first one leaves. -/
theorem pairRun_canonical {c a b k} (h : Canonical s.mem) : Canonical ((pairRun c a b k s).stateOr s).mem := by
  have ha : Canonical ((shortRun c a k s).stateOr s).mem := shortRun_canonical h
  unfold pairRun
  generalize shortRun c a k s = ra at ha
  cases ra with
  | core k1 =>
    have hb : Canonical ((shortRun c b k1 (s.setCore c k1)).stateOr _).mem := shortRun_canonical h
    dsimp only
    generalize shortRun c b k1 (s.setCore c k1) = rb at hb
    cases rb with
    | state t => exact hb
    | _ => exact h
  | state s1 =>
    have hb : Canonical ((shortRun c b (s1.core c) s1).stateOr _).mem := shortRun_canonical ha
    dsimp only
    generalize shortRun c b (s1.core c) s1 = rb at hb
    cases rb with
    | state t => exact hb
    | core k2 => exact ha
    | _ => exact h
  | _ => exact h

theorem execPairedWord_canonical {c w} (h : Canonical s.mem) :
    NextCanonical (execPairedWord c w s) :=
  nextCanonical_issue h (by
    split
    · exact pairRun_canonical h
    · exact h)

/-! ### The events of a core -/

@[simp] theorem readCycles_mem (c rd k) : ((readCycles c rd k s).stateOr s).mem = s.mem := rfl

theorem execMts_canonical {c rs1 imm} (h : Canonical s.mem) : NextCanonical (execMts c rs1 imm s) := by
  simp only [execMts]
  split
  · simp [h]
  · exact nextCanonical_issue h (by simp [h])

theorem execHeartbeatLapse_canonical {c} (h : Canonical s.mem) : NextCanonical (execHeartbeatLapse c s) := by
  unfold execHeartbeatLapse
  split <;> simp -implicitDefEqProofs [h]

/-! ### Every command and every step -/

/-- A command that goes on leaves the memory in canonical form: a word by its operation, a Depepa command by its body, an
event by the state it gives. -/
theorem exec_canonical (i : Instr) (h : Canonical s.mem) : NextCanonical (exec i s) := by
  cases i with
  | add | sub | andW | orW | xorW | sll | srl | sra | slt | sltu | mul | mulhu | mulh | addv | subv | mulv
    | div | divu | rem | remu | addi | andi | ori | xori | slli | srli | srai | slti | sltiu | addvi | lui
    | movi | mov | ldw | ldh | ldhu | ldb | ldbu | stw | sth | stb | ldgw | stgw | beq | bne | blt | bge
    | bltu | bgeu | beqz | bnez | jmp | call | jr | callr | ret | retg | eret | brk | fence | wait | mfs
    | loopi | loop | lclr | padds | accclr | acclo | acchi | acctop | accshr | accset | accadd | mac | wmulacc
    | wsqracc | wload | wstore | wget | wput => exact nextCanonical_issue h (by simp [h])
  | psetl | pseth | pget | pgeth | paddi | padd =>
      exact nextCanonical_issue h (by rw [withPointer_stateOr _ fun _ => rfl]; exact h)
  | wclr | wshr => exact nextCanonical_issue h (wideOp_canonical h fun _ => h)
  | pmov =>
      exact nextCanonical_issue h (by rw [withPointer_stateOr _ fun _ => withPointer_stateOr _ fun _ => rfl]; exact h)
  | sysIdentify | sysGetCaps | sysSetTime | sysGetHealth | sagCreate | sagDestroy | sagSetPolicy
    | sagBindQueue | sagQuery | sagSetLatency | keyGenerate | keyImportWrapped | keyExportWrapped | keyDerive
    | keyDestroy | keyQuery | keyRotate | keySetChain | sesOpen | sesClose | sesSaveContext
    | sesRestoreContext | sesQueryUsage | pkSign | pkVerify | pkKeypair | pkAgree | pkEncaps | pkDecaps
    | pkLeaseRaw | pkReleaseRaw | hsServerBegin | hsServerContinue | hsClientBegin | hsKeyUpdate
    | hsExportSecret | hsAbort | talRead | talAck | talGetSeal | entGetBytes | entReseed | entStatus | cfgRead
    | cfgWrite | flsProtect | flsUnlockGroup | lcGetState | lcTransition | dbgPresentCert | dbgClose
    | ccpActivate | ccpApdu | ccpDeactivate | arcMount | arcExport | arcImport | arcUnmount | tagRead
    | tagWrite | tagSetPassword | bstRunSlice | bstStatus | evrOpenWindow | evrRead | evrClear | pwrSetFloor
    | pwrStatus | updStage | updActivate | updRollback | unitRetire | unitRecalibrate | modLoad | modUnload
    | modCall | tmpStatus | tmpUnlock | tmpSetResponse => exact nextCanonical_runCommand h fun s hs => by simp [hs]
  | impreciseException | watchdogNotice | supervisorRestart | moduleCallTimeout | mailboxRequestWrite
    | dmbCtrl | hifQpOwner | queueDrainComplete | sqTail | cqHead | descriptorFetch | msixCoalesceTimeout
    | msixUnmask | barUnsupportedRequest | functionLevelReset | pciePerstNRelease | linkLoss | configWrite
    | granuleZeroed | clKeyload | keyloadDone | rawcmdWmulacc | rawcmdWsqracc | rawcmdWload | rawcmdWstore
    | rawcmdEnd | channelFailing | driftCheck | settingsRecordWrite | handshakeExpiry | keyupdatePrepare
    | spanClose | recordsReadable | ackStateJournal | byteSecondTick | sourceBlock | startupTestComplete
    | healthFailure | drbgRequestStart | entTestctl | flcProgram | flcErase | backgroundReerase | tamperAlarm
    | detectorStimulus | tamperLogEntry | backupDomainStart | tmpClass | porNAssert | boot | computeDieRelease
    | pwrfailNAssert | railUndervoltage | powerGoodFall | commitStopped | thermalAlert | throttleStep
    | thermalTrip | pmbusRetry | avsWindow | pllRelock | crystalLoss | crystalReturn | ratioMeasurement
    | coneEntry | meshFlitError | meshLinkReroute | d2dFlitError | d2dRetrain | d2dLinkStart | lcsHoursTick
    | debugSessionExpiry | custodianPresenceChange | cardTimeout | quorumSessionTimeout
    | archivePresenceChange | fieldPresent | fieldLost | select | query | queryadjust | queryrep | ack | nak
    | read | write | blockwrite | access | sessionFlagExpiry | tagPowerUp | rowErase | spareRotation
    | sliceRequestExpiry | bstLinkctl | linkCheckDone | setEndpointId | getEndpointId | getEndpointUuid
    | getMctpVersionSupport | getMessageTypeSupport | entdaa | setdasa | setnewda | getpid | getbcr | getdcr
    | getstatus | getmxds | enec | disec | getVersion | getCapabilities | negotiateAlgorithms | getDigests
    | getCertificate | challenge | getMeasurements | doeObject | doeAbort | extest | samplePreload | idcode
    | clamp | highz | computeTap | vaultTap | bypass | trstN | coneAonLo | clActBytesLo | cruActCycLo
    | talSeqLo | talAckedLo | talMinLo | entOutLo | entHostLo | arcNextLo | bstLinkbitsLo | sbiDrops
    | coneReserve | coneVlimit | dmbDoorbell | pmeTurnOff | linkUp | thermalAlertClear | timingMarginLow
    | lockseqCopyWrite | lockstepMismatch | mainPowerLoss | debugHaltRequest =>
      exact nextCanonical_of_state (by simp [h])
  | coreReset | zqCalibration | eraseResume | unlockLockoutExpiry | accessLockoutExpiry | mirrorSnapshot
    | backupNoAnswer | recorderSnapshot | windowExpiry | histogramSample | rstdaa | tamperAlarmEnd
    | vddHoldInRange => exact nextCanonical_of_state h
  | pciePerstNAssert | leaseLimitExpiry | flashWindowRead | lifecycleReset | pllLossOfLock | coneEntryComplete
    | coneExitComplete => exact nextCanonical_of_state (by simp (maxDischargeDepth := 8) -implicitDefEqProofs [h])
  | interrupt | machineCheckNotice => exact nextCanonical_of_state (by simp -implicitDefEqProofs [h])
  | busMasterTimeout =>
      exact nextCanonical_of_state (by simp (maxDischargeDepth := 8) +contextual -implicitDefEqProofs [foldl_canonical, h])
  | callg => exact execCallg_canonical h
  | mts => exact execMts_canonical h
  | macd => exact execMacd_canonical h
  | wmacd => exact execWmacd_canonical (sgn := 0) (neg := 0) h
  | wslot => exact execWslot_canonical h
  | pairedWord => exact execPairedWord_canonical h
  | heartbeatLapse => exact execHeartbeatLapse_canonical h
  | sysResetFunction => exact execSysResetFunction_canonical h
  | dataDescriptor => exact execDataDescriptor_canonical h
  | queueEnable => exact execQueueEnable_canonical h
  | queueDisable => exact execQueueDisable_canonical h
  | tokenGrant => exact execTokenGrant_canonical h
  | laneJobStart => exact execLaneJobStart_canonical h
  | contextMove => exact execContextMove_canonical h
  | laneJobComplete => exact execLaneJobComplete_canonical h
  | releaseComplete => exact execReleaseComplete_canonical h
  | laneFaultDetected => exact execLaneFaultDetected_canonical h
  | crucibleJobStart => exact execCrucibleJobStart_canonical h
  | crucibleJobComplete => exact execCrucibleJobComplete_canonical h
  | crucibleFaultDetected => exact execCrucibleFaultDetected_canonical h
  | rawOperation => exact execRawOperation_canonical h
  | rawFault => exact execRawFault_canonical h
  | keyLoadComplete => exact execKeyLoadComplete_canonical h
  | retrainStep => exact execRetrainStep_canonical h
  | logReclaim => exact execLogReclaim_canonical h
  | drbgGenerateComplete => exact execDrbgGenerateComplete_canonical h
  | programComplete => exact execProgramComplete_canonical h
  | eraseComplete => exact execEraseComplete_canonical h
  | commitComplete => exact execCommitComplete_canonical h
  | pmAlert => exact execPmAlert_canonical h
  | wake => exact execWake_canonical h
  | kilnBlockWritten => exact execKilnBlockWritten_canonical h
  | reqRn => exact execReqRn_canonical h
  | invalidCommand => exact execInvalidCommand_canonical h
  | sliceStart => exact execSliceStart_canonical h
  | sliceComplete => exact execSliceComplete_canonical h
  | eventRecord => exact execEventRecord_canonical h
  | mctpPacket => exact execMctpPacket_canonical h
  | respondIfReady => exact execRespondIfReady_canonical h
  | drainComplete => exact execDrainComplete_canonical h
  | registerWrite => exact execRegisterWrite_canonical h

end Sys2Proof.Machine
end

section
open Sys2Proof Sys2Proof.Machine

/-- Settles O60: a command in front of the queue keeps the canonical form by `exec_canonical`, and the tick of the timebase
leaves the memory. -/
theorem everyStepKeepsTheMemoryInCanonicalForm : Obligations.EveryStepKeepsTheMemoryInCanonicalForm := by
  unfold Obligations.EveryStepKeepsTheMemoryInCanonicalForm
  intro s t h hs
  unfold step at hs
  split at hs
  · cases hs
    exact h
  · next c rest _ => exact exec_canonical (s := { s with pending := rest }) c h t hs
end

section
/-! PROOFS. What work that ends early leaves alone (R23, R57, R86, R456, R457): the supplies, the backup domain, the pins,
the power manager, the life cycle, the links, the memory dies, the patch banks, the items and wear of the flash, and the
repairs. Each function of the model that ends a piece of work has one lemma, `f_platform`, in the order of the model's files.

`-implicitDefEqProofs` makes `simp` record a proof for the rewrites that hold by definition, as in the proofs about the
canonical memory: the hypothesis of `foldl_platform` is about a record update, and the proof found there needs one. -/

namespace Sys2Proof.Machine

/-- The part below its work: no command, job, message, lease, key or charge that ends touches any of it. -/
structure Platform where
  sup     : Supplies
  bk      : Backup
  pins    : OutPins
  pwr     : PowerMgr
  lcs     : LifeCycle
  fabric  : Fabric
  msub    : MemSub
  /-- The patch banks and the image in force, without the list of units that still reload. -/
  upd     : Update
  items   : FMap (List Byte)
  counts  : FMap Nat
  /-- An erase is in progress. -/
  erasing : Bool
  repairs : List RepairEntry

/-- The platform of a state. -/
def State.platform (s : State) : Platform :=
  { sup := s.sup, bk := s.bk, pins := s.pins, pwr := s.pwr, lcs := s.lcs, fabric := s.fabric, msub := s.msub
    upd := { s.upd with reload := [] }, items := s.flash.items, counts := s.flash.counts, erasing := s.flash.era.isSome
    repairs := s.bst.repairs }

/-- An update of any other field of the state leaves the platform. -/
@[simp] theorem platform_mk (t : State) (pending freeCtr out mem cores cru roles arr lanes ent health tokenWait hif tasks
    jobs taskIds jobIds vault cards tag tal evr side) :
    (State.mk pending freeCtr out mem cores cru roles arr lanes ent t.flash health tokenWait hif tasks jobs taskIds jobIds
      vault t.bk cards tag t.sup t.pins t.pwr t.fabric t.lcs tal t.msub evr t.bst t.upd side).platform = t.platform := rfl

@[simp] theorem ite_platform (p : Prop) [Decidable p] (a b : State) :
    (if p then a else b).platform = if p then a.platform else b.platform := apply_ite State.platform p a b

/-- What each step of a fold leaves, the fold leaves. -/
theorem foldl_keeps {α β γ : Type} (g : α → γ) (f : α → β → α) (hf : ∀ a b, g (f a b) = g a) (l : List β) (a : α) :
    g (l.foldl f a) = g a := by
  induction l generalizing a with
  | nil => rfl
  | cons b l ih => rw [List.foldl_cons, ih, hf]

@[simp] theorem foldl_platform {β : Type} (f : State → β → State) (hf : ∀ s b, (f s b).platform = s.platform) (l : List β)
    (s : State) : (l.foldl f s).platform = s.platform := foldl_keeps State.platform f hf l s

variable {s : State}

/-- Parts with one platform agree in each field of it. -/
theorem fields_of_platform {t : State} (h : t.platform = s.platform) : t.sup = s.sup ∧ t.bk = s.bk ∧ t.pins = s.pins ∧
    t.pwr = s.pwr ∧ t.lcs = s.lcs ∧ t.flash.items = s.flash.items ∧ t.flash.counts = s.flash.counts ∧
    (t.flash.era = none ↔ s.flash.era = none) ∧ t.bst.repairs = s.bst.repairs := by
  simp only [State.platform, Platform.mk.injEq] at h
  obtain ⟨hsup, hbk, hpins, hpwr, hlcs, -, -, -, hitems, hcounts, hera, hrepairs⟩ := h
  have hnone : t.flash.era = none ↔ s.flash.era = none := by
    rw [← Option.not_isSome_iff_eq_none, hera, Option.not_isSome_iff_eq_none]
  exact ⟨hsup, hbk, hpins, hpwr, hlcs, hitems, hcounts, hnone, hrepairs⟩

/-! ### Units, sessions, tasks and queue pairs as fields -/

@[simp] theorem used_platform (n) : (s.used n).platform = s.platform := rfl
@[simp] theorem emit_platform (o) : (s.emit o).platform = s.platform := rfl
@[simp] theorem setCrucible_platform (n x) : (s.setCrucible n x).platform = s.platform := rfl
@[simp] theorem setLane_platform (n l) : (s.setLane n l).platform = s.platform := rfl
@[simp] theorem setRole_platform (u r) : (s.setRole u r).platform = s.platform := rfl
@[simp] theorem setSession_platform (i x) : (s.setSession i x).platform = s.platform := rfl
@[simp] theorem setLease_platform (i l) : (s.setLease i l).platform = s.platform := rfl
@[simp] theorem setKey_platform (i k) : (s.setKey i k).platform = s.platform := rfl
@[simp] theorem setSaggar_platform (i x) : (s.setSaggar i x).platform = s.platform := rfl
@[simp] theorem setJob_platform (i j) : (s.setJob i j).platform = s.platform := rfl
@[simp] theorem setTask_platform (i t) : (s.setTask i t).platform = s.platform := rfl
@[simp] theorem setFn_platform (f x) : (s.setFn f x).platform = s.platform := rfl
@[simp] theorem setQp_platform (q x) : (s.setQp q x).platform = s.platform := rfl
@[simp] theorem setBox_platform (f m) : (s.setBox f m).platform = s.platform := rfl
@[simp] theorem setRequest_platform (i r) : (s.setRequest i r).platform = s.platform := rfl

/-! ### Events, messages of the host interface, tokens -/

/-- An event changes the recorder alone. -/
theorem raiseEvent_eq (source d) (s : State) : raiseEvent source d s = { s with evr := (raiseEvent source d s).evr } := by
  unfold raiseEvent
  split <;> rfl

@[simp] theorem raiseEvent_platform (source d) : (raiseEvent source d s).platform = s.platform := by rw [raiseEvent_eq]; rfl
@[simp] theorem raiseEvent_tal (source d) : (raiseEvent source d s).tal = s.tal := by rw [raiseEvent_eq]
@[simp] theorem raisePlain_platform (source) : (raisePlain source s).platform = s.platform := by simp [raisePlain]
@[simp] theorem joinStaged_platform : (joinStaged s).platform = s.platform := by simp [joinStaged]
@[simp] theorem tokensAgain_platform : (tokensAgain s).platform = s.platform := by simp [tokensAgain]
@[simp] theorem sendMsix_platform (f v) : (sendMsix f v s).platform = s.platform := by simp [sendMsix]
@[simp] theorem notifyGlobal_platform : (notifyGlobal s).platform = s.platform := by simp [notifyGlobal]
@[simp] theorem noteHealth_platform (before) : (noteHealth before s).platform = s.platform := by simp [noteHealth]
@[simp] theorem queueEvent_platform (q) : (queueEvent q s).platform = s.platform := by simp [queueEvent]
@[simp] theorem writeCompletion_platform (q h) : (writeCompletion q h s).platform = s.platform := by simp [writeCompletion]
@[simp] theorem queueComplete_platform (q h) : (queueComplete q h s).platform = s.platform := by simp [queueComplete]
@[simp] theorem releaseReservation_platform : (releaseReservation s).platform = s.platform := by simp [releaseReservation]
@[simp] theorem returnToken_platform : (returnToken s).platform = s.platform := by simp [returnToken]

/-! ### Charges and the records of overhead -/

@[simp] theorem chargeSaggar_platform (h c) : (chargeSaggar h c s).platform = s.platform := rfl
@[simp] theorem chargeOverhead_platform (c) : (chargeOverhead c s).platform = s.platform := rfl
@[simp] theorem countEngine_platform (c) : (countEngine c s).platform = s.platform := rfl
@[simp] theorem countInflight_platform (c) : (countInflight c s).platform = s.platform := rfl
@[simp] theorem chargeTo_platform (h c) : (chargeTo h c s).platform = s.platform := by cases h <;> rfl
@[simp] theorem addSignJobs_platform (n) : (addSignJobs n s).platform = s.platform := by
  simp -implicitDefEqProofs [addSignJobs]

/-! ### Keys -/

@[simp] theorem clearLaneKey_platform (i) : (clearLaneKey i s).platform = s.platform := rfl
@[simp] theorem keepCounts_platform (i) : (keepCounts i s).platform = s.platform := rfl
@[simp] theorem destroyKey_platform (i) : (destroyKey i s).platform = s.platform := rfl
@[simp] theorem retireTraffic_platform (k) : (retireTraffic k s).platform = s.platform := by simp [retireTraffic]
@[simp] theorem reapTraffic_platform : (reapTraffic s).platform = s.platform := by
  simp -implicitDefEqProofs [reapTraffic]

/-! ### Responses and ends of commands -/

@[simp] theorem mailboxComplete_platform (f status bytes) : (mailboxComplete f status bytes s).platform = s.platform := by
  simp [mailboxComplete]

@[simp] theorem respond_platform (opcode rq status det payload) :
    (respond opcode rq status det payload s).platform = s.platform := by
  unfold respond
  split <;> simp

@[simp] theorem finishTask_platform (id status det payload) : (finishTask id status det payload s).platform = s.platform := by
  simp [finishTask]

@[simp] theorem dataComplete_platform (rq status det written) :
    (dataComplete rq status det written s).platform = s.platform := by
  unfold dataComplete
  split <;> simp

/-! ### Lanes, crucibles and leases -/

@[simp] theorem dropGranules_platform (h die spill) : (dropGranules h die spill s).platform = s.platform := rfl

@[simp] theorem endMessage_platform (ses m) : (endMessage ses m s).platform = s.platform := by
  simp only [endMessage]
  split <;> simp

@[simp] theorem discardSession_platform (ses) : (discardSession ses s).platform = s.platform := by simp [discardSession]
@[simp] theorem freeLane_platform (n cls bytes) : (freeLane n cls bytes s).platform = s.platform := rfl
@[simp] theorem endJob_platform (id) : (endJob id s).platform = s.platform := by simp [endJob]
@[simp] theorem wipe_platform (n keep) : (wipe n keep s).platform = s.platform := rfl
@[simp] theorem freeCrucible_platform (n cycles) : (freeCrucible n cycles s).platform = s.platform := by simp [freeCrucible]
@[simp] theorem chargeLease_platform (i cycles) : (chargeLease i cycles s).platform = s.platform := by
  simp -implicitDefEqProofs [chargeLease]
@[simp] theorem chargeLeases_platform : (chargeLeases s).platform = s.platform := by simp [chargeLeases]

/-- A unit that takes its next image later leaves the image in force. -/
@[simp] theorem reload_platform (l) : { s with upd := { s.upd with reload := l } }.platform = s.platform := rfl

@[simp] theorem dropLeased_platform (expired n) : (dropLeased expired n s).platform = s.platform := by
  simp only [dropLeased, returnToken_platform, setCrucible_platform, reload_platform, wipe_platform]

@[simp] theorem endLease_platform (i expired) : (endLease i expired s).platform = s.platform := by simp [endLease]
@[simp] theorem queueJob_platform (id) : (queueJob id s).platform = s.platform := by simp [queueJob]
@[simp] theorem dropJob_platform (id) : (dropJob id s).platform = s.platform := by simp [dropJob]

@[simp] theorem failTask_platform (tid status det) : (failTask tid status det s).platform = s.platform := by
  simp only [failTask]
  repeat' split
  all_goals simp

/-! ### Abandoned jobs and commands -/

@[simp] theorem abandonRunning_platform (power id n) : (abandonRunning power id n s).platform = s.platform := by
  simp [abandonRunning]

@[simp] theorem abandonJob_platform (power id) : (abandonJob power id s).platform = s.platform := by
  unfold abandonJob
  split <;> simp

@[simp] theorem detachDraws_platform (tid) : (detachDraws tid s).platform = s.platform := rfl

@[simp] theorem detachFlash_platform (tid) : (detachFlash tid s).platform = s.platform := by
  simp [detachFlash, State.platform]

@[simp] theorem discardOf_platform (t) : (discardOf t s).platform = s.platform := by
  unfold discardOf
  split <;> simp

@[simp] theorem killTask_platform (power tid) : (killTask power tid s).platform = s.platform := by
  simp only [killTask]
  repeat' split
  all_goals simp

@[simp] theorem abandonAll_platform : (abandonAll s).platform = s.platform := by simp [abandonAll]

@[simp] theorem stopCores_platform : (stopCores s).platform = s.platform := rfl

/-! ### The scrub of the vault, the units and the entropy source -/

@[simp] theorem dropShake_platform (i) : (dropShake i s).platform = s.platform := by simp [dropShake]
@[simp] theorem dropSession_platform (i) : (dropSession i s).platform = s.platform := by simp [dropSession]
@[simp] theorem dropModule_platform (i) : (dropModule i s).platform = s.platform := rfl

@[simp] theorem scrubSaggar_platform (h) : (scrubSaggar h s).platform = s.platform := by
  simp -implicitDefEqProofs [scrubSaggar]

@[simp] theorem setEntState_platform (v) : (setEntState v s).platform = s.platform := by simp [setEntState]

@[simp] theorem withholdParked_platform : (withholdParked s).platform = s.platform := by
  refine (foldl_platform _ (fun s r => ?_) _ _).trans rfl
  cases r.task <;> simp

@[simp] theorem stopDraws_platform : (stopDraws s).platform = s.platform := by
  unfold stopDraws
  extract_lets rs _ s₁ s₂ s₃
  have h : s₃.platform = s.platform := by simp -implicitDefEqProofs [s₃, s₂, s₁]
  clear_value s₃
  split <;> simp [h]

@[simp] theorem stopSearches_platform : (stopSearches s).platform = s.platform := rfl
@[simp] theorem entropyScrub_platform : (entropyScrub s).platform = s.platform := by simp [entropyScrub]

@[simp] theorem scrubUnit_platform (u) : (scrubUnit u s).platform = s.platform := by
  simp only [scrubUnit]
  split
  · rfl
  · split <;> rfl

@[simp] theorem displace_platform (id) : (displace id s).platform = s.platform := by
  have setQueues (t : State) (running waiting : List Nat) :
      { t with bst := { t.bst with running, waiting } }.platform = t.platform := rfl
  unfold displace
  extract_lets r s₁ s₂ _
  rw [setQueues s₂, setRequest_platform, scrubUnit_platform]

@[simp] theorem displaceSlices_platform : (displaceSlices s).platform = s.platform := by simp [displaceSlices]

/-! ### The two tamper responses on the compute die -/

@[simp] theorem endTask_platform (tid status) : (endTask tid status s).platform = s.platform := by
  simp only [endTask]
  repeat' split
  all_goals simp

@[simp] theorem undoChunk_platform (t) : (undoChunk t s).platform = s.platform := by
  simp only [undoChunk]
  repeat' split
  all_goals simp

@[simp] theorem lockTask_platform (tid) : (lockTask tid s).platform = s.platform := by
  simp only [lockTask]
  repeat' split
  all_goals simp

@[simp] theorem lockEffects_platform : (lockEffects s).platform = s.platform := by
  simp [lockEffects, -List.foldl_reverse]

@[simp] theorem scrubEffects_platform : (scrubEffects s).platform = s.platform := by
  unfold scrubEffects
  extract_lets live s₁ held s₂ s₃ s₄ _ s₅ _
  have h₁ : s₁.platform = s.platform := foldl_platform _ (fun t j => by cases (t.job j).task <;> simp) _ _
  clear_value s₁
  simp [s₅, s₄, s₃, s₂, h₁, -List.foldl_reverse]

@[simp] theorem applyLock_platform : (applyLock s).platform = s.platform := by simp [applyLock]

@[simp] theorem readLog_platform : (readLog s).platform = s.platform := by
  unfold readLog
  extract_lets ignored s₁ s₂
  have h₁ : s₁.platform = s.platform := by simp [s₁]
  have h₂ : s₂.platform = s₁.platform := foldl_platform _ (fun t h => by cases decidingRecord h t <;> simp) _ _
  rw [platform_mk, h₂, h₁]

/-! ### Jobs that run again and units that change roles -/

@[simp] theorem failInternal_platform (id det) : (failInternal id det s).platform = s.platform := by simp [failInternal]
@[simp] theorem queueRerun_platform (id added) : (queueRerun id added s).platform = s.platform := by simp [queueRerun]

@[simp] theorem unstage_platform (tid) : (unstage tid s).platform = s.platform := by
  simp only [unstage]
  split <;> simp

@[simp] theorem dropContext_platform (j n) : (dropContext j n s).platform = s.platform := by
  unfold dropContext
  split <;> simp

@[simp] theorem stopLaneJob_platform (id n added) : (stopLaneJob id n added s).platform = s.platform := by
  simp only [stopLaneJob]
  repeat' split
  all_goals simp

@[simp] theorem stopCrucible_platform (id n ran added) : (stopCrucible id n ran added s).platform = s.platform := by
  simp only [stopCrucible]
  repeat' split
  all_goals simp

@[simp] theorem rerunClass_platform (c) : (rerunClass c s).platform = s.platform := by
  unfold rerunClass
  split
  · refine foldl_platform _ (fun t n => ?_) _ _
    cases (t.lane n).job <;> simp
  split
  · refine foldl_platform _ (fun t n => ?_) _ _
    cases (t.crucible n).job <;> simp
  · rfl

@[simp] theorem enqueue_platform (r) : (enqueue r s).2.platform = s.platform := rfl
@[simp] theorem enterSpare_platform (cls i) : (enterSpare cls i s).platform = s.platform := by simp [enterSpare]
@[simp] theorem settleRoles_platform : (settleRoles s).platform = s.platform := by
  simp -implicitDefEqProofs [settleRoles]
@[simp] theorem afterJob_platform : (afterJob s).platform = s.platform := by simp [afterJob]

end Sys2Proof.Machine
end

section
/-! PROOFS. What the flash is left as when it is cut short, what a reset of the whole part keeps, how a power-fail commit
starts and ends, and what goes with the supplies (R50-R65, R92, R98, R440, R441, R518). -/

namespace Sys2Proof.Machine

open Sys2Proof.Claims

variable {s t : State}

/-! ### A bit of a mask -/

@[simp] theorem getElem_setBit_self {w : Nat} (m : BitVec w) {i : Nat} (hi : i < w) (b : Bool) : (setBit m i b)[i] = b := by
  cases b <;> simp [setBit, BitVec.getElem_twoPow]

/-! ### The flash that is cut short (R440, R441) -/

/-- Cutting the flash short changes the flash and the free values alone. -/
theorem cutFlash_eq (s : State) :
    cutFlash s = { s with freeCtr := (cutFlash s).freeCtr, flash := (cutFlash s).flash } := by
  cases hp : s.flash.prog <;> cases he : s.flash.era <;> simp [cutFlash, hp, he, State.used]

/-- It ends the operations and keeps the queue and the items. -/
@[simp] theorem cutFlash_flash (s : State) : (cutFlash s).flash.prog = none ∧ (cutFlash s).flash.era = none ∧
    (cutFlash s).flash.queue = s.flash.queue ∧ (cutFlash s).flash.items = s.flash.items := by
  cases hp : s.flash.prog <;> cases he : s.flash.era <;>
    simp [cutFlash, hp, he, State.used, apply_ite Flash.prog, apply_ite Flash.era, apply_ite Flash.queue, apply_ite Flash.items]

/-- Where no erase ran, the erase counts are kept. -/
theorem cutFlash_counts (he : s.flash.era = none) : (cutFlash s).flash.counts = s.flash.counts := by
  cases hp : s.flash.prog <;> simp [cutFlash, hp, he, State.used]

/-! ### The part in reset (R92, R98) -/

/-- What the off state keeps of the part as it was. -/
@[simp] theorem offState_keeps (s : State) : (offState s).sup = s.sup ∧ (offState s).bk = s.bk ∧
    (offState s).tal = { s.tal with resetMinute := some (s.tal.resetMinute.getD s.minute) } ∧
    (offState s).pins = { holdDone := s.pins.holdDone, thermTrip := s.pins.thermTrip, tamper := s.pins.tamper } ∧
    (offState s).lcs.rootDis = s.lcs.rootDis ∧ (offState s).pwr.stopped = s.pwr.stopped ∧
    (offState s).pwr.rstCause = s.pwr.rstCause ∧ (offState s).pwr.commit = none ∧ (offState s).pwr.tripped = s.pwr.tripped := by
  rw [offState, cutFlash_eq s]
  exact ⟨rfl, rfl, rfl, rfl, rfl, rfl, rfl, rfl, rfl⟩

theorem offAs_offState (s : State) : offAs s (offState s) := by
  obtain ⟨-, -, -, hitems⟩ := cutFlash_flash s
  unfold offState
  rw [cutFlash_eq s]
  exact ⟨rfl, rfl, rfl, rfl, rfl, rfl, rfl, rfl, rfl, rfl, rfl, rfl, rfl, rfl, rfl, hitems, cutFlash_counts, rfl⟩

/-- The cause of a reset is one more bit beside what the off state is. -/
theorem offAs_resetWhole (cause : Nat) (s : State) : offAs s (resetWhole cause s) := offAs_offState s

@[simp] theorem resetWhole_keeps (cause : Nat) (s : State) : (resetWhole cause s).sup = s.sup ∧ (resetWhole cause s).bk = s.bk ∧
    (resetWhole cause s).tal = { s.tal with resetMinute := some (s.tal.resetMinute.getD s.minute) } ∧
    (resetWhole cause s).pins = { holdDone := s.pins.holdDone, thermTrip := s.pins.thermTrip, tamper := s.pins.tamper } ∧
    (resetWhole cause s).lcs.rootDis = s.lcs.rootDis ∧ (resetWhole cause s).pwr.stopped = s.pwr.stopped ∧
    (resetWhole cause s).pwr.rstCause = setBit s.pwr.rstCause cause true := by
  simp [resetWhole]

/-- What a reset keeps is of the platform. -/
theorem offAs_of_platform {u : State} (hu : u.platform = s.platform) (h : offAs u t) : offAs s t := by
  obtain ⟨-, -, -, hpwr, hlcs, hitems, hcounts, hera, hrepairs⟩ := fields_of_platform hu
  simpa only [offAs, hpwr, hlcs, hitems, hcounts, hera, hrepairs] using h

/-! ### Supplies that go (R65, R518) -/

/-- Without supply the tag loses a flag, and nothing else changes. -/
theorem losePowerTag_eq (s : State) : losePowerTag s = { s with tag := (losePowerTag s).tag } := by
  unfold losePowerTag
  split <;> rfl

/-- A loss of supplies changes the tag, and without any supply takes the content of the backup domain. -/
theorem losePower_eq (s : State) : losePower s = { s with
    tag := (losePowerTag s).tag
    bk := if s.sup.vddVault || s.sup.vddHold || s.sup.vbat then s.bk
      else { s.bk with valid := false, seed := [], saveKey := [] } } := by
  unfold losePower
  rw [losePowerTag_eq s]
  dsimp only
  split <;> rfl

theorem offAs_losePower (h : offAs s t) : offAs s (losePower t) := by
  rw [losePower_eq t]
  exact h

/-! ### The power-fail commit (R56-R62) -/

/-- A trigger on a released part without a commit works from a state with the same platform: nothing is left in flight. -/
theorem triggerCommit_eq {kind : Nat} (hr : s.pwr.released = true) (hc : s.pwr.commit = none) :
    ∃ u n f, u.platform = s.platform ∧ f.prog = none ∧ f.era = none ∧ f.queue = [] ∧
      triggerCommit kind s = { dropRequests u with
        freeCtr := n, flash := f, pwr := { u.pwr with commit := some (BitVec.ofNat 8 kind) }
        bk := { u.bk with disarmed := u.bk.disarmed || decide (kind = 0) || decide (kind = 3) || decide (kind = 4) } } := by
  let u := if s.gated then { s with tal := { s.tal with failMinute := some s.minute } }
    else stopCores (abandonAll (chargeLeases s))
  have hu : u.platform = s.platform := by simp [u]
  let v := dropRequests { u with flash := { u.flash with queue := [] } }
  obtain ⟨hprog, hera, hqueue, -⟩ := cutFlash_flash v
  refine ⟨u, (cutFlash v).freeCtr, (cutFlash v).flash, hu, hprog, hera, hqueue, ?_⟩
  have hstart : triggerCommit kind s = { cutFlash v with
      pwr := { (cutFlash v).pwr with commit := some (BitVec.ofNat 8 kind) }
      bk := { (cutFlash v).bk with
        disarmed := (cutFlash v).bk.disarmed || decide (kind = 0) || decide (kind = 3) || decide (kind = 4) } } := by
    simp only [triggerCommit, hr, hc]
    rfl
  rw [hstart, cutFlash_eq v]
  rfl

/-- What a trigger starts: the commit of its kind, with the supplies and pins as they were. -/
theorem triggerCommit_starts {kind : Nat} (hr : s.pwr.released = true) (hc : s.pwr.commit = none) :
    let t := triggerCommit kind s
    commits (BitVec.ofNat 8 kind) t ∧ t.sup = s.sup ∧ t.pins = s.pins ∧
      t.pwr = { s.pwr with commit := some (BitVec.ofNat 8 kind) } ∧
      t.bk = { s.bk with disarmed := s.bk.disarmed || decide (kind = 0) || decide (kind = 3) || decide (kind = 4) } := by
  obtain ⟨u, n, f, hu, hprog, hera, hqueue, h⟩ := triggerCommit_eq (kind := kind) hr hc
  obtain ⟨hsup, hbk, hpins, hpwr, -⟩ := fields_of_platform hu
  simp [commits, h, hprog, hera, hqueue, hsup, hbk, hpins, hpwr, dropRequests]

/-- A second trigger changes nothing. -/
theorem triggerCommit_running {kind : Nat} {k : BitVec 8} (hc : s.pwr.commit = some k) : triggerCommit kind s = s := by
  simp [triggerCommit, hc]

theorem afterCommit_untripped (h : s.pwr.tripped = false) : afterCommit s = losePower (resetWhole 3 s) := by
  simp [afterCommit, h]

/-- The commit of an untripped part ends with the part off and its cause told. -/
theorem afterCommit_off (h : s.pwr.tripped = false) : offAs s (afterCommit s) ∧ (afterCommit s).sup = s.sup ∧
    (afterCommit s).pwr.rstCause.getLsbD 3 = true ∧ (afterCommit s).pwr.stopped = s.pwr.stopped ∧
    (afterCommit s).pins.holdDone = s.pins.holdDone ∧
    (afterCommit s).tal = { s.tal with resetMinute := some (s.tal.resetMinute.getD s.minute) } ∧
    (s.sup.vddHold = true → (afterCommit s).bk = s.bk) := by
  rw [afterCommit_untripped h]
  refine ⟨offAs_losePower (offAs_resetWhole 3 s), ?_⟩
  rw [losePower_eq (resetWhole 3 s)]
  simp +contextual

/-! ### The events of the commit -/

@[simp] theorem joinStaged_tal : (joinStaged s).tal = s.tal := by
  simp only [joinStaged]
  split <;> rfl

/-- The page of a commit holds what the tally block has open. -/
theorem commitPageOf_congr (h : t.tal = s.tal) : commitPageOf t = commitPageOf s := by
  simp only [commitPageOf, State.saggarSum, h]

theorem stopCommit_running {k : BitVec 8} (hc : s.pwr.commit = some k) :
    stopCommit s = afterCommit { s with pwr := { s.pwr with stopped := some k } } := by
  simp [stopCommit, hc]

/-- The commit that completes with hold-up ends after its page is made, on a part with the same platform. -/
theorem execCommitComplete_held {k : BitVec 8} (hc : s.pwr.commit = some k) (hv : s.sup.vddHold = true) :
    ∃ u : State, u.platform = s.platform ∧ u.tal = s.tal ∧ execCommitComplete s = .next (afterCommit { u with
      tal := { s.tal with commitPage := if s.tal.isOpen then some (commitPageOf s) else none, ackJournal := s.tal.acked }
      pins := { u.pins with holdDone := true } }) := by
  let e := raiseEvent 301 (detail [(1, k.toNat), (1, 0)]) s
  let v := if e.gated then joinStaged e else e
  have hv₁ : v.platform = s.platform := by simp [v, e]
  have hv₂ : v.tal = s.tal := by
    simp only [v]
    split <;> simp [e]
  refine ⟨{ v with evr := { v.evr with commitLog := commitRecords v } }, (platform_mk ..).trans hv₁, hv₂, ?_⟩
  have hp : commitPageOf { v with evr := { v.evr with commitLog := commitRecords v } } = commitPageOf s := commitPageOf_congr hv₂
  simp only [execCommitComplete, hc, hv]
  rw [← hp, ← hv₂]
  rfl

theorem execCommitComplete_unheld {k : BitVec 8} (hc : s.pwr.commit = some k) (hv : s.sup.vddHold = false) :
    execCommitComplete s = .next (stopCommit s) := by
  simp [execCommitComplete, hc, hv]

end Sys2Proof.Machine
end

section
/-! PROOFS. What a boot brings up, step by step (R93): each step changes one field of what a boot answers for, or none. -/

namespace Sys2Proof.Machine

variable {s : State}

/-- What a boot brings up. -/
structure Startup where
  sup      : Supplies
  valid    : Bool
  lock     : BitVec 2
  released : Bool
  cycles   : Word
  trained  : BitVec 16
  linkUp   : Bool
  items    : FMap (List Byte)
  upd      : Update

/-- The part of a platform that a boot brings up. -/
def Platform.startup (p : Platform) : Startup :=
  { sup := p.sup, valid := p.bk.valid, lock := p.bk.lock, released := p.pwr.released, cycles := p.lcs.cycles
    trained := p.msub.trained, linkUp := p.fabric.linkUp, items := p.items, upd := p.upd }

/-- The image a boot takes: the one selected, else the other, else ROM alone (R95). -/
def chosenImage (env : BootEnv) (u : Update) : Option Bool :=
  let good (b fails : Bool) : Bool := (if b then u.bankB else u.bankA).verified && !fails
  if good u.select env.bankFails then some u.select
  else if good (!u.select) env.otherFails then some (!u.select) else none

/-! ### The steps of a boot (R93), in their order -/

/-- The supplies that a boot finds. -/
theorem bootSupplies_startup (env) : (bootSupplies env s).platform.startup = { s.platform.startup with
    sup := { s.sup with
      porN := true, pwrfailN := true, pg := 0xF, railsUp := true, vddVault := true
      vddHold := env.vddHold, vbat := env.vbat } } := rfl

theorem startBackup_startup : (startBackup s).platform.startup =
    { s.platform.startup with valid := true, lock := if s.platform.startup.valid then s.platform.startup.lock else 2 } := by
  cases h : s.platform.startup.valid with
  | false =>
    rw [show startBackup s = _ from if_neg (Bool.eq_false_iff.1 h)]
    rfl
  | true =>
    rw [show startBackup s = s from if_pos h]
    exact congrArg (fun valid => { s.platform.startup with valid }) h

theorem drivePin_startup : (drivePin s).platform.startup = s.platform.startup := rfl
theorem bootCause_startup : (bootCause s).platform.startup = s.platform.startup := rfl

@[simp] theorem loadRecorder_platform : (loadRecorder s).platform = s.platform := by simp [loadRecorder]

theorem bootStopped_startup : (bootStopped s).platform.startup = s.platform.startup := by
  unfold bootStopped
  split
  · rw [raiseEvent_platform]
    rfl
  · rfl

theorem readFuses_startup : (readFuses s).platform.startup = s.platform.startup := by
  simp only [readFuses, raisePlain_platform]
  rfl

theorem bootFuses_startup : (bootFuses s).platform.startup =
    { s.platform.startup with cycles := s.platform.startup.cycles + 1 } := by
  have hcycles : (bootFuses s).platform.startup =
      { (readFuses s).platform.startup with cycles := (readFuses s).platform.startup.cycles + 1 } := rfl
  rw [hcycles, readFuses_startup]

theorem releaseDie_startup : (releaseDie s).platform.startup = { s.platform.startup with released := true } := by
  simp only [releaseDie]
  split
  · rfl
  · rw [raiseEvent_platform]
    rfl

theorem startLink_startup (pairs) : (startLink pairs s).platform.startup = { s.platform.startup with linkUp := pairs } := rfl

theorem bootAvs_startup (env) : (bootAvs env s).platform.startup = s.platform.startup := by
  simp only [bootAvs, raiseEvent_platform]
  rfl

theorem foldl_snd_platform {β γ : Type} (f : γ × State → β → γ × State) (hf : ∀ r b, (f r b).2.platform = r.2.platform)
    (l : List β) (r : γ × State) : (l.foldl f r).2.platform = r.2.platform := foldl_keeps (fun r => r.2.platform) f hf l r

@[simp] theorem bootRoles_platform : (bootRoles s).platform = s.platform := by
  simp only [bootRoles]
  repeat rw [foldl_snd_platform]
  all_goals
    intro r u
    split
    · rfl
    split <;> rfl

theorem choosePatch_startup (env) : (choosePatch env s).platform.startup =
    { s.platform.startup with
      upd := { s.platform.startup.upd with running := chosenImage env s.platform.startup.upd } } := rfl

theorem bootMemory_startup (env) : (bootMemory env s).platform.startup =
    { s.platform.startup with trained := env.trained } := by
  simp only [bootMemory]
  split
  · rw [raisePlain_platform]
    rfl
  · rfl

theorem bootCopies_startup : (bootCopies s).platform.startup = s.platform.startup := by
  simp only [bootCopies]
  split <;> rfl

theorem bootFlash_startup : (bootFlash s).platform.startup = s.platform.startup := by
  have setWp (t : State) (wp) : { t with flash := { t.flash with wp } }.platform = t.platform := rfl
  unfold bootFlash
  extract_lets f s₁ s₂ mask wp _
  have h₂ : s₂.platform = s₁.platform := by simp [s₂]
  rw [setWp s₂ wp, h₂]
  rfl

theorem bootVault_startup : (bootVault s).platform.startup = s.platform.startup := by
  simp only [bootVault]
  split
  · rfl
  split
  · simp
  split
  · rfl
  · simp

@[simp] theorem issueRecord_platform (kind flags saggar span first c f132 f156) :
    (issueRecord kind flags saggar span first c f132 f156 s).platform = s.platform := rfl

@[simp] theorem issuePair_platform (flags span first lo hi lost) :
    (issuePair flags span first lo hi lost s).platform = s.platform := by
  simp [issuePair]

@[simp] theorem startPair_platform (wasOpen) : (startPair wasOpen s).platform = s.platform := by
  unfold startPair
  extract_lets t acked spans closed lost s₁ first mins excess items enter
  have h₁ : s₁.platform = s.platform := rfl
  have henter (c o : Charge) (u : State) : (enter c o u).platform = u.platform := by
    simp only [enter]
    split <;> rfl
  split
  · exact h₁
  split <;> simp only [henter, issuePair_platform, h₁]

@[simp] theorem openSpan_platform (first) : (openSpan first s).platform = s.platform := rfl

@[simp] theorem bootTally_platform : (bootTally s).platform = s.platform := by
  simp only [bootTally]
  repeat' split
  all_goals simp

@[simp] theorem bootBist_platform (env) : (bootBist env s).platform = s.platform := by
  unfold bootBist
  split <;> rfl

@[simp] theorem bootChain_platform : (bootChain s).platform = s.platform := by simp [bootChain]

/-! ### The boot -/

/-- The part as a boot has it when its fuses are read. -/
theorem released_startup (s : State) : (if s.pwr.released then s else releaseDie s).platform.startup =
    { s.platform.startup with released := true } := by
  split
  · next h => simp [State.platform, Platform.startup, h]
  · exact releaseDie_startup

/-- What a boot brings up, whatever the part held. -/
theorem boot_startup (env : BootEnv) (s : State) : (boot env s).platform.startup = {
    sup := { s.sup with
      porN := true, pwrfailN := true, pg := 0xF, railsUp := true, vddVault := true
      vddHold := env.vddHold, vbat := env.vbat }
    valid := true, lock := if s.bk.valid then s.bk.lock else 2, released := true, cycles := s.lcs.cycles + 1
    trained := env.trained, linkUp := env.pairs, items := s.flash.items
    upd := { s.upd with reload := [], running := chosenImage env { s.upd with reload := [] } } } := by
  unfold boot
  have setUp (t : State) : { t with pwr := { t.pwr with up := true } }.platform.startup = t.platform.startup := rfl
  rw [setUp, bootChain_platform, bootBist_platform, bootTally_platform, bootVault_startup, bootFlash_startup,
    bootCopies_startup, bootMemory_startup, choosePatch_startup, bootRoles_platform, bootAvs_startup, startLink_startup,
    released_startup, bootFuses_startup, bootStopped_startup, loadRecorder_platform, bootCause_startup, drivePin_startup,
    startBackup_startup, bootSupplies_startup]
  rfl

/-- The span a boot opens stays open to its end. -/
theorem boot_isOpen (env : BootEnv) (s : State) : (boot env s).tal.isOpen = true := by
  have chain (t : State) : (bootChain t).tal = t.tal := by
    simp only [bootChain, raisePlain]
    split
    · rw [raiseEvent_tal]
    · rfl
  have bist (t : State) : (bootBist env t).tal = t.tal := by
    unfold bootBist
    split <;> rfl
  have up (t : State) : { t with pwr := { t.pwr with up := true } }.tal = t.tal := rfl
  unfold boot
  rw [up, chain, bist]
  rfl

theorem chosenImage_selected {env : BootEnv} {u : Update} (hv : (if u.select then u.bankB else u.bankA).verified = true)
    (hf : env.bankFails = false) : chosenImage env u = some u.select := by
  simp [chosenImage, hv, hf]

end Sys2Proof.Machine
end

section
/-! PROOFS. The rows of the supplies, the commit, the resets and the boot (R45-R65, R92, R93, R98, R383, R591). -/

namespace Sys2Proof.Machine

open Sys2Proof.Claims

variable {s : State} {k : BitVec 8}

/-! ### Triggers of the commit (R45, R56) -/

section
variable (hr : s.pwr.released = true) (hc : s.pwr.commit = none)
include hr hc

theorem pwrfailNAssert_starts : ∃ t, exec .pwrfailNAssert s = .next t ∧ commits 0 t ∧
    t.sup = { s.sup with pwrfailN := false } ∧ t.bk.disarmed = true ∧ t.bk.lock = s.bk.lock := by
  obtain ⟨hcommits, hsup, -, -, hbk⟩ :=
    triggerCommit_starts (s := { s with sup := { s.sup with pwrfailN := false } }) (kind := 0) hr hc
  exact ⟨_, rfl, hcommits, hsup, by simp [hbk], by simp [hbk]⟩

theorem railUndervoltage_starts (vault : Bool) : ∃ t, exec (.railUndervoltage vault) s = .next t ∧
    commits (if vault then 2 else 1) t ∧ t.sup = s.sup ∧ t.bk.disarmed = s.bk.disarmed := by
  cases vault with
  | false =>
    obtain ⟨hcommits, hsup, -, -, hbk⟩ := triggerCommit_starts (kind := 1) hr hc
    exact ⟨_, rfl, hcommits, hsup, by simp [hbk]⟩
  | true =>
    obtain ⟨hcommits, hsup, -, -, hbk⟩ := triggerCommit_starts (kind := 2) hr hc
    exact ⟨_, rfl, hcommits, hsup, by simp [hbk]⟩

theorem powerGoodFall_starts (input : BitVec 2) (hp : s.sup.porN = true) (hf : s.sup.pwrfailN = true) :
    ∃ t, exec (.powerGoodFall input) s = .next t ∧ commits 3 t ∧ t.sup.pg.getLsbD input.toNat = false := by
  let s' := { s with sup := { s.sup with pg := setBit s.sup.pg input.toNat false } }
  obtain ⟨hcommits, hsup, -⟩ := triggerCommit_starts (s := s') (kind := 3) hr hc
  refine ⟨triggerCommit 3 s', congrArg Host.Outcome.next (if_pos (by simp [hp, hf])), hcommits, ?_⟩
  have hi : input.toNat < 4 := input.isLt
  simp [hsup, s', hi]

end

theorem powerGoodFall_off (input : BitVec 2) (hp : s.sup.porN = false) : exec (.powerGoodFall input) s =
    .next { s with sup := { s.sup with pg := setBit s.sup.pg input.toNat false } } :=
  congrArg Host.Outcome.next (if_neg (by simp [hp]))

/-! ### The end of the commit (R60, R61, R591) -/

theorem commitComplete_idle (hc : s.pwr.commit = none) : exec .commitComplete s = .next s := by
  show execCommitComplete s = _
  simp [execCommitComplete, hc]

section
variable (hc : s.pwr.commit = some k)
include hc

/-- While a commit runs another trigger moves its pin alone (R56). -/
theorem triggers_running (vault : Bool) :
    exec .pwrfailNAssert s = .next { s with sup := { s.sup with pwrfailN := false } } ∧
      exec (.railUndervoltage vault) s = .next s :=
  ⟨congrArg Host.Outcome.next (triggerCommit_running hc), congrArg Host.Outcome.next (triggerCommit_running hc)⟩

/-- The page is kept, and HOLD_DONE rises. -/
theorem commitComplete_held (ht : s.pwr.tripped = false) (hv : s.sup.vddHold = true) :
    ∃ t, exec .commitComplete s = .next t ∧ offAs s t ∧ t.pins.holdDone = true ∧ t.pwr.rstCause.getLsbD 3 = true ∧
      t.bk = s.bk ∧ t.tal.ackJournal = s.tal.acked ∧
      t.tal.commitPage = if s.tal.isOpen then some (commitPageOf s) else none := by
  obtain ⟨u, hu, -, hexec⟩ := execCommitComplete_held hc hv
  obtain ⟨hsup, hbk, -, hpwr, -⟩ := fields_of_platform hu
  refine ⟨_, hexec, ?_⟩
  generalize hw : { u with
      tal := { s.tal with commitPage := if s.tal.isOpen then some (commitPageOf s) else none, ackJournal := s.tal.acked }
      pins := { u.pins with holdDone := true } } = w
  obtain ⟨hoff, -, hcause, -, hpin, htal, hkeep⟩ := afterCommit_off (s := w) (by simp [← hw, hpwr, ht])
  subst hw
  have hback := (hkeep (by simp [hsup, hv])).trans hbk
  exact ⟨offAs_of_platform hu hoff, hpin, hcause, hback, by rw [htal], by rw [htal]⟩

/-- Without hold-up the commit ends without its page (R62). -/
theorem commitComplete_unheld (ht : s.pwr.tripped = false) (hv : s.sup.vddHold = false) :
    ∃ t, exec .commitComplete s = .next t ∧ offAs s t ∧ t.pins.holdDone = s.pins.holdDone ∧ t.pwr.stopped = some k ∧
      t.tal.commitPage = s.tal.commitPage := by
  obtain ⟨hoff, -, -, hstopped, hpin, htal, -⟩ :=
    afterCommit_off (s := { s with pwr := { s.pwr with stopped := some k } }) ht
  have hexec := (execCommitComplete_unheld hc hv).trans (congrArg Host.Outcome.next (stopCommit_running hc))
  exact ⟨_, hexec, hoff, hpin, hstopped, by rw [htal]⟩

theorem commitStopped_off (ht : s.pwr.tripped = false) :
    ∃ t, exec .commitStopped s = .next t ∧ offAs s t ∧ t.sup.vddHold = false ∧ t.pwr.stopped = some k ∧
      t.pins.holdDone = s.pins.holdDone ∧ t.pwr.rstCause.getLsbD 3 = true := by
  let u := { s with sup := { s.sup with vddHold := false } }
  obtain ⟨hoff, hsup, hcause, hstopped, hpin, -⟩ :=
    afterCommit_off (s := { u with pwr := { u.pwr with stopped := some k } }) ht
  exact ⟨_, congrArg Host.Outcome.next (stopCommit_running (s := u) hc), hoff, by rw [hsup], hstopped, hpin, hcause⟩

end

/-! ### Resets (R92, R98, R383) -/

theorem porNAssert_off (hc : s.pwr.commit = none) : ∃ t, exec .porNAssert s = .next t ∧ offAs s t ∧ t.sup.porN = false ∧
    t.pins.thermTrip = false ∧ t.pwr.tripped = false ∧ t.pwr.rstCause.getLsbD 0 = true ∧ t.bk = s.bk := by
  refine ⟨porLow (resetWhole 0 s), ?_, offAs_resetWhole 0 s, rfl, rfl, rfl, ?_⟩
  · exact congrArg (Host.Outcome.next <| porLow ·) (if_neg (by simp [hc]))
  · simp [porLow]

/-- A commit that runs goes on under POR_N (R61). -/
theorem porNAssert_commits (hc : s.pwr.commit = some k) : ∃ t, exec .porNAssert s = .next t ∧ t.sup.porN = false ∧
    t.pwr = { s.pwr with tripped := false } ∧ t.bk = s.bk ∧ t.tal = s.tal :=
  ⟨porLow s, congrArg (Host.Outcome.next <| porLow ·) (if_pos (by simp [hc])), rfl, rfl, rfl, rfl⟩

/-- The reset that a transition owes abandons the work in flight and keeps the page of the open span (R383). -/
theorem lifecycleReset_off (hd : s.lcs.resetDue = true) : ∃ t, exec .lifecycleReset s = .next t ∧ offAs s t ∧
    t.pwr.rstCause.getLsbD 5 = true ∧ t.lcs.rootDis = s.lcs.rootDis := by
  let u := if s.gated then s else abandonAll (chargeLeases s)
  have hu : u.platform = s.platform := by simp [u]
  obtain ⟨-, -, -, -, hlcs, -⟩ := fields_of_platform hu
  let v := { u with tal := { u.tal with
    commitPage := if u.tal.isOpen then some (commitPageOf u) else none, ackJournal := u.tal.acked } }
  refine ⟨resetWhole 5 v, ?_, offAs_of_platform hu (offAs_resetWhole 5 v), by simp, by simp [v, hlcs]⟩
  exact congrArg Host.Outcome.next (if_neg (by simp [hd]))

theorem lifecycleReset_idle (hd : s.lcs.resetDue = false) : exec .lifecycleReset s = .next s :=
  congrArg Host.Outcome.next (if_pos (by simp [hd]))

/-- The main rails go, POR_N with them by the model's choice (log entry 111), and without VBAT the backup content (R65). -/
theorem mainPowerLoss_off (hc : s.pwr.commit = none) : ∃ t, exec .mainPowerLoss s = .next t ∧ offAs s t ∧
    t.sup.vddVault = false ∧ t.sup.vddHold = false ∧ t.sup.railsUp = false ∧ t.sup.porN = false ∧
    t.pins.holdDone = false ∧ t.pins.tamper = false ∧ (s.sup.vbat = true → t.bk = s.bk) ∧
    (s.sup.vbat = false → t.bk.valid = false ∧ t.bk.seed = []) := by
  let u := porLow s
  let v := { offState u with
    sup := { u.sup with railsUp := false, vddVault := false, pg := 0, vddHold := false }
    pins := { (offState u).pins with holdDone := false } }
  have hoff : offAs s (drivePin (losePower v)) := offAs_losePower (offAs_offState u)
  refine ⟨drivePin (losePower v), congrArg Host.Outcome.next (if_neg (by simp [porLow, hc])), hoff, ?_⟩
  rw [losePower_eq v]
  simp +contextual [drivePin, v, u, porLow]

/-- A commit that runs goes on from VDD_HOLD. -/
theorem mainPowerLoss_commits (hc : s.pwr.commit = some k) : ∃ t, exec .mainPowerLoss s = .next t ∧
    t.pwr.commit = some k ∧ t.sup.vddVault = false ∧ t.sup.vddHold = s.sup.vddHold ∧ t.bk = s.bk ∧
    t.tal = s.tal ∧ t.flash = s.flash := by
  let u := { porLow s with sup := { s.sup with porN := false, railsUp := false, vddVault := false, pg := 0 } }
  refine ⟨drivePin (losePowerTag u), congrArg Host.Outcome.next (if_pos (by simp [porLow, hc])), ?_⟩
  rw [losePowerTag_eq u]
  exact ⟨hc, rfl, rfl, rfl, rfl, rfl⟩

/-! ### The release and the boot (R53, R93) -/

theorem computeDieRelease_releases (h : releasable s = true) : ∃ t, exec .computeDieRelease s = .next t ∧
    t.pwr = { s.pwr with released := true, holdAbsent := !s.sup.vddHold } ∧ t.pins.holdDone = false ∧
    t.bk.disarmed = false ∧ t.mem = s.mem := by
  refine ⟨releaseDie s, congrArg Host.Outcome.next (if_pos h), ?_⟩
  simp only [releaseDie]
  rw [raiseEvent_eq]
  split <;> exact ⟨rfl, rfl, rfl, rfl⟩

theorem computeDieRelease_held (h : releasable s = false) : exec .computeDieRelease s = .next s :=
  congrArg Host.Outcome.next (if_neg (by simp [h]))

/-- A boot brings the part up: it finds POR_N and PWRFAIL_N high by the model's choice (log entry 111). -/
theorem boot_up (env : BootEnv) (hu : s.pwr.up = false) (ht : s.pwr.tripped = false) (hc : s.pwr.commit = none) :
    ∃ t, exec (.boot env) s = .next t ∧ t.pwr.up = true ∧ t.pwr.released = true ∧
      t.sup = { s.sup with
        porN := true, pwrfailN := true, pg := 0xF, railsUp := true, vddVault := true
        vddHold := env.vddHold, vbat := env.vbat } ∧
      t.lcs.cycles = s.lcs.cycles + 1 ∧ t.msub.trained = env.trained ∧ t.fabric.linkUp = env.pairs ∧
      t.tal.isOpen = true ∧ t.bk.valid = true ∧ (s.bk.valid = false → t.bk.lock = 2) ∧
      (s.bk.valid = true → t.bk.lock = s.bk.lock) ∧ t.flash.items = s.flash.items ∧
      ((s.bank s.upd.select).verified = true → env.bankFails = false → t.upd.running = some s.upd.select) := by
  have h := boot_startup env s
  simp only [State.platform, Platform.startup, Startup.mk.injEq, Update.mk.injEq] at h
  obtain ⟨hsup, hvalid, hlock, hreleased, hcycles, htrained, hlink, hitems, -, -, -, hrunning, -⟩ := h
  have hexec : exec (.boot env) s = .next (boot env s) := congrArg Host.Outcome.next (if_neg (by simp [hu, ht, hc]))
  exact ⟨boot env s, hexec, rfl, hreleased, hsup, hcycles, htrained, hlink, boot_isOpen env s, hvalid,
    fun hb => by simp [hlock, hb], fun hb => by simp [hlock, hb], hitems,
    fun hverified hfails => hrunning.trans (chosenImage_selected hverified hfails)⟩

theorem boot_running (env : BootEnv) (hu : s.pwr.up = true) : exec (.boot env) s = .next s :=
  congrArg Host.Outcome.next (if_pos (by simp [hu]))

end Sys2Proof.Machine
end

section
open Sys2Proof Sys2Proof.Machine

/-- Settles O53: each supply event by the lemma of its row, the boot by what its steps bring up one after the other. -/
theorem supplyEventsCommitResetAndBootThePart : Obligations.SupplyEventsCommitResetAndBootThePart := by
  unfold Obligations.SupplyEventsCommitResetAndBootThePart
  intro vault input k env s p
  exact ⟨
    fun hr hc => ⟨pwrfailNAssert_starts hr hc, railUndervoltage_starts hr hc vault, powerGoodFall_starts hr hc input⟩,
    fun hc => triggers_running hc vault, powerGoodFall_off input, commitComplete_idle,
    fun hc ht => ⟨commitComplete_held hc ht, fun hv _ => commitComplete_unheld hc ht hv, commitStopped_off hc ht⟩,
    porNAssert_off, porNAssert_commits, lifecycleReset_off, lifecycleReset_idle, mainPowerLoss_off, mainPowerLoss_commits,
    rfl, computeDieRelease_releases, computeDieRelease_held, boot_up env, boot_running env⟩

end

section
/-! PROOFS. The rows of the temperature, the power bus, adaptive voltage, the PLLs and the crystal (R49, R50, R66-R69,
R84-R91). -/

namespace Sys2Proof.Machine

open Sys2Proof.Claims

variable {s t : State}

/-! ### Notices: the recorder, a message, a health flag -/

@[simp] theorem sendMsix_tal (f v) : (sendMsix f v s).tal = s.tal := by
  simp only [sendMsix]
  split
  · rfl
  split
  · rw [raiseEvent_tal, State.setFn]
  · rfl

@[simp] theorem noteHealth_tal (before) : (noteHealth before s).tal = s.tal := by
  unfold noteHealth notifyGlobal
  split
  · rfl
  · split <;> simp

theorem pwr_of_platform (h : t.platform = s.platform) : t.pwr = s.pwr := congrArg Platform.pwr h

@[simp] theorem raiseEvent_pwr (source d) : (raiseEvent source d s).pwr = s.pwr := pwr_of_platform (raiseEvent_platform ..)
@[simp] theorem noteHealth_pwr (before) : (noteHealth before s).pwr = s.pwr := pwr_of_platform (noteHealth_platform ..)
@[simp] theorem raiseAvs_pwr : (raiseAvs s).pwr = s.pwr := raiseEvent_pwr ..

@[simp] theorem raisePll_platform (pll) : (raisePll pll s).platform = s.platform := raiseEvent_platform ..

/-! ### Temperature (R49, R91) -/

/-- A reading moves the junction, the alert and the throttle. -/
theorem setThermal_eq (j : BitVec 16) (alert : Bool) (throttle : BitVec 4) (s : State) :
    (setThermal j alert throttle s).mem = s.mem ∧
      (setThermal j alert throttle s).pwr = { s.pwr with junction := j, throttle } ∧
      (setThermal j alert throttle s).pins = { s.pins with thermAlert := alert } := by
  simp only [setThermal]
  split
  · exact ⟨rfl, rfl, rfl⟩
  · have hnotice (u : State) : (noteHealth s (raiseThermal u)).platform = u.platform := by simp [raiseThermal]
    obtain ⟨-, -, hpins, hpwr, -⟩ := fields_of_platform (hnotice _)
    exact ⟨by simp [raiseThermal], hpwr, hpins⟩

section
variable (hr : s.pwr.released = true) (j : BitVec 16)
include hr

theorem thermalAlert_reads : let high := decide ((Config.alertCelsius : Int) < j.toInt)
    ∃ t, exec (.thermalAlert j) s = .next t ∧ t.mem = s.mem ∧
      t.pwr = (if high then { s.pwr with junction := j } else s.pwr) ∧
      t.pins = (if high then { s.pins with thermAlert := true } else s.pins) := by
  by_cases h : (Config.alertCelsius : Int) < j.toInt
  · simp only [h, decide_true, if_true]
    exact ⟨_, congrArg Host.Outcome.next (if_pos ⟨hr, h⟩), setThermal_eq ..⟩
  · simp only [h, decide_false, Bool.false_eq_true, if_false]
    exact ⟨s, congrArg Host.Outcome.next (if_neg fun hh => h hh.2), rfl, rfl, rfl⟩

theorem thermalAlertClear_reads : let high := decide ((Config.alertCelsius : Int) < j.toInt)
    ∃ t, exec (.thermalAlertClear j) s = .next t ∧ t.mem = s.mem ∧
      t.pwr = (if high then s.pwr else { s.pwr with junction := j }) ∧
      t.pins = (if high then s.pins else { s.pins with thermAlert := false }) := by
  by_cases h : (Config.alertCelsius : Int) < j.toInt
  · simp only [h, decide_true, if_true]
    exact ⟨s, congrArg Host.Outcome.next (if_neg fun hh => absurd h (Int.not_lt.2 hh.2)), rfl, rfl, rfl⟩
  · simp only [h, decide_false, Bool.false_eq_true, if_false]
    exact ⟨_, congrArg Host.Outcome.next (if_pos ⟨hr, Int.not_lt.1 h⟩), setThermal_eq ..⟩

/-- One step down above the threshold, one up from three degrees below it. -/
theorem throttleStep_steps : let high := decide ((Config.alertCelsius : Int) < j.toInt)
    ∃ t, exec (.throttleStep j) s = .next t ∧ t.pins = s.pins ∧ t.mem = s.mem ∧ t.pwr.junction = j ∧ t.pwr.throttle =
      (if high then (if s.pwr.throttle.toNat < 4 then s.pwr.throttle + 1 else s.pwr.throttle)
       else if j.toInt + 3 ≤ (Config.alertCelsius : Int) ∧ s.pwr.throttle ≠ 0 then s.pwr.throttle - 1 else s.pwr.throttle) := by
  refine ⟨_, congrArg Host.Outcome.next (if_pos hr), ?_⟩
  generalize hn : (if (Config.alertCelsius : Int) < j.toInt then _ else _ : BitVec 4) = next
  obtain ⟨hmem, hpwr, hpins⟩ := setThermal_eq j s.pins.thermAlert next s
  refine ⟨hpins, hmem, by rw [hpwr], ?_⟩
  rw [hpwr, ← hn]
  by_cases h : (Config.alertCelsius : Int) < j.toInt
  · simp [h]
  by_cases hl : j.toInt + 3 ≤ (Config.alertCelsius : Int) <;> by_cases h0 : s.pwr.throttle = 0 <;> simp [h, hl, h0]

/-- A trip asserts its pin, keeps the part gated and starts the commit (R50). -/
theorem thermalTrip_trips (ht : s.pwr.tripped = false) (hc : s.pwr.commit = none) :
    ∃ t, exec (.thermalTrip j) s = .next t ∧ commits 4 t ∧ t.pins.thermTrip = true ∧ t.pwr.tripped = true ∧
      t.pwr.junction = j ∧ t.pwr.rstCause.getLsbD 4 = true ∧ t.bk.disarmed = true := by
  let u := { s with
    pins := { s.pins with thermTrip := true }
    pwr := { s.pwr with tripped := true, junction := j, rstCause := setBit s.pwr.rstCause 4 true } }
  let v := raiseEvent 300 (detail [(1, u.pwr.throttle.toNat), (2, j.toNat)]) u
  obtain ⟨-, -, hpins, hpwr, -⟩ := fields_of_platform (show v.platform = u.platform by simp [v])
  have hr' : v.pwr.released = true := hpwr ▸ hr
  have hc' : v.pwr.commit = none := hpwr ▸ hc
  obtain ⟨hcommits, -, hpin, hpower, hbk⟩ := triggerCommit_starts (kind := 4) hr' hc'
  refine ⟨_, congrArg Host.Outcome.next (if_neg (by simp [ht, hr])), hcommits, ?_⟩
  rw [hpin, hpower, hbk, hpins, hpwr]
  simp [u]

end

theorem thermalTrip_tripped (j : BitVec 16) (ht : s.pwr.tripped = true) : exec (.thermalTrip j) s = .next s :=
  congrArg Host.Outcome.next (if_pos (by simp [ht]))

/-! ### The power bus (R69) -/

/-- Steps that change the recorder alone do so one after the other. -/
theorem foldl_evr {β : Type} (f : State → β → State) (hf : ∀ s b, f s b = { s with evr := (f s b).evr }) (l : List β)
    (s : State) : l.foldl f s = { s with evr := (l.foldl f s).evr } := by
  induction l generalizing s with
  | nil => rfl
  | cons b l ih => rw [List.foldl_cons, ih, hf s b]

/-- Messages sent under a condition that no message changes leave in the order of the list. -/
theorem foldl_emit_eq {β : Type} (cond : β → State → Bool) (hc : ∀ b o s, cond b (s.emit o) = cond b s) (msg : β → Out)
    (l : List β) (s : State) : l.foldl (fun s b => if cond b s then s.emit (msg b) else s) s =
      { s with out := ((l.filter (cond · s)).map msg).reverse ++ s.out } := by
  induction l generalizing s with
  | nil => rfl
  | cons b l ih =>
    rw [List.foldl_cons, ih]
    cases h : cond b s
    · simp [h]
    · have hfilter : (b :: l).filter (cond · s) = b :: l.filter (cond · s) := List.filter_cons_of_pos h
      rw [hfilter, if_pos rfl]
      simp only [hc]
      simp [State.emit]

/-- An alert records what the regulators report, and sends CLEAR_FAULTS to each that is configured and reports a fault. -/
theorem execPmAlert_eq (status : List (BitVec 16)) (collapsed : Bool) (hr : s.pwr.released = true) :
    ∃ evr, execPmAlert status collapsed s = .next (
      let faults := (List.range 4).filter fun rail => railConfigured rail s && decide (status.getD rail 0 ≠ 0)
      let t := { s with evr, out := (faults.map fun rail => .pmbus rail 3 none).reverse ++ s.out }
      if collapsed then triggerCommit 1 t else t) := by
  unfold execPmAlert
  extract_lets s₁ s₂
  have h₁ : s₁ = { s with evr := s₁.evr } := foldl_evr _ (fun t rail => by
    split
    · split
      · exact raiseEvent_eq ..
      · rfl
    · rfl) _ _
  have h₂ := foldl_emit_eq (fun rail t => railConfigured rail t && decide (status.getD rail 0 ≠ 0)) (fun _ _ _ => rfl)
    (fun rail => .pmbus rail 3 none) (List.range 4) s₁
  refine ⟨s₁.evr, ?_⟩
  rw [if_neg (by simp [hr]), show s₂ = _ from h₂, h₁]
  rfl

section
variable (hr : s.pwr.released = true) (status : List (BitVec 16))
include hr

theorem pmAlert_clears : ∃ t, exec (.pmAlert status false) s = .next t ∧ t.pwr = s.pwr ∧ t.mem = s.mem ∧ t.tasks = s.tasks ∧
    ∀ rail, rail < 4 → railConfigured rail s = true → status.getD rail 0 ≠ 0 → .pmbus rail 3 none ∈ t.out := by
  obtain ⟨evr, hexec⟩ := execPmAlert_eq status false hr
  refine ⟨_, hexec, rfl, rfl, rfl, fun rail hlt hconf hne => ?_⟩
  have hfault : rail ∈ (List.range 4).filter fun r => railConfigured r s && decide (status.getD r 0 ≠ 0) :=
    List.mem_filter.2 ⟨List.mem_range.2 hlt, by simpa [hconf] using hne⟩
  exact List.mem_append_left _ (List.mem_reverse.2 (List.mem_map.2 ⟨rail, hfault, rfl⟩))

theorem pmAlert_collapse (hc : s.pwr.commit = none) : ∃ t, exec (.pmAlert status true) s = .next t ∧ commits 1 t := by
  obtain ⟨evr, hexec⟩ := execPmAlert_eq status true hr
  refine ⟨_, hexec, ?_⟩
  obtain ⟨hcommits, -⟩ := triggerCommit_starts (kind := 1) (s := { s with evr, out := _ }) hr hc
  exact hcommits

/-- The retry that reads a value resumes adaptive voltage from it; a failed one counts as one more failure (R69). -/
theorem pmbusRetry_retries (mv : BitVec 10) (hf : s.pwr.avsFault = true) :
    (∃ t, exec (.pmbusRetry true mv) s = .next t ∧ t.mem = s.mem ∧
      t.pwr = { s.pwr with avsFault := false, pmFails := 0, unacked := none, setpoint := mv, goodWindows := 0 }) ∧
    (∃ t, exec (.pmbusRetry false mv) s = .next t ∧ t.mem = s.mem ∧
      t.pwr = { s.pwr with pmFails := s.pwr.pmFails + 1 }) := by
  have hexec (answers : Bool) : exec (.pmbusRetry answers mv) s = .next (if answers then _ else _) :=
    congrArg Host.Outcome.next (if_neg (by simp [hf, hr]))
  refine ⟨⟨_, hexec true, ?_⟩, ⟨_, hexec false, ?_⟩⟩
  · simp only [if_true, noteHealth_mem, raiseAvs_mem, noteHealth_pwr, raiseAvs_pwr, State.used, raiseEvent_mem, raiseEvent_pwr,
      and_self]
  · simp

end

theorem pmbusRetry_idle (ack : Bool) (mv : BitVec 10) (hf : s.pwr.avsFault = false) : exec (.pmbusRetry ack mv) s = .next s :=
  congrArg Host.Outcome.next (if_pos (by simp [hf]))

/-! ### Adaptive voltage (R66-R69, R90) -/

/-- The limits where the setpoint may move by 10 mV either way. -/
theorem limits_of_roomToMove {m n : Nat} (h : roomToMove m s = true) (hn : n ≤ m) :
    setpointLow n s + 10 ≤ s.pwr.setpoint.toNat ∧ s.pwr.setpoint.toNat + 10 ≤ setpointHigh s := by
  simp only [roomToMove, Bool.and_eq_true, decide_eq_true_eq] at h
  obtain ⟨⟨⟨⟨⟨⟨-, hbst⟩, hlow⟩, hmin⟩, hfused⟩, hhigh⟩, hmax⟩ := h
  simp only [setpointLow, setpointHigh, hbst, if_true]
  omega

theorem avsRuns_of_roomToMove {m : Nat} (h : roomToMove m s = true) : avsRuns s = true := by
  simp only [roomToMove, Bool.and_eq_true] at h
  obtain ⟨⟨⟨⟨⟨⟨hruns, -⟩, -⟩, -⟩, -⟩, -⟩, -⟩ := h
  exact hruns

/-- The counts of a window: the clocks that stay halved, and the good windows in a row. -/
def countWindow (halved : BitVec 64) (good : Nat) (s : State) : State :=
  { s with pwr := { s.pwr with halved, goodWindows := good } }

/-- Where a setpoint within its limits and 10 mV is wanted, it is written, unless it stands there. -/
theorem stepSetpoint_countWindow {want m good : Nat} {halved : BitVec 64} (ack : Bool) (hl : setpointLow m s ≤ want)
    (hh : want ≤ setpointHigh s) (hd : s.pwr.setpoint.toNat ≤ want + 10) (hu : want ≤ s.pwr.setpoint.toNat + 10) :
    stepSetpoint want m ack (countWindow halved good s) =
      if want = s.pwr.setpoint.toNat then countWindow halved good s
      else writeSetpoint (BitVec.ofNat 10 want) ack (countWindow halved good s) := by
  have hv : min (s.pwr.setpoint.toNat + 10) (max (s.pwr.setpoint.toNat - 10)
      (max (setpointLow m s) (min (setpointHigh s) want))) = want := by omega
  have hlow : setpointLow m (countWindow halved good s) = setpointLow m s := rfl
  have hhigh : setpointHigh (countWindow halved good s) = setpointHigh s := rfl
  have hat : (countWindow halved good s).pwr.setpoint = s.pwr.setpoint := rfl
  simp only [stepSetpoint, hlow, hhigh, hat, hv]

section
variable {m n : Nat} (halved : BitVec 64) (good : Nat) (h : roomToMove m s = true) (hn : n ≤ m) (ack : Bool)
include h hn

theorem stepSetpoint_raise : stepSetpoint (s.pwr.setpoint.toNat + 10) n ack (countWindow halved good s) =
    writeSetpoint (s.pwr.setpoint + 10) ack (countWindow halved good s) := by
  obtain ⟨hlow, hhigh⟩ := limits_of_roomToMove h hn
  rw [stepSetpoint_countWindow ack (by omega) hhigh (by omega) (by omega), if_neg (by omega),
    show BitVec.ofNat 10 (s.pwr.setpoint.toNat + 10) = s.pwr.setpoint + 10 by bv_omega]

theorem stepSetpoint_hold :
    stepSetpoint s.pwr.setpoint.toNat n ack (countWindow halved good s) = countWindow halved good s := by
  obtain ⟨hlow, hhigh⟩ := limits_of_roomToMove h hn
  rw [stepSetpoint_countWindow ack (by omega) (by omega) (by omega) (by omega), if_pos rfl]

theorem stepSetpoint_lower : stepSetpoint (s.pwr.setpoint.toNat - 10) n ack (countWindow halved good s) =
    writeSetpoint (s.pwr.setpoint - 10) ack (countWindow halved good s) := by
  obtain ⟨hlow, hhigh⟩ := limits_of_roomToMove h hn
  rw [stepSetpoint_countWindow ack (by omega) (by omega) (by omega) (by omega), if_neg (by omega),
    show BitVec.ofNat 10 (s.pwr.setpoint.toNat - 10) = s.pwr.setpoint - 10 by bv_omega]

end

theorem writeSetpoint_acknowledged (v : BitVec 10) (s : State) : (writeSetpoint v true s).mem = s.mem ∧
    (writeSetpoint v true s).pwr = { s.pwr with setpoint := v, pmFails := 0, goodWindows := 0 } := ⟨rfl, rfl⟩

/-- A write without acknowledgement stops adaptive voltage at once, the model's choice (log entry 87), at the lower value. -/
theorem writeSetpoint_unacknowledged (v : BitVec 10) (s : State) : (writeSetpoint v false s).mem = s.mem ∧
    (writeSetpoint v false s).pwr = { s.pwr with
      avsFault := true, pmFails := 3, unacked := some v, goodWindows := 0
      setpoint := if v.toNat < s.pwr.setpoint.toNat then v else s.pwr.setpoint } := by
  simp [writeSetpoint, State.emit]

/-- The end of a window while adaptive voltage runs: by its slack the setpoint rises, stays, or falls after sixteen good
windows. -/
theorem execAvsWindow_eq (slack : Nat) (m : BitVec 10) (ack : Bool) (h : avsRuns s = true) :
    exec (.avsWindow slack m ack) s = .next (
    if slack < 8 then stepSetpoint (s.pwr.setpoint.toNat + 10) m.toNat ack (countWindow s.pwr.halved 0 s)
    else if slack < 12 then stepSetpoint s.pwr.setpoint.toNat m.toNat ack (countWindow 0 0 s)
    else if s.pwr.goodWindows < 15 then
      stepSetpoint s.pwr.setpoint.toNat m.toNat ack (countWindow 0 (s.pwr.goodWindows + 1) s)
    else stepSetpoint (s.pwr.setpoint.toNat - 10) m.toNat ack (countWindow 0 0 s)) := by
  show execAvsWindow slack m ack s = _
  have h16 : (s.pwr.goodWindows + 1 < 16) = (s.pwr.goodWindows < 15) := propext (by omega)
  by_cases h8 : slack < 8
  · simp only [execAvsWindow, h, h8, Nat.not_le.2 h8, if_true, if_false]
    rfl
  · simp only [execAvsWindow, h, h8, Nat.not_lt.1 h8, h16, if_true, if_false]
    rfl

theorem execTimingMarginLow_eq (dom : BitVec 6) (h : avsRuns s = true) : exec (.timingMarginLow dom) s =
    .next (stepSetpoint (s.pwr.setpoint.toNat + 10) 0 true (countWindow (setBit s.pwr.halved dom.toNat true) 0 s)) :=
  congrArg Host.Outcome.next (if_neg (by simp [h]))

section
variable {m : BitVec 10} (h : roomToMove m.toNat s = true) (slack : Nat)
include h

theorem avsWindow_raises (hs : slack < 8) : ∃ t, exec (.avsWindow slack m true) s = .next t ∧ t.mem = s.mem ∧
    t.pwr = { s.pwr with setpoint := s.pwr.setpoint + 10, pmFails := 0, goodWindows := 0 } := by
  rw [execAvsWindow_eq slack m true (avsRuns_of_roomToMove h), if_pos hs, stepSetpoint_raise _ _ h (Nat.le_refl _)]
  exact ⟨_, rfl, writeSetpoint_acknowledged ..⟩

theorem avsWindow_unacknowledged (hs : slack < 8) : ∃ t, exec (.avsWindow slack m false) s = .next t ∧ t.mem = s.mem ∧
    t.pwr.avsFault = true ∧ t.pwr.setpoint = s.pwr.setpoint ∧ t.pwr.unacked = some (s.pwr.setpoint + 10) := by
  rw [execAvsWindow_eq slack m false (avsRuns_of_roomToMove h), if_pos hs, stepSetpoint_raise _ _ h (Nat.le_refl _)]
  obtain ⟨hmem, hpwr⟩ := writeSetpoint_unacknowledged (s.pwr.setpoint + 10) (countWindow s.pwr.halved 0 s)
  have hup : ¬ (s.pwr.setpoint + 10).toNat < s.pwr.setpoint.toNat := by
    obtain ⟨-, hhigh⟩ := limits_of_roomToMove h (Nat.le_refl _)
    have hmax : setpointHigh s ≤ 850 := by simp only [setpointHigh]; omega
    bv_omega
  refine ⟨_, rfl, hmem, ?_⟩
  rw [hpwr]
  exact ⟨rfl, if_neg hup, rfl⟩

theorem avsWindow_holds (ack : Bool) (hs : 8 ≤ slack) (hs' : slack < 12) : exec (.avsWindow slack m ack) s =
    .next { s with pwr := { s.pwr with halved := 0, goodWindows := 0 } } := by
  rw [execAvsWindow_eq slack m ack (avsRuns_of_roomToMove h), if_neg (Nat.not_lt.2 hs), if_pos hs',
    stepSetpoint_hold _ _ h (Nat.le_refl _)]
  rfl

theorem avsWindow_counts (ack : Bool) (hs : 12 ≤ slack) (hg : s.pwr.goodWindows < 15) : exec (.avsWindow slack m ack) s =
    .next { s with pwr := { s.pwr with halved := 0, goodWindows := s.pwr.goodWindows + 1 } } := by
  rw [execAvsWindow_eq slack m ack (avsRuns_of_roomToMove h), if_neg (by omega), if_neg (by omega), if_pos hg,
    stepSetpoint_hold _ _ h (Nat.le_refl _)]
  rfl

theorem avsWindow_lowers (hs : 12 ≤ slack) (hg : 15 ≤ s.pwr.goodWindows) : ∃ t, exec (.avsWindow slack m true) s = .next t ∧
    t.mem = s.mem ∧ t.pwr = { s.pwr with halved := 0, setpoint := s.pwr.setpoint - 10, pmFails := 0, goodWindows := 0 } := by
  rw [execAvsWindow_eq slack m true (avsRuns_of_roomToMove h), if_neg (by omega), if_neg (by omega), if_neg (by omega),
    stepSetpoint_lower _ _ h (Nat.le_refl _)]
  exact ⟨_, rfl, writeSetpoint_acknowledged ..⟩

theorem timingMarginLow_raises (dom : BitVec 6) : ∃ t, exec (.timingMarginLow dom) s = .next t ∧ t.mem = s.mem ∧
    t.pwr = { s.pwr with
      halved := setBit s.pwr.halved dom.toNat true, setpoint := s.pwr.setpoint + 10, pmFails := 0, goodWindows := 0 } := by
  rw [execTimingMarginLow_eq dom (avsRuns_of_roomToMove h), stepSetpoint_raise _ _ h (Nat.zero_le _)]
  exact ⟨_, rfl, writeSetpoint_acknowledged ..⟩

end

theorem avs_off (slack : Nat) (m : BitVec 10) (dom : BitVec 6) (ack : Bool) (h : avsRuns s = false) :
    exec (.avsWindow slack m ack) s = .next s ∧ exec (.timingMarginLow dom) s = .next s :=
  ⟨congrArg Host.Outcome.next (if_pos (by simp [h])), congrArg Host.Outcome.next (if_pos (by simp [h]))⟩

/-! ### PLLs (R84, R86) -/

/-- The part's own PLL of a class hands its domains to the twin, whatever jobs run again. -/
theorem pllLossOfLock_moves (pll : BitVec 4) (hup : s.pwr.up = true) (hlt : pll.toNat < 10) (heven : pll.toNat % 2 = 0)
    (hl : s.pwr.unlocked.getLsbD pll.toNat = false) (htwin : s.pwr.unlocked.getLsbD (pll.toNat + 1) = false)
    (hon : s.pwr.onTwin.getLsbD (pll.toNat / 2) = false) : ∃ t, exec (.pllLossOfLock pll) s = .next t ∧
      t.pwr.unlocked = setBit s.pwr.unlocked pll.toNat true ∧ t.pwr.onTwin = setBit s.pwr.onTwin (pll.toNat / 2) true := by
  let u := { s with pwr := { s.pwr with
    unlocked := setBit s.pwr.unlocked pll.toNat true, onTwin := setBit s.pwr.onTwin (pll.toNat / 2) true } }
  have hexec : exec (.pllLossOfLock pll) s = .next (afterJob (rerunClass (pll.toNat / 2) (raisePll pll.toNat u))) := by
    show execPllLossOfLock pll s = _
    have h11 : ¬ 11 < pll.toNat := by omega
    simp [execPllLossOfLock, hup, h11, hl, hlt, heven, htwin, hon, u]
  have hpwr : (afterJob (rerunClass (pll.toNat / 2) (raisePll pll.toNat u))).pwr = u.pwr :=
    pwr_of_platform (by simp only [afterJob_platform, rerunClass_platform, raisePll_platform])
  refine ⟨_, hexec, ?_⟩
  rw [hpwr]
  exact ⟨rfl, rfl⟩

theorem pllLossOfLock_again (pll : BitVec 4) (hl : s.pwr.unlocked.getLsbD pll.toNat = true) :
    exec (.pllLossOfLock pll) s = .next s :=
  congrArg Host.Outcome.next (if_pos (by simp [hl]))

theorem pllRelock_ends (pll : BitVec 4) (hl : s.pwr.unlocked.getLsbD pll.toNat = true) (heven : pll.toNat % 2 = 0)
    (htwin : s.pwr.unlocked.getLsbD (pll.toNat + 1) = false) : ∃ t, exec (.pllRelock pll) s = .next t ∧
      t.pwr = { s.pwr with unlocked := setBit s.pwr.unlocked pll.toNat false } ∧ t.mem = s.mem := by
  refine ⟨_, congrArg Host.Outcome.next (if_neg (by simp [hl])), ?_⟩
  simp [raisePll, heven, htwin]

theorem pllRelock_locked (pll : BitVec 4) (hl : s.pwr.unlocked.getLsbD pll.toNat = false) : exec (.pllRelock pll) s = .next s :=
  congrArg Host.Outcome.next (if_pos (by simp [hl]))

/-! ### The crystal (R88, R89) -/

/-- A change of the time source flags the open span. -/
theorem setTimeSource_eq (crystalOk scaled : Bool) (s : State) :
    (setTimeSource crystalOk scaled s).pwr = { s.pwr with crystalOk, scaled } ∧
      (setTimeSource crystalOk scaled s).tal = { s.tal with flags := s.tal.flags ||| 1 } ∧
      (setTimeSource crystalOk scaled s).mem = s.mem := by
  simp [setTimeSource]

theorem crystal_lost (hs : s.pwr.scaled = false) : exec .crystalReturn s = .next s ∧ ∃ t, exec .crystalLoss s = .next t ∧
    t.pwr = { s.pwr with crystalOk := false, scaled := true } ∧ t.tal = { s.tal with flags := s.tal.flags ||| 1 } ∧
      t.mem = s.mem :=
  have hn : ¬ s.pwr.scaled = true := Bool.eq_false_iff.1 hs
  ⟨congrArg Host.Outcome.next (if_neg hn), _, congrArg Host.Outcome.next (if_neg hn), setTimeSource_eq ..⟩

theorem crystal_returned (hs : s.pwr.scaled = true) : exec .crystalLoss s = .next s ∧ ∃ t, exec .crystalReturn s = .next t ∧
    t.pwr = { s.pwr with crystalOk := true, scaled := false } ∧ t.tal = { s.tal with flags := s.tal.flags ||| 1 } ∧
      t.mem = s.mem :=
  ⟨congrArg Host.Outcome.next (if_pos hs), _, congrArg Host.Outcome.next (if_pos hs), setTimeSource_eq ..⟩

theorem ratioMeasurement_taken (ratio : BitVec 32) (hc : s.pwr.crystalOk = true) (hs : s.pwr.scaled = false) :
    exec (.ratioMeasurement ratio) s = .next { s with pwr := { s.pwr with ratio } } :=
  congrArg Host.Outcome.next (if_pos (by simp [hc, hs]))

theorem ratioMeasurement_ignored (ratio : BitVec 32) (h : s.pwr.crystalOk = false ∨ s.pwr.scaled = true) :
    exec (.ratioMeasurement ratio) s = .next s :=
  congrArg Host.Outcome.next (if_neg (by rcases h with h | h <;> simp [h]))

end Sys2Proof.Machine
end

section
open Sys2Proof Sys2Proof.Machine

/-- Settles O54: each row by its lemma; the windows by where the setpoint may move, the PLL by what a rerun leaves. -/
theorem temperatureVoltageAndClocksFollowTheirLimits : Obligations.TemperatureVoltageAndClocksFollowTheirLimits := by
  unfold Obligations.TemperatureVoltageAndClocksFollowTheirLimits
  intro j slack m mv dom ack status pll ratio s p high
  exact ⟨
    fun hr => ⟨thermalAlert_reads hr j, thermalAlertClear_reads hr j, throttleStep_steps hr j, thermalTrip_trips hr j,
      thermalTrip_tripped j, pmAlert_clears hr status, pmAlert_collapse hr status, pmbusRetry_retries hr mv,
      pmbusRetry_idle ack mv⟩,
    fun h => ⟨avsWindow_raises h slack, avsWindow_unacknowledged h slack, avsWindow_holds h slack ack,
      avsWindow_counts h slack ack, avsWindow_lowers h slack, timingMarginLow_raises h dom⟩,
    avs_off slack m dom ack, pllLossOfLock_moves pll, pllLossOfLock_again pll,
    fun hl _ heven htwin => pllRelock_ends pll hl heven htwin, pllRelock_locked pll, crystal_lost, crystal_returned,
    ratioMeasurement_taken ratio, ratioMeasurement_ignored ratio⟩

end
